-- ==== Sys2Proof/Word.lean ====
section
/-! DEFINITION. Words, names and small fixed families that the whole model shares (00_scope.md section 6). -/

namespace Sys2Proof

abbrev Byte := BitVec 8
abbrev Half := BitVec 16
abbrev Word := BitVec 32

/-- A set of segments: segment k is bit k − 1 (00_scope.md section 6, R176). -/
abbrev SegSet := BitVec 24
/-- Segment k, and loop position k, is index k − 1. -/
abbrev SegId := Fin 24
/-- Message identifier m is index m − 1 (R106). -/
abbrev MsgId := Fin 64
/-- A byte of the message memory: 1024 blocks of 4096 bytes (R105). -/
abbrev MemAddr := BitVec 22

/-- The six entries of a segment (R39). -/
inductive Entry where
  | c1 | c2 | c3 | c4 | rs | bc
  deriving DecidableEq, Repr

/-- The four operators and their carrier entries (R39). -/
inductive Carrier where
  | c1 | c2 | c3 | c4
  deriving DecidableEq, Repr

/-- The talk channels (R86). -/
inductive Chan where
  | t1 | t2
  deriving DecidableEq, Repr

/-- The playout channels (R119). -/
inductive PChan where
  | p1 | p2 | p3 | p4
  deriving DecidableEq, Repr

/-- The command ports (00_scope.md section 4). -/
inductive Port where
  | o | e | c
  deriving DecidableEq, Repr

/-- The loop ports, and the two links of a line unit (00_scope.md section 6). -/
inductive Side where
  | left | right
  deriving DecidableEq, Repr

def Side.other : Side → Side
  | .left => .right
  | .right => .left

/-- One value for each entry, in entry order (R53). -/
structure Six (α : Type) where
  c1 : α
  c2 : α
  c3 : α
  c4 : α
  rs : α
  bc : α
  deriving DecidableEq, Repr

/-- One value for each operator, or for each playout channel. -/
structure Four (α : Type) where
  c1 : α
  c2 : α
  c3 : α
  c4 : α
  deriving DecidableEq, Repr

/-- One value for each talk channel, or for each loop side. -/
structure Pair (α : Type) where
  t1 : α
  t2 : α
  deriving DecidableEq, Repr

/-- One value for each port, in port order O, E, C (R179). -/
structure Tri (α : Type) where
  o : α
  e : α
  c : α
  deriving DecidableEq, Repr

namespace Six
variable {α β γ : Type}

def all (a : α) : Six α := ⟨a, a, a, a, a, a⟩

def get (v : Six α) : Entry → α
  | .c1 => v.c1 | .c2 => v.c2 | .c3 => v.c3 | .c4 => v.c4 | .rs => v.rs | .bc => v.bc

def set (v : Six α) (e : Entry) (a : α) : Six α :=
  match e with
  | .c1 => { v with c1 := a } | .c2 => { v with c2 := a } | .c3 => { v with c3 := a }
  | .c4 => { v with c4 := a } | .rs => { v with rs := a } | .bc => { v with bc := a }

/-- One value for each entry, from its name. -/
def build (f : Entry → α) : Six α := ⟨f .c1, f .c2, f .c3, f .c4, f .rs, f .bc⟩

def map (f : α → β) (v : Six α) : Six β := ⟨f v.c1, f v.c2, f v.c3, f v.c4, f v.rs, f v.bc⟩

def zipWith (f : α → β → γ) (v : Six α) (w : Six β) : Six γ :=
  ⟨f v.c1 w.c1, f v.c2 w.c2, f v.c3 w.c3, f v.c4 w.c4, f v.rs w.rs, f v.bc w.bc⟩

def toList (v : Six α) : List α := [v.c1, v.c2, v.c3, v.c4, v.rs, v.bc]

def total (v : Six Nat) : Nat := v.c1 + v.c2 + v.c3 + v.c4 + v.rs + v.bc

end Six

namespace Four
variable {α β γ : Type}

def all (a : α) : Four α := ⟨a, a, a, a⟩

def get (v : Four α) : Carrier → α
  | .c1 => v.c1 | .c2 => v.c2 | .c3 => v.c3 | .c4 => v.c4

def set (v : Four α) (e : Carrier) (a : α) : Four α :=
  match e with
  | .c1 => { v with c1 := a } | .c2 => { v with c2 := a }
  | .c3 => { v with c3 := a } | .c4 => { v with c4 := a }

/-- One value for each operator, from its name. -/
def build (f : Carrier → α) : Four α := ⟨f .c1, f .c2, f .c3, f .c4⟩

def map (f : α → β) (v : Four α) : Four β := ⟨f v.c1, f v.c2, f v.c3, f v.c4⟩

def zipWith (f : α → β → γ) (v : Four α) (w : Four β) : Four γ :=
  ⟨f v.c1 w.c1, f v.c2 w.c2, f v.c3 w.c3, f v.c4 w.c4⟩

def toList (v : Four α) : List α := [v.c1, v.c2, v.c3, v.c4]

def total (v : Four Nat) : Nat := v.c1 + v.c2 + v.c3 + v.c4

/-- The value of a playout channel. -/
def pget (v : Four α) : PChan → α
  | .p1 => v.c1 | .p2 => v.c2 | .p3 => v.c3 | .p4 => v.c4

def pset (v : Four α) (c : PChan) (a : α) : Four α :=
  match c with
  | .p1 => { v with c1 := a } | .p2 => { v with c2 := a }
  | .p3 => { v with c3 := a } | .p4 => { v with c4 := a }

end Four

namespace Pair
variable {α β : Type}

def all (a : α) : Pair α := ⟨a, a⟩

def get (v : Pair α) : Chan → α
  | .t1 => v.t1 | .t2 => v.t2

def set (v : Pair α) (c : Chan) (a : α) : Pair α :=
  match c with
  | .t1 => { v with t1 := a } | .t2 => { v with t2 := a }

/-- The value of a loop side: left first. -/
def side (v : Pair α) : Side → α
  | .left => v.t1 | .right => v.t2

def setSide (v : Pair α) (d : Side) (a : α) : Pair α :=
  match d with
  | .left => { v with t1 := a } | .right => { v with t2 := a }

def map (f : α → β) (v : Pair α) : Pair β := ⟨f v.t1, f v.t2⟩

end Pair

namespace Tri
variable {α : Type}

def all (a : α) : Tri α := ⟨a, a, a⟩

def get (v : Tri α) : Port → α
  | .o => v.o | .e => v.e | .c => v.c

def set (v : Tri α) (p : Port) (a : α) : Tri α :=
  match p with
  | .o => { v with o := a } | .e => { v with e := a } | .c => { v with c := a }

end Tri

/-- The vector with its element at `i` replaced by `f` of it. -/
def vupd {α : Type} {n : Nat} (v : Vector α n) (i : Fin n) (f : α → α) : Vector α n :=
  v.set i.val (f v[i]) i.isLt

def Carrier.entry : Carrier → Entry
  | .c1 => .c1 | .c2 => .c2 | .c3 => .c3 | .c4 => .c4

def Entry.carrier? : Entry → Option Carrier
  | .c1 => some .c1 | .c2 => some .c2 | .c3 => some .c3 | .c4 => some .c4
  | .rs => none | .bc => none

def Entry.every : List Entry := [.c1, .c2, .c3, .c4, .rs, .bc]
def Carrier.every : List Carrier := [.c1, .c2, .c3, .c4]
def PChan.every : List PChan := [.p1, .p2, .p3, .p4]

end Sys2Proof
end

