-- ==== Sys2Proof/Config.lean ====
section
/-! DEFINITION. The fixed numbers of the T840 and the two free values of the model. -/

namespace Sys2Proof.Config

/-- R10: a survey ends TIMED OUT after 40 ms. -/
def surveyTimeoutMs : Nat := 40
/-- R29: a reply window is 10 ms. -/
def replyWindowMs : Nat := 10
/-- R33: the rouse wait is 10 ms. -/
def rouseWaitMs : Nat := 10
/-- R154: the FIRE line is accepted after 50 ms at one level. -/
def fireStableMs : Nat := 50
/-- R75: an airtime mark every 100 ms. -/
def markMs : Nat := 100
/-- R6: the rating of a line unit, in mW. -/
def unitRating : Nat := 8000
/-- R39: the largest power value, in mW. -/
def maxPower : Nat := 8000
/-- R170: records in an event queue. -/
def queueCapacity : Nat := 32
/-- R171: records one READ EVENTS removes. -/
def eventsPerRead : Nat := 8
/-- R63: values an averaging history holds. -/
def historyLength : Nat := 64
/-- R162: the longest command payload. -/
def maxPayload : Nat := 264
/-- R105: blocks of the message memory. -/
def blockCount : Nat := 1024
/-- R105: bytes of a block. -/
def blockBytes : Nat := 4096
/-- R107: the longest message. -/
def maxMessageBytes : Nat := 1048576
/-- R120: a channel's reading time is counted in 125ths of a byte (log 4). -/
def unitsPerByte : Nat := 125
/-- R120: 16,000 bytes/s is 16 bytes, or 2000 of these units, in 1 ms of a PLAYING channel. -/
def playUnitsPerMs : Nat := 2000
/-- R120: 1,048,576 bytes/s is 131072 bytes in 125 ms, so a CHECKING channel reads this many of these units in 1 ms. -/
def checkUnitsPerMs : Nat := 131072

/-- FREE VALUE (log 2): where several of the part's own events fall due at one moment, "either may be taken first"
(R75, R93, R96, R103, R124, R150, R167); the n-th such choice takes the event with this index, modulo their number. -/
opaque pick : Nat → Nat

/-- FREE VALUE (log 42): the temperature class that a survey entry with the unassigned code 3 (R181) shows of a segment, by the
counter of free choices and the segment's index, as a code modulo 3. -/
opaque spareTemp : Nat → Nat → Nat

end Sys2Proof.Config
end

