-- ==== Sys2Proof/Syntax.lean ====
section
/-! DEFINITION. The commands: one constructor for each row of spec/opcode_table.json.
A chip-select command carries its port and the payload fields of R178 as they stand in the frame, so that every value
out of range can be written. A frame that arrives from the loop is carried byte by byte (R181). -/

namespace Sys2Proof

/-- Line unit modes (R1). -/
inductive UnitMode where
  | active | standby | dormant | overheat
  deriving DecidableEq, Repr

/-- The modes a directive or a command can ask for (R6, R19). -/
inductive TargetMode where
  | active | standby | dormant
  deriving DecidableEq, Repr

/-- Temperature classes (R2). -/
inductive TempClass where
  | normal | warm | hot
  deriving DecidableEq, Repr

/-- Supply states (R3). -/
inductive Supply where
  | ok | low
  deriving DecidableEq, Repr

inductive Instr where
  /-- FETCH (R161): a period that shifts in 0 to 3 whole bytes. -/
  | fetch (p : Port) (bytes : List Byte)
  /-- FRAME_ERROR (R162): a period of 4 or more whole bytes that is no frame of a command (log 9). -/
  | frameError (p : Port) (bytes : List Byte)
  | readPartStatus (p : Port)
  | readEvents (p : Port)
  | serviceArm (p : Port)
  | serviceConfirm (p : Port)
  /-- CONFIGURE SERVICE (R166): the period in s. -/
  | configureService (p : Port) (period : Byte)
  | setSegmentCount (p : Port) (count : Byte)
  | setLimit (p : Port) (seg : Byte) (limit : Half)
  | setDerate (p : Port) (percent : Byte)
  | setFloors (p : Port) (segs : SegSet) (floors : Six Half)
  | setIncidentFloors (p : Port) (segs : SegSet) (rs bc : Half)
  | setCarrierCap (p : Port) (percent : Byte)
  | setRampStep (p : Port) (step : Half)
  | setSurveyPeriod (p : Port) (ms : Half)
  /-- SET METER POLICY (R73): n, tol, S, K. -/
  | setMeterPolicy (p : Port) (n tol settle persist : Byte)
  | setFireSense (p : Port) (sense : Byte)
  | setPlayoutPriority (p : Port) (mode : Byte)
  | commitSetup (p : Port)
  | setUnitMode (p : Port) (seg mode : Byte)
  | setBroadcastRequest (p : Port) (segs : SegSet) (request : Half)
  | resetPart (p : Port)
  | setRescueRequest (p : Port) (segs : SegSet) (qIdle qActive : Half)
  | setCoverage (p : Port) (chan : Byte) (segs : SegSet)
  /-- SET TALK TIMERS (R98): hang time in ms, TOT in s, incident TOT in s. -/
  | setTalkTimers (p : Port) (hang tot incidentTot : Half)
  | key (p : Port) (chan priority : Byte)
  | unkey (p : Port) (chan : Byte)
  | readTalk (p : Port) (chans : Byte)
  | setCarrierRequest (p : Port) (operator : Byte) (segs : SegSet) (request : Half)
  | readSegment (p : Port) (seg : Byte)
  | readAllocation (p : Port) (seg : Byte)
  | readAlerts (p : Port) (segs : SegSet)
  | setAlertMode (p : Port) (segs : SegSet) (entry mode basis : Byte)
  | readAccumulators (p : Port)
  | resetAccumulators (p : Port) (accs : Byte)
  | declareIncident (p : Port)
  | clearIncident (p : Port) (claim : Byte)
  | setIncidentMessage (p : Port) (id : Byte)
  | startBreakIn (p : Port) (zone : SegSet) (feed : Byte)
  | stopBreakIn (p : Port)
  | openMessage (p : Port) (id : Byte) (length : Word) (tag : Byte)
  | writeChunk (p : Port) (id : Byte) (offset : Word) (chunk : List Byte)
  | closeMessage (p : Port) (id : Byte) (checksum : Half)
  | deleteMessage (p : Port) (id : Byte)
  | readDirectory (p : Port) (first count : Byte)
  | readChunk (p : Port) (id : Byte) (offset : Word) (length : Half)
  | programPlayout (p : Port) (chan kind mode : Byte) (zone : SegSet) (playlist : List Byte)
  | startPlayout (p : Port) (chan : Byte)
  | stopPlayout (p : Port) (chan : Byte)
  | readPlayout (p : Port) (chans : Byte)
  /-- SURVEY_ROUND (R9): the survey period timer. -/
  | surveyRound
  /-- SURVEY_ARRIVAL (R10): a frame arrives at a loop port. -/
  | surveyArrival (at_ : Side) (frame : List Byte)
  /-- SURVEY_TIMEOUT (R10): of the survey sent from this port. -/
  | surveyTimeout (origin : Side)
  /-- UPLINK_NOTICE (R18, R80): a frame arrives at a loop port. -/
  | uplinkNotice (at_ : Side) (frame : List Byte)
  /-- DIRECTIVE_ISSUE (R26): for this segment. -/
  | directiveIssue (seg : SegId)
  /-- DIRECTIVE_REPLY (R29): a frame arrives at a loop port. -/
  | directiveReply (at_ : Side) (frame : List Byte)
  | replyTimeout (seg : SegId)
  | rouseWaitExpiry (seg : SegId)
  | hangExpiry (chan : Chan)
  | totExpiry (chan : Chan)
  | airtimeMark
  | messageEnd (chan : PChan)
  | checkMessageEnd (chan : PChan)
  /-- FIRE_LINE_CHANGE (R154): the raw line now reads asserted or deasserted. -/
  | fireLineChange (asserted : Bool)
  | fireFilterExpiry
  | portLapse (p : Port)
  | powerOnReset
  | lineReset
  | resetEnd
  /-- UNIT_SUPPLY_APPLIED (R1): the unit at a loop position, its serial, class and supply. -/
  | unitSupplyApplied (pos : SegId) (serial : Word) (temp : TempClass) (supply : Supply)
  | unitTemperatureChange (pos : SegId) (temp : TempClass)
  | unitSupplyChange (pos : SegId) (supply : Supply)
  /-- UNIT_SURVEY_PASS (R4): the frame that reaches the unit on its outward pass, and what its output detectors find. -/
  | unitSurveyPass (pos : SegId) (frame : List Byte) (measured : Six Half)
  /-- UNIT_DIRECTIVE_TAKEN (R6, R7): the link the frame arrived on, and the frame. -/
  | unitDirectiveTaken (pos : SegId) (at_ : Side) (frame : List Byte)
  /-- UNIT_UPLINK_CHANGE (R8): what the unit's receivers hear now. -/
  | unitUplinkChange (pos : SegId) (chan : Chan) (carrier : Bool) (quality : BitVec 4)
  /-- LOOP_LINK_CHANGE (R4): span i joins positions i and i + 1 (0 is the left port; the span after the last unit
  is the right port's). -/
  | loopLinkChange (span : Fin 25) (up : Bool)
  deriving DecidableEq, Repr

end Sys2Proof
end

