-- ==== Sys2Proof/Decode.lean ====
section
/-! DEFINITION. The frames of the command ports and of the service loop (12_formats_and_electrical_summary.md), read and
written; and decodeTableWord, which answers none because the opcode table gives its rows no bits. -/

namespace Sys2Proof

/-- spec/opcode_table.json gives no row any bits: no word spells a command. -/
def decodeTableWord (_nbits _w : Nat) : Option Instr := none

/-! ### Bytes (R176: most significant byte first) -/

def be2 (x : Half) : List Byte := [x.extractLsb' 8 8, x.extractLsb' 0 8]
def be3 (x : SegSet) : List Byte := [x.extractLsb' 16 8, x.extractLsb' 8 8, x.extractLsb' 0 8]
def be4 (x : Word) : List Byte := [x.extractLsb' 24 8, x.extractLsb' 16 8, x.extractLsb' 8 8, x.extractLsb' 0 8]
def be6 (x : BitVec 48) : List Byte :=
  [x.extractLsb' 40 8, x.extractLsb' 32 8, x.extractLsb' 24 8, x.extractLsb' 16 8, x.extractLsb' 8 8, x.extractLsb' 0 8]

/-- The sum of bytes modulo 256. -/
def byteSum : List Byte → Byte
  | [] => 0
  | b :: bs => b + byteSum bs

/-- R162, R177: the two's complement of the sum of the bytes before it. -/
def checkByte (bs : List Byte) : Byte := - byteSum bs

/-- A frame's bytes followed by their check byte. -/
def withCheck (bs : List Byte) : List Byte := bs ++ [checkByte bs]

/-! ### Command frames (R162, R164, R177, R178) -/

/-- R178: WRITE CHUNK's payload length is 6 to 261. -/
def chunkLengthOk (chunk : List Byte) : Bool := 1 ≤ chunk.length && chunk.length ≤ 256

/-- R178: PROGRAM PLAYOUT's payload length is 7 to 14. -/
def playlistLengthOk (playlist : List Byte) : Bool := 1 ≤ playlist.length && playlist.length ≤ 8

/-- R164, R178: the port, the code and the payload of a chip-select command; none for a fetch, for a period that is no
command's frame, and for every row that is not a period. -/
def commandFields : Instr → Option (Port × Byte × List Byte)
  | .fetch _ _ => none
  | .frameError _ _ => none
  | .readPartStatus p => some (p, 0x01, [])
  | .readEvents p => some (p, 0x02, [])
  | .serviceArm p => some (p, 0x03, [])
  | .serviceConfirm p => some (p, 0x04, [])
  | .configureService p period => some (p, 0x05, [period])
  | .setSegmentCount p count => some (p, 0x10, [count])
  | .setLimit p seg limit => some (p, 0x11, [seg] ++ be2 limit)
  | .setDerate p percent => some (p, 0x12, [percent])
  | .setFloors p segs f => some (p, 0x13, be3 segs ++ be2 f.c1 ++ be2 f.c2 ++ be2 f.c3 ++ be2 f.c4 ++ be2 f.rs ++ be2 f.bc)
  | .setIncidentFloors p segs rs bc => some (p, 0x14, be3 segs ++ be2 rs ++ be2 bc)
  | .setCarrierCap p percent => some (p, 0x15, [percent])
  | .setRampStep p step => some (p, 0x16, be2 step)
  | .setSurveyPeriod p ms => some (p, 0x17, be2 ms)
  | .setMeterPolicy p n tol settle persist => some (p, 0x18, [n] ++ [tol] ++ [settle] ++ [persist])
  | .setFireSense p sense => some (p, 0x19, [sense])
  | .setPlayoutPriority p mode => some (p, 0x1a, [mode])
  | .commitSetup p => some (p, 0x1b, [])
  | .setUnitMode p seg mode => some (p, 0x1c, [seg] ++ [mode])
  | .setBroadcastRequest p segs request => some (p, 0x1d, be3 segs ++ be2 request)
  | .resetPart p => some (p, 0x1e, [])
  | .setRescueRequest p segs qIdle qActive => some (p, 0x20, be3 segs ++ be2 qIdle ++ be2 qActive)
  | .setCoverage p chan segs => some (p, 0x21, [chan] ++ be3 segs)
  | .setTalkTimers p hang tot incidentTot => some (p, 0x22, be2 hang ++ be2 tot ++ be2 incidentTot)
  | .key p chan priority => some (p, 0x23, [chan] ++ [priority])
  | .unkey p chan => some (p, 0x24, [chan])
  | .readTalk p chans => some (p, 0x25, [chans])
  | .setCarrierRequest p operator segs request => some (p, 0x28, [operator] ++ be3 segs ++ be2 request)
  | .readSegment p seg => some (p, 0x30, [seg])
  | .readAllocation p seg => some (p, 0x31, [seg])
  | .readAlerts p segs => some (p, 0x32, be3 segs)
  | .setAlertMode p segs entry mode basis => some (p, 0x33, be3 segs ++ [entry] ++ [mode] ++ [basis])
  | .readAccumulators p => some (p, 0x34, [])
  | .resetAccumulators p accs => some (p, 0x35, [accs])
  | .declareIncident p => some (p, 0x38, [])
  | .clearIncident p claim => some (p, 0x39, [claim])
  | .setIncidentMessage p id => some (p, 0x3a, [id])
  | .startBreakIn p zone feed => some (p, 0x40, be3 zone ++ [feed])
  | .stopBreakIn p => some (p, 0x41, [])
  | .openMessage p id length tag => some (p, 0x48, [id] ++ be4 length ++ [tag])
  | .writeChunk p id offset chunk => some (p, 0x49, [id] ++ be4 offset ++ chunk)
  | .closeMessage p id checksum => some (p, 0x4a, [id] ++ be2 checksum)
  | .deleteMessage p id => some (p, 0x4b, [id])
  | .readDirectory p first count => some (p, 0x4c, [first] ++ [count])
  | .readChunk p id offset length => some (p, 0x4d, [id] ++ be4 offset ++ be2 length)
  | .programPlayout p chan kind mode zone playlist => some (p, 0x50, [chan, kind, mode] ++ be3 zone ++ playlist)
  | .startPlayout p chan => some (p, 0x51, [chan])
  | .stopPlayout p chan => some (p, 0x52, [chan])
  | .readPlayout p chans => some (p, 0x53, [chans])
  | .surveyRound => none
  | .surveyArrival _ _ => none
  | .surveyTimeout _ => none
  | .uplinkNotice _ _ => none
  | .directiveIssue _ => none
  | .directiveReply _ _ => none
  | .replyTimeout _ => none
  | .rouseWaitExpiry _ => none
  | .hangExpiry _ => none
  | .totExpiry _ => none
  | .airtimeMark => none
  | .messageEnd _ => none
  | .checkMessageEnd _ => none
  | .fireLineChange _ => none
  | .fireFilterExpiry => none
  | .portLapse _ => none
  | .powerOnReset => none
  | .lineReset => none
  | .resetEnd => none
  | .unitSupplyApplied _ _ _ _ => none
  | .unitTemperatureChange _ _ => none
  | .unitSupplyChange _ _ => none
  | .unitSurveyPass _ _ _ => none
  | .unitDirectiveTaken _ _ _ => none
  | .unitUplinkChange _ _ _ _ => none
  | .loopLinkChange _ _ => none

/-- R163 (first check), R178: the command that a code and a payload spell; none where the code is not in the table of
R164 or the payload length is not one that the command takes. -/
def decodePayload (p : Port) (code : Nat) (payload : List Byte) : Option Instr :=
  match code with
  | 0x01 => match payload with
    | [] => some (.readPartStatus p)
    | _ => none
  | 0x02 => match payload with
    | [] => some (.readEvents p)
    | _ => none
  | 0x03 => match payload with
    | [] => some (.serviceArm p)
    | _ => none
  | 0x04 => match payload with
    | [] => some (.serviceConfirm p)
    | _ => none
  | 0x05 => match payload with
    | [period] => some (.configureService p period)
    | _ => none
  | 0x10 => match payload with
    | [count] => some (.setSegmentCount p count)
    | _ => none
  | 0x11 => match payload with
    | [seg, x11, x10] => some (.setLimit p seg (x11 ++ x10))
    | _ => none
  | 0x12 => match payload with
    | [percent] => some (.setDerate p percent)
    | _ => none
  | 0x13 => match payload with
    | [s2, s1, s0, a1, a0, b1, b0, c1, c0, d1, d0, r1, r0, k1, k0] =>
      some (.setFloors p (s2 ++ s1 ++ s0) ⟨a1 ++ a0, b1 ++ b0, c1 ++ c0, d1 ++ d0, r1 ++ r0, k1 ++ k0⟩)
    | _ => none
  | 0x14 => match payload with
    | [x02, x01, x00, x11, x10, x21, x20] => some (.setIncidentFloors p (x02 ++ x01 ++ x00) (x11 ++ x10) (x21 ++ x20))
    | _ => none
  | 0x15 => match payload with
    | [percent] => some (.setCarrierCap p percent)
    | _ => none
  | 0x16 => match payload with
    | [x01, x00] => some (.setRampStep p (x01 ++ x00))
    | _ => none
  | 0x17 => match payload with
    | [x01, x00] => some (.setSurveyPeriod p (x01 ++ x00))
    | _ => none
  | 0x18 => match payload with
    | [n, tol, settle, persist] => some (.setMeterPolicy p n tol settle persist)
    | _ => none
  | 0x19 => match payload with
    | [sense] => some (.setFireSense p sense)
    | _ => none
  | 0x1a => match payload with
    | [mode] => some (.setPlayoutPriority p mode)
    | _ => none
  | 0x1b => match payload with
    | [] => some (.commitSetup p)
    | _ => none
  | 0x1c => match payload with
    | [seg, mode] => some (.setUnitMode p seg mode)
    | _ => none
  | 0x1d => match payload with
    | [x02, x01, x00, x11, x10] => some (.setBroadcastRequest p (x02 ++ x01 ++ x00) (x11 ++ x10))
    | _ => none
  | 0x1e => match payload with
    | [] => some (.resetPart p)
    | _ => none
  | 0x20 => match payload with
    | [x02, x01, x00, x11, x10, x21, x20] => some (.setRescueRequest p (x02 ++ x01 ++ x00) (x11 ++ x10) (x21 ++ x20))
    | _ => none
  | 0x21 => match payload with
    | [chan, x12, x11, x10] => some (.setCoverage p chan (x12 ++ x11 ++ x10))
    | _ => none
  | 0x22 => match payload with
    | [x01, x00, x11, x10, x21, x20] => some (.setTalkTimers p (x01 ++ x00) (x11 ++ x10) (x21 ++ x20))
    | _ => none
  | 0x23 => match payload with
    | [chan, priority] => some (.key p chan priority)
    | _ => none
  | 0x24 => match payload with
    | [chan] => some (.unkey p chan)
    | _ => none
  | 0x25 => match payload with
    | [chans] => some (.readTalk p chans)
    | _ => none
  | 0x28 => match payload with
    | [operator, x12, x11, x10, x21, x20] => some (.setCarrierRequest p operator (x12 ++ x11 ++ x10) (x21 ++ x20))
    | _ => none
  | 0x30 => match payload with
    | [seg] => some (.readSegment p seg)
    | _ => none
  | 0x31 => match payload with
    | [seg] => some (.readAllocation p seg)
    | _ => none
  | 0x32 => match payload with
    | [x02, x01, x00] => some (.readAlerts p (x02 ++ x01 ++ x00))
    | _ => none
  | 0x33 => match payload with
    | [x02, x01, x00, entry, mode, basis] => some (.setAlertMode p (x02 ++ x01 ++ x00) entry mode basis)
    | _ => none
  | 0x34 => match payload with
    | [] => some (.readAccumulators p)
    | _ => none
  | 0x35 => match payload with
    | [accs] => some (.resetAccumulators p accs)
    | _ => none
  | 0x38 => match payload with
    | [] => some (.declareIncident p)
    | _ => none
  | 0x39 => match payload with
    | [claim] => some (.clearIncident p claim)
    | _ => none
  | 0x3a => match payload with
    | [id] => some (.setIncidentMessage p id)
    | _ => none
  | 0x40 => match payload with
    | [x02, x01, x00, feed] => some (.startBreakIn p (x02 ++ x01 ++ x00) feed)
    | _ => none
  | 0x41 => match payload with
    | [] => some (.stopBreakIn p)
    | _ => none
  | 0x48 => match payload with
    | [id, x13, x12, x11, x10, tag] => some (.openMessage p id (x13 ++ x12 ++ x11 ++ x10) tag)
    | _ => none
  | 0x49 => match payload with
    | id :: o3 :: o2 :: o1 :: o0 :: chunk =>
      if chunkLengthOk chunk then some (.writeChunk p id (o3 ++ o2 ++ o1 ++ o0) chunk) else none
    | _ => none
  | 0x4a => match payload with
    | [id, x11, x10] => some (.closeMessage p id (x11 ++ x10))
    | _ => none
  | 0x4b => match payload with
    | [id] => some (.deleteMessage p id)
    | _ => none
  | 0x4c => match payload with
    | [first, count] => some (.readDirectory p first count)
    | _ => none
  | 0x4d => match payload with
    | [id, x13, x12, x11, x10, x21, x20] => some (.readChunk p id (x13 ++ x12 ++ x11 ++ x10) (x21 ++ x20))
    | _ => none
  | 0x50 => match payload with
    | chan :: kind :: mode :: z2 :: z1 :: z0 :: playlist =>
      if playlistLengthOk playlist then some (.programPlayout p chan kind mode (z2 ++ z1 ++ z0) playlist) else none
    | _ => none
  | 0x51 => match payload with
    | [chan] => some (.startPlayout p chan)
    | _ => none
  | 0x52 => match payload with
    | [chan] => some (.stopPlayout p chan)
    | _ => none
  | 0x53 => match payload with
    | [chans] => some (.readPlayout p chans)
    | _ => none
  | _ => none

/-- R177: code, two-byte payload length, payload, check. -/
def commandFrame (code : Byte) (payload : List Byte) : List Byte :=
  withCheck ([code] ++ be2 (BitVec.ofNat 16 payload.length) ++ payload)

/-- The bytes that a chip-select row shifts in; none for a row that is not a chip-select period. -/
def periodBytes (i : Instr) : Option (Port × List Byte) :=
  match i with
  | .fetch p bytes => some (p, bytes)
  | .frameError p bytes => some (p, bytes)
  | _ => (commandFields i).map fun (p, code, payload) => (p, commandFrame code payload)

/-- What a period amounts to at the release of chip select (R161, R162, R163 first check). -/
inductive PeriodKind where
  /-- 0 to 3 whole bytes. -/
  | fetched
  /-- Four or more bytes that fail R162; the first byte is echoed. -/
  | badFrame (first : Byte)
  /-- A frame that passes R162 with an unknown code or a length its command does not take. -/
  | unknown (code : Byte)
  /-- A frame of this command. -/
  | command (i : Instr)
  deriving DecidableEq, Repr

/-- R162: the length agrees, the payload is not too long and the bytes sum to 0. -/
def frameOk (bytes : List Byte) : Bool :=
  match bytes with
  | _ :: l1 :: l0 :: _ =>
    bytes.length == 4 + (l1 ++ l0).toNat && (l1 ++ l0).toNat ≤ Config.maxPayload && byteSum bytes == 0
  | _ => false

/-- R161 to R163: what the bytes shifted in on a port amount to. -/
def readPeriod (p : Port) (bytes : List Byte) : PeriodKind :=
  match bytes with
  | code :: _ :: _ :: rest@(_ :: _) =>
    if frameOk bytes then
      match decodePayload p code.toNat rest.dropLast with
      | some i => .command i
      | none => .unknown code
    else .badFrame code
  | _ => .fetched

/-! ### Service loop frames (R181) -/

/-- What an uplink receiver reports of one talk channel (R5, R79). -/
structure UplinkRec where
  carrier : Bool
  quality : BitVec 4
  deriving DecidableEq, Repr

/-- R79: carrier down, quality 0. -/
def UplinkRec.cleared : UplinkRec := ⟨false, 0⟩

/-- A survey entry (R5). -/
structure SurveyEntry where
  serial : Word
  mode : UnitMode
  forced : Bool
  /-- None: the code 3, which R181 does not assign (log 42). -/
  temp : Option TempClass
  supply : Supply
  uplink : Pair (Option UplinkRec)
  measured : Option (Six Half)
  deriving DecidableEq, Repr

/-- A survey frame (R4). -/
structure SurveyFrame where
  origin : Side
  hold : Bool
  round : Byte
  entries : List SurveyEntry
  deriving DecidableEq, Repr

/-- What a directive carries (R6). -/
inductive DirectiveBody where
  | levels (v : Six Half)
  | mode (t : TargetMode)
  | rouse
  deriving DecidableEq, Repr

/-- A directive frame (R6). -/
structure DirectiveFrame where
  hops : Byte
  serial : Word
  body : DirectiveBody
  deriving DecidableEq, Repr

/-- The outcomes a reply carries (R6, R7). -/
inductive ReplyOutcome where
  | ack (mode : UnitMode)
  | asleep
  | rating
  | supplyLow
  | wrongUnit
  deriving DecidableEq, Repr

/-- A reply frame (R6). -/
structure ReplyFrame where
  serial : Word
  outcome : ReplyOutcome
  deriving DecidableEq, Repr

/-- An uplink notice frame (R8). -/
structure NoticeFrame where
  serial : Word
  seq : Byte
  chan : Chan
  uplink : UplinkRec
  deriving DecidableEq, Repr

def modeCode : UnitMode → Byte
  | .active => 0 | .standby => 1 | .dormant => 2 | .overheat => 3

def modeOfCode (n : Nat) : Option UnitMode :=
  match n with
  | 0 => some .active | 1 => some .standby | 2 => some .dormant | 3 => some .overheat | _ => none

def targetCode : TargetMode → Byte
  | .active => 0 | .standby => 1 | .dormant => 2

def targetOfCode (n : Nat) : Option TargetMode :=
  match n with
  | 0 => some .active | 1 => some .standby | 2 => some .dormant | _ => none

def tempCode : TempClass → Byte
  | .normal => 0 | .warm => 1 | .hot => 2

def tempOfCode (n : Nat) : Option TempClass :=
  match n with
  | 0 => some .normal | 1 => some .warm | 2 => some .hot | _ => none

def supplyCode : Supply → Byte
  | .ok => 0 | .low => 1

/-- The two temperature bits of a survey entry; 3 is no class. -/
def tempBits : Option TempClass → Byte
  | some t => tempCode t
  | none => 3

/-- Bit `i` of a byte, as a byte shifted to place `i`. -/
def flagBit (b : Bool) (i : Nat) : Byte := if b then 1#8 <<< i else 0

def encodeUplink : Option UplinkRec → Byte
  | none => 0
  | some u => flagBit true 7 ||| flagBit u.carrier 4 ||| u.quality.zeroExtend 8

def decodeUplink (b : Byte) : Option UplinkRec :=
  if b.getLsbD 7 then some ⟨b.getLsbD 4, b.extractLsb' 0 4⟩ else none

def encodeSix (v : Six Half) : List Byte :=
  be2 v.c1 ++ be2 v.c2 ++ be2 v.c3 ++ be2 v.c4 ++ be2 v.rs ++ be2 v.bc

/-- R181: 7 bytes, and 12 more where measured levels follow. -/
def encodeEntry (e : SurveyEntry) : List Byte :=
  be4 e.serial ++
  [modeCode e.mode ||| flagBit e.forced 2 ||| (tempBits e.temp <<< 3) ||| (supplyCode e.supply <<< 5)
    ||| flagBit e.measured.isSome 6,
   encodeUplink e.uplink.t1, encodeUplink e.uplink.t2] ++
  match e.measured with
  | some m => encodeSix m
  | none => []

/-- One entry from the front of the bytes, and the bytes after it. Every value of its bits is an entry (each mode code is assigned),
so the length alone can make it none. -/
def decodeEntry (bs : List Byte) : Option (SurveyEntry × List Byte) :=
  match bs with
  | s3 :: s2 :: s1 :: s0 :: b :: u1 :: u2 :: rest =>
    match modeOfCode (b.extractLsb' 0 2).toNat with
    | some mode =>
      let e : SurveyEntry :=
        { serial := s3 ++ s2 ++ s1 ++ s0, mode := mode, forced := b.getLsbD 2, temp := tempOfCode (b.extractLsb' 3 2).toNat,
          supply := if b.getLsbD 5 then .low else .ok, uplink := ⟨decodeUplink u1, decodeUplink u2⟩, measured := none }
      if b.getLsbD 6 then
        match rest with
        | a1 :: a0 :: b1 :: b0 :: c1 :: c0 :: d1 :: d0 :: r1 :: r0 :: k1 :: k0 :: rest' =>
          some ({ e with measured := some ⟨a1 ++ a0, b1 ++ b0, c1 ++ c0, d1 ++ d0, r1 ++ r0, k1 ++ k0⟩ }, rest')
        | _ => none
      else some (e, rest)
    | none => none
  | _ => none

/-- `n` entries that use up all the bytes. -/
def decodeEntries : Nat → List Byte → Option (List SurveyEntry)
  | 0, bs => if bs.isEmpty then some [] else none
  | n + 1, bs =>
    match decodeEntry bs with
    | some (e, rest) => (decodeEntries n rest).map (e :: ·)
    | none => none

/-- R181: survey, type 01h. The count is one byte: with 256 entries it is sent as 0, and the frame is discarded by the next one that
reads it (DESIGN CHOICE, log 41). -/
def encodeSurvey (f : SurveyFrame) : List Byte :=
  withCheck ([0x01, flagBit (f.origin == .right) 0 ||| flagBit f.hold 1, f.round, BitVec.ofNat 8 f.entries.length] ++
    f.entries.flatMap encodeEntry)

/-- A survey frame whose bytes sum to 0 and whose length agrees with its entries; none for a damaged one. -/
def decodeSurvey (bytes : List Byte) : Option SurveyFrame :=
  match bytes with
  | t :: flags :: round :: count :: rest@(_ :: _) =>
    if t == 0x01 && byteSum bytes == 0 then
      (decodeEntries count.toNat rest.dropLast).map fun es =>
        { origin := if flags.getLsbD 0 then .right else .left, hold := flags.getLsbD 1, round := round, entries := es }
    else none
  | _ => none

/-- R181: directive, type 02h. -/
def encodeDirective (f : DirectiveFrame) : List Byte :=
  withCheck ([0x02, f.hops] ++ be4 f.serial ++
    match f.body with
    | .levels v => [0x01] ++ encodeSix v
    | .mode t => [0x02, targetCode t]
    | .rouse => [0x03])

def decodeDirective (bytes : List Byte) : Option DirectiveFrame :=
  if byteSum bytes == 0 then
    match bytes with
    | [0x02#8, hops, s3, s2, s1, s0, 0x01#8, a1, a0, b1, b0, c1, c0, d1, d0, r1, r0, k1, k0, _] =>
      some ⟨hops, s3 ++ s2 ++ s1 ++ s0, .levels ⟨a1 ++ a0, b1 ++ b0, c1 ++ c0, d1 ++ d0, r1 ++ r0, k1 ++ k0⟩⟩
    | [0x02#8, hops, s3, s2, s1, s0, 0x02#8, t, _] =>
      (targetOfCode t.toNat).map fun t => ⟨hops, s3 ++ s2 ++ s1 ++ s0, .mode t⟩
    | [0x02#8, hops, s3, s2, s1, s0, 0x03#8, _] => some ⟨hops, s3 ++ s2 ++ s1 ++ s0, .rouse⟩
    | _ => none
  else none

/-- R181: reply, type 03h; the mode byte is 0 in a NAK. -/
def encodeReply (f : ReplyFrame) : List Byte :=
  withCheck ([0x03] ++ be4 f.serial ++
    match f.outcome with
    | .ack m => [0x00, modeCode m]
    | .asleep => [0x01, 0x00]
    | .rating => [0x02, 0x00]
    | .supplyLow => [0x03, 0x00]
    | .wrongUnit => [0x04, 0x00])

def decodeReply (bytes : List Byte) : Option ReplyFrame :=
  match bytes with
  | [t, s3, s2, s1, s0, o, m, _] =>
    if t == 0x03 && byteSum bytes == 0 then
      match o.toNat with
      | 0 => (modeOfCode m.toNat).map fun m => ⟨s3 ++ s2 ++ s1 ++ s0, .ack m⟩
      | 1 => some ⟨s3 ++ s2 ++ s1 ++ s0, .asleep⟩
      | 2 => some ⟨s3 ++ s2 ++ s1 ++ s0, .rating⟩
      | 3 => some ⟨s3 ++ s2 ++ s1 ++ s0, .supplyLow⟩
      | 4 => some ⟨s3 ++ s2 ++ s1 ++ s0, .wrongUnit⟩
      | _ => none
    else none
  | _ => none

/-- R181: notice, type 04h. -/
def encodeNotice (f : NoticeFrame) : List Byte :=
  withCheck ([0x04] ++ be4 f.serial ++
    [f.seq, flagBit (f.chan == .t2) 7 ||| flagBit f.uplink.carrier 4 ||| f.uplink.quality.zeroExtend 8])

def decodeNotice (bytes : List Byte) : Option NoticeFrame :=
  match bytes with
  | [t, s3, s2, s1, s0, seq, q, _] =>
    if t == 0x04 && byteSum bytes == 0 then
      some ⟨s3 ++ s2 ++ s1 ++ s0, seq, if q.getLsbD 7 then .t2 else .t1, ⟨q.getLsbD 4, q.extractLsb' 0 4⟩⟩
    else none
  | _ => none

end Sys2Proof
end

