-- ==== Sys2Proof/Machine/State.lean ====
section
/-! DEFINITION. The state of the T840, of its line units and loop, and of the queue of waiting commands; its value after
reset; the outcomes' reason types. One structure for each block of 00_scope.md section 3. -/

namespace Sys2Proof.Machine

/-! ### Port interface (R159 to R175) -/

inductive PartState where
  | setup | run
  deriving DecidableEq, Repr

/-- R174. -/
inductive ResetCause where
  | powerOn | line | command
  deriving DecidableEq, Repr

/-- R163: the status codes, in the order of their values (R177). -/
inductive Status where
  | ok | converted | empty | frameError | notPermitted | notReady | badArgument | busy | inUse | exists_
  | notFound | noSpace | badSequence | incomplete | lapsed | alreadySet | noArm | timedOut | incident | lineActive
  deriving DecidableEq, Repr

/-- R161, R177: a response, without its lengths and check byte. -/
structure Response where
  status : Status
  echo : Byte
  payload : List Byte
  deriving DecidableEq, Repr

/-- R180: the event kinds, in the order of their codes. -/
inductive EventKind where
  | unitState | unitMode | unitReplaced | loopFold | loopMismatch | directiveFailed | grantChanged | alert
  | entrySuspended | entryResumed | talkState | breakinOwner | playoutState | incident | incidentMessageMissing
  | messageState | portLapsed | portRestored | accumWrap | partState
  deriving DecidableEq, Repr

/-- R170, R180: an event record. -/
structure EventRec where
  kind : EventKind
  subject : Byte
  uptime : Word
  a : Half
  b : Half
  deriving DecidableEq, Repr

/-- R166: the service periods. -/
inductive Period where
  | s1 | s4 | s16 | s64
  deriving DecidableEq, Repr

/-- R161, R166, R170: one port. -/
structure PortRec where
  lapsed : Bool
  service : Option Period
  configured : Bool
  arm : Bool
  expiry : Option Word
  queue : List EventRec
  overflow : Bool
  holding : Response
  /-- The receive buffer: the whole bytes of the last period (log 26). -/
  rx : List Byte
  /-- Data out: the bytes shifted out in the last period (log 26). -/
  tx : List Byte
  deriving DecidableEq, Repr

/-- R159, R173, R174. -/
structure SysRec where
  part : PartState
  cause : ResetCause
  fresh : Bool
  uptime : Word
  /-- R174: held in reset. -/
  held : Bool
  deriving DecidableEq, Repr

/-! ### Loop controller (R9 to R23) -/

inductive Level where
  | normal | incident
  deriving DecidableEq, Repr

inductive LinkState where
  | unseen | present | missing | lost
  deriving DecidableEq, Repr

inductive Reach where
  | left | right | both | none
  deriving DecidableEq, Repr

/-- R13: the observed fields. -/
structure Observed where
  mode : UnitMode
  forced : Bool
  temp : TempClass
  supply : Supply
  deriving DecidableEq, Repr

/-- R13: a segment record. -/
structure SegRec where
  link : LinkState
  miss : Nat
  serial : Option Word
  acquired : Bool
  observed : Option Observed
  reach : Reach
  commanded : TargetMode
  limit : Nat
  eff : Nat
  deriving DecidableEq, Repr

/-- R12. -/
inductive Fold where
  | whole
  | folded (a b : Nat)
  deriving DecidableEq, Repr

/-- R10. -/
inductive SurveyOutcome where
  | crossed (entries : List SurveyEntry)
  | returned (entries : List SurveyEntry)
  | timedOut
  | notSent
  deriving DecidableEq, Repr

inductive SurveyState where
  | none
  | inFlight (sentAt : Word)
  | ended (outcome : SurveyOutcome)
  deriving DecidableEq, Repr

structure LoopRec where
  n : Nat
  segs : Vector SegRec 24
  fold : Fold
  mismatch : Bool
  period : Nat
  derate : Nat
  round : Byte
  timerStart : Word
  /-- The period with which the timer runs: T of R74. -/
  timerPeriod : Nat
  /-- The surveys from the left and the right port. -/
  surveys : Pair SurveyState
  level : Level
  deriving DecidableEq, Repr

/-! ### Directive engine (R24 to R38) -/

inductive Content where
  | levels (v : Six Nat)
  | zeroReset
  | probe
  | mode (t : TargetMode)
  deriving DecidableEq, Repr

inductive DStep where
  | main | rouse1 | rouseWait | rouse2
  deriving DecidableEq, Repr

inductive FailReason where
  | noReply | rating | supplyLow | asleep
  deriving DecidableEq, Repr

/-- R24, R29, R33: a directive in flight. -/
structure Directive where
  content : Content
  rouse : Bool
  step : DStep
  attempt : Nat
  side : Side
  /-- R29: paused, and the attempt that is due; the one under way or ended stands in `attempt`. -/
  paused : Option Nat
  /-- R29: the close of the reply window last opened. -/
  window : Option Word
  /-- R33: the end of the rouse wait. -/
  waitUntil : Option Word
  /-- R33: the unit is noted awake. -/
  awake : Bool
  /-- Why the last attempt ended (R29, R32). -/
  reason : FailReason
  deriving DecidableEq, Repr

inductive LevelsSlot where
  | empty | levels | zeroReset
  deriving DecidableEq, Repr

/-- R24: a unit record. -/
structure UnitRec where
  inflight : Option Directive
  levelsSlot : LevelsSlot
  modeSlot : Option TargetMode
  /-- Absent: unknown. -/
  applied : Option (Six Nat)
  marked : Bool
  /-- Absent: passed. -/
  quiet : Option Word
  deriving DecidableEq, Repr

structure EngineRec where
  units : Vector UnitRec 24
  rampStep : Nat
  deriving DecidableEq, Repr

/-! ### Allocator (R39 to R61) -/

structure CarrierEntry where
  floor : Nat
  request : Nat
  suspended : Bool
  grant : Nat
  deriving DecidableEq, Repr

structure RescueEntry where
  floor : Nat
  ifloor : Nat
  qIdle : Nat
  qActive : Nat
  grant : Nat
  deriving DecidableEq, Repr

structure BroadcastEntry where
  floor : Nat
  ifloor : Nat
  request : Nat
  grant : Nat
  deriving DecidableEq, Repr

structure AllocSeg where
  c : Four CarrierEntry
  rs : RescueEntry
  bc : BroadcastEntry
  /-- The rotation pointer. -/
  ptr : Carrier
  deriving DecidableEq, Repr

structure AllocRec where
  segs : Vector AllocSeg 24
  capPct : Nat
  activity : Bool
  level : Level
  deriving DecidableEq, Repr

/-! ### Level monitor (R62 to R78) -/

inductive Basis where
  | raw | averaged
  deriving DecidableEq, Repr

inductive AlertMode where
  | transparent | latched
  deriving DecidableEq, Repr

/-- R62: a metering record. -/
structure MeterEntry where
  raw : Option Nat
  /-- Oldest first. -/
  history : List Nat
  basis : Basis
  mode : AlertMode
  settle : Nat
  /-- The present condition. -/
  isOver : Bool
  isUnder : Bool
  overFlag : Bool
  underFlag : Bool
  /-- The consecutive-OVER count (carrier entries). -/
  count : Nat
  deriving DecidableEq, Repr

/-- R73. -/
structure MeterPolicy where
  n : Nat
  tol : Nat
  settle : Nat
  persist : Nat
  deriving DecidableEq, Repr

structure EnergyAcc where
  value : BitVec 48
  wrapped : Bool
  deriving DecidableEq, Repr

structure AirtimeAcc where
  value : BitVec 32
  wrapped : Bool
  deriving DecidableEq, Repr

structure MeterRec where
  recs : Vector (Six MeterEntry) 24
  policy : MeterPolicy
  energy : Four EnergyAcc
  airtime : Pair AirtimeAcc
  deriving DecidableEq, Repr

/-! ### Talk controller (R79 to R104) -/

inductive FloorState where
  | idle | inbound | outbound | hang
  deriving DecidableEq, Repr

inductive TalkSide where
  | inbound | outbound
  deriving DecidableEq, Repr

inductive KeyState where
  | unkeyed | keyed | stuck
  deriving DecidableEq, Repr

/-- R86, R87: a talk channel record and its key. -/
structure TalkRec where
  floor : FloorState
  voted : Option SegId
  pending : Option TalkSide
  hangSide : Option TalkSide
  totStart : Option Word
  hangExpiry : Option Word
  barred : SegSet
  coverage : SegSet
  relay : SegSet
  key : KeyState
  deriving DecidableEq, Repr

structure TalkTable where
  chans : Pair TalkRec
  uplink : Vector (Pair UplinkRec) 24
  seq : Vector (Option Byte) 24
  hangMs : Nat
  totS : Nat
  itotS : Nat
  level : Level
  deriving DecidableEq, Repr

/-! ### Message store (R105 to R118) -/

/-- R106: the fields that LOADING, READY and DAMAGED share. -/
structure MsgBody where
  first : Nat
  blocks : Nat
  length : Nat
  tag : BitVec 4
  computed : Half
  deriving DecidableEq, Repr

inductive MsgContent where
  | empty
  | loading (m : MsgBody) (next : Nat)
  | closed (m : MsgBody) (declared : Half) (damaged : Bool)
  deriving DecidableEq, Repr

structure MsgRec where
  content : MsgContent
  uses : Nat
  deriving DecidableEq, Repr

structure StoreRec where
  dir : Vector MsgRec 64
  /-- R105: the message memory, in canonical form (log 10). -/
  mem : List Host.Cell
  deriving DecidableEq, Repr

/-! ### Playout engine (R119 to R134) -/

inductive PlayState where
  | idle | playing | held | checking
  deriving DecidableEq, Repr

inductive PlayKind where
  | play | check
  deriving DecidableEq, Repr

inductive PlayOwner where
  | none | o | e | incident
  deriving DecidableEq, Repr

/-- R119: a program; the zone set of a CHECK program is empty. -/
structure Program where
  kind : PlayKind
  repeats : Bool
  playlist : List MsgId
  zone : SegSet
  deriving DecidableEq, Repr

/-- R119: current index (from 0), position and check sum. -/
structure Cursor where
  index : Nat
  pos : Nat
  /-- 125ths of a byte that the run has had time for beyond `pos` (log 4). -/
  frac : Nat
  sum : Half
  deriving DecidableEq, Repr

structure PlayRec where
  state : PlayState
  program : Option Program
  owner : PlayOwner
  cur : Option Cursor
  finish : Bool
  deriving DecidableEq, Repr

structure PlayTable where
  chans : Four PlayRec
  /-- R131. -/
  p1Held : Bool
  rotation : List PChan
  deriving DecidableEq, Repr

/-! ### Break-in selector (R135 to R149) -/

inductive Feed where
  | dispatch | t1 | t2
  deriving DecidableEq, Repr

inductive Source where
  | none | liveE | liveO | p1 | p2 | p3 | p4
  deriving DecidableEq, Repr

structure LiveE where
  zone : SegSet
  feed : Feed
  deriving DecidableEq, Repr

inductive Priority where
  | fixed | rotating
  deriving DecidableEq, Repr

structure BreakRec where
  /-- Absent: OFF. -/
  liveE : Option LiveE
  liveO : Option SegSet
  owners : Vector Source 24
  priority : Priority
  deriving DecidableEq, Repr

/-! ### Incident controller (R150 to R158) -/

structure Claims where
  ops : Bool
  rescue : Bool
  line : Bool
  deriving DecidableEq, Repr

inductive FireLevel where
  | unsettled | asserted | deasserted
  deriving DecidableEq, Repr

inductive FireSense where
  | level | edge
  deriving DecidableEq, Repr

structure IncRec where
  claims : Claims
  level : Level
  filtered : FireLevel
  /-- The level of the line at its last change; the FIRE pin. -/
  raw : Bool
  /-- The moment of that change. -/
  changedAt : Word
  sense : FireSense
  arm : Bool
  message : Option MsgId
  deriving DecidableEq, Repr

/-! ### Line units and loop (R1 to R8) -/

/-- A line unit with its supply applied. -/
structure LineUnit where
  serial : Word
  mode : UnitMode
  temp : TempClass
  supply : Supply
  forced : Bool
  levels : Six Half
  seq : Byte
  /-- R7: the moment of the opening ROUSE, by the plant's clock. -/
  rouse : Option Nat
  /-- R8: the reference quality of T1 and T2. -/
  refQ : Pair (Option (BitVec 4))
  deriving DecidableEq, Repr

structure PlantRec where
  units : Vector (Option LineUnit) 24
  /-- What the receivers at each position would hear on T1 and T2. -/
  rf : Vector (Pair UplinkRec) 24
  /-- The spans of the loop, up or down. -/
  links : Vector Bool 25
  clock : Nat
  deriving DecidableEq, Repr

/-- Who puts a frame onto the loop, and on which link. -/
inductive Sender where
  | head (port : Side)
  | unit (pos : SegId) (link : Side)
  deriving DecidableEq, Repr

structure WireFrame where
  sender : Sender
  bytes : List Byte
  deriving DecidableEq, Repr

structure State where
  sys : SysRec
  ports : Tri PortRec
  loop : LoopRec
  engine : EngineRec
  alloc : AllocRec
  meter : MeterRec
  talk : TalkTable
  store : StoreRec
  play : PlayTable
  brk : BreakRec
  inc : IncRec
  plant : PlantRec
  /-- The frames put onto the loop in the present millisecond (log 8). -/
  wire : List WireFrame
  /-- The uptime whose airtime mark has been taken (log 29). -/
  lastMark : Option Word
  /-- FREE VALUE: the number of free choices taken so far (log 2, 42). -/
  draws : Nat
  /-- The waiting commands, first in, first out. -/
  pending : List Instr
  deriving DecidableEq, Repr

/-- The T840 never stops: every command ends in a next state (log 30). -/
inductive Fault where
  deriving DecidableEq, Repr

inductive Refusal where
  /-- Raised by exec alone, for a row that has no meaning yet; safe. -/
  | notModelled (mnemonic : String)
  deriving DecidableEq, Repr

/-! ### Reset values -/

/-- R177. -/
def Response.none : Response := ⟨.empty, 0, []⟩

/-- R175, R166, R170. -/
def PortRec.reset : PortRec :=
  { lapsed := false, service := .none, configured := false, arm := false, expiry := .none, queue := [], overflow := false,
    holding := .none, rx := [], tx := [] }

/-- R23. -/
def SegRec.reset : SegRec :=
  { link := .unseen, miss := 0, serial := .none, acquired := false, observed := .none, reach := .none,
    commanded := .active, limit := 0, eff := 0 }

/-- R23. -/
def LoopRec.reset : LoopRec :=
  { n := 0, segs := .replicate 24 .reset, fold := .whole, mismatch := false, period := 100, derate := 50, round := 0,
    timerStart := 0, timerPeriod := 100, surveys := .all .none, level := .normal }

/-- R38. -/
def UnitRec.reset : UnitRec :=
  { inflight := .none, levelsSlot := .empty, modeSlot := .none, applied := .none, marked := false, quiet := .none }

/-- R38. -/
def EngineRec.reset : EngineRec := { units := .replicate 24 .reset, rampStep := 250 }

/-- R61. -/
def AllocSeg.reset : AllocSeg :=
  { c := .all ⟨0, 0, false, 0⟩, rs := ⟨0, 0, 0, 0, 0⟩, bc := ⟨0, 0, 0, 0⟩, ptr := .c1 }

/-- R61. -/
def AllocRec.reset : AllocRec :=
  { segs := .replicate 24 .reset, capPct := 50, activity := false, level := .normal }

/-- R78. -/
def MeterEntry.reset : MeterEntry :=
  { raw := .none, history := [], basis := .raw, mode := .transparent, settle := 0, isOver := false, isUnder := false,
    overFlag := false, underFlag := false, count := 0 }

/-- R78, but for the accumulators, which a warm reset keeps. -/
def MeterRec.reset (energy : Four EnergyAcc) (airtime : Pair AirtimeAcc) : MeterRec :=
  { recs := .replicate 24 (.all .reset), policy := ⟨4, 20, 3, 5⟩, energy := energy, airtime := airtime }

/-- R104. -/
def TalkRec.reset : TalkRec :=
  { floor := .idle, voted := .none, pending := .none, hangSide := .none, totStart := .none, hangExpiry := .none,
    barred := 0, coverage := BitVec.allOnes 24, relay := 0, key := .unkeyed }

/-- R104. -/
def TalkTable.reset : TalkTable :=
  { chans := .all .reset, uplink := .replicate 24 (.all .cleared), seq := .replicate 24 .none, hangMs := 2000,
    totS := 120, itotS := 0, level := .normal }

/-- R118: after a power-on reset. -/
def StoreRec.reset : StoreRec := { dir := .replicate 64 ⟨.empty, 0⟩, mem := [] }

/-- R134. -/
def PlayRec.reset : PlayRec :=
  { state := .idle, program := .none, owner := .none, cur := .none, finish := false }

/-- R134, R121. -/
def PlayTable.reset : PlayTable := { chans := .all .reset, p1Held := false, rotation := PChan.every }

/-- R149. -/
def BreakRec.reset : BreakRec :=
  { liveE := .none, liveO := .none, owners := .replicate 24 .none, priority := .fixed }

/-- R158; the line's level is the pin's at the reset (R154). -/
def IncRec.reset (raw : Bool) : IncRec :=
  { claims := ⟨false, false, false⟩, level := .normal, filtered := .unsettled, raw := raw, changedAt := 0,
    sense := .level, arm := false, message := .none }

/-- DESIGN CHOICE (log 7): no unit supplied, no carrier, every span up. -/
def PlantRec.reset : PlantRec :=
  { units := .replicate 24 .none, rf := .replicate 24 (.all .cleared), links := .replicate 25 true, clock := 0 }

/-- The machine when a power-on reset has just ended (R175; log 6). -/
def State.reset : State :=
  { sys := { part := .setup, cause := .powerOn, fresh := true, uptime := 0, held := false },
    ports := .all .reset, loop := .reset, engine := .reset, alloc := .reset,
    meter := .reset (.all ⟨0, false⟩) (.all ⟨0, false⟩), talk := .reset, store := .reset, play := .reset, brk := .reset,
    inc := .reset false, plant := .reset, wire := [], lastMark := some 0, draws := 0, pending := [] }

end Sys2Proof.Machine
end

