-- ==== Sys2Proof/Machine/Ops.lean ====
section
/-! DEFINITION. The named operations over State: time, sets of segments, updates of one record, the message memory, the
event queues and the response holding records. -/

namespace Sys2Proof.Machine

/-! ### Time (00_scope.md section 6, R173) -/

/-- R94, R166: milliseconds from `start` to `now`, across a wrap of the uptime counter. -/
def elapsed (now start : Word) : Nat := (now - start).toNat

/-- The moment `t`, taken within half the counter's range of `now`, is reached (log 25). -/
def reached (now t : Word) : Bool := (now - t).toNat < 2147483648

/-- The uptime `ms` after `now`. -/
def after (now : Word) (ms : Nat) : Word := now + BitVec.ofNat 32 ms

def reachedOpt (now : Word) : Option Word → Bool
  | some t => reached now t
  | none => false

/-! ### Sets of segments -/

def inSet (m : SegSet) (k : SegId) : Bool := m.getLsbD k.val

def setOf (f : SegId → Bool) : SegSet := BitVec.ofFnLE f

def setMembers (m : SegSet) : List SegId := (List.finRange 24).filter (inSet m)

/-- Segment number of an index, as a byte. -/
def segByte (k : SegId) : Byte := BitVec.ofNat 8 (k.val + 1)

/-- Runs `f` on the segments 1 to N, in ascending number. -/
def forSegs (f : SegId → State → State) (s : State) : State :=
  (List.finRange 24).foldl (fun t k => if k.val < t.loop.n then f k t else t) s

/-- Runs `f` on the segments 1 to N of a set, in ascending number. -/
def forSet (m : SegSet) (f : SegId → State → State) (s : State) : State :=
  forSegs (fun k t => if inSet m k then f k t else t) s

/-! ### Reading and updating one record -/

def State.seg (s : State) (k : SegId) : SegRec := s.loop.segs[k]
def State.unit (s : State) (k : SegId) : UnitRec := s.engine.units[k]
def State.aseg (s : State) (k : SegId) : AllocSeg := s.alloc.segs[k]
def State.meters (s : State) (k : SegId) : Six MeterEntry := s.meter.recs[k]
def State.chan (s : State) (c : Chan) : TalkRec := s.talk.chans.get c
def State.upl (s : State) (k : SegId) : Pair UplinkRec := s.talk.uplink[k]
def State.msg (s : State) (i : MsgId) : MsgRec := s.store.dir[i]
def State.pchan (s : State) (c : PChan) : PlayRec := s.play.chans.pget c
def State.owner (s : State) (k : SegId) : Source := s.brk.owners[k]
def State.lineUnit (s : State) (k : SegId) : Option LineUnit := s.plant.units[k]
def State.port (s : State) (p : Port) : PortRec := s.ports.get p

def State.modSeg (s : State) (k : SegId) (f : SegRec → SegRec) : State := { s with loop.segs := vupd s.loop.segs k f }
def State.modUnit (s : State) (k : SegId) (f : UnitRec → UnitRec) : State :=
  { s with engine.units := vupd s.engine.units k f }
def State.modAseg (s : State) (k : SegId) (f : AllocSeg → AllocSeg) : State :=
  { s with alloc.segs := vupd s.alloc.segs k f }
def State.modMeters (s : State) (k : SegId) (f : Six MeterEntry → Six MeterEntry) : State :=
  { s with meter.recs := vupd s.meter.recs k f }
def State.modMeter (s : State) (k : SegId) (e : Entry) (f : MeterEntry → MeterEntry) : State :=
  s.modMeters k fun v => v.set e (f (v.get e))
def State.modChan (s : State) (c : Chan) (f : TalkRec → TalkRec) : State :=
  { s with talk.chans := s.talk.chans.set c (f (s.talk.chans.get c)) }
def State.modMsg (s : State) (i : MsgId) (f : MsgRec → MsgRec) : State := { s with store.dir := vupd s.store.dir i f }
def State.modPchan (s : State) (c : PChan) (f : PlayRec → PlayRec) : State :=
  { s with play.chans := s.play.chans.pset c (f (s.play.chans.pget c)) }
def State.modPort (s : State) (p : Port) (f : PortRec → PortRec) : State :=
  { s with ports := s.ports.set p (f (s.ports.get p)) }
def State.modLineUnit (s : State) (k : SegId) (f : LineUnit → LineUnit) : State :=
  { s with plant.units := vupd s.plant.units k (Option.map f) }

/-- Every element of a vector replaced by `f` of it. -/
def vall {α : Type} {n : Nat} (v : Vector α n) (f : α → α) : Vector α n := Vector.ofFn fun i : Fin n => f v[i]

def State.modSegs (s : State) (f : SegRec → SegRec) : State := { s with loop.segs := vall s.loop.segs f }
def State.modUnits (s : State) (f : UnitRec → UnitRec) : State := { s with engine.units := vall s.engine.units f }

/-! ### The message memory (R105) -/

/-- DESIGN CHOICE (log 10): what a byte that nothing has written reads as. -/
def memDefault : Byte := 0

def memGet : List Host.Cell → Nat → Byte
  | [], _ => memDefault
  | (x, b) :: m, a => if x = a then b else memGet m a

/-- The canonical form kept: addresses rise, and no entry holds what an unlisted address reads as. -/
def memPut : List Host.Cell → Nat → Byte → List Host.Cell
  | [], a, b => if b = memDefault then [] else [(a, b)]
  | (x, c) :: m, a, b =>
    if a < x then (if b = memDefault then (x, c) :: m else (a, b) :: (x, c) :: m)
    else if a = x then (if b = memDefault then m else (a, b) :: m)
    else (x, c) :: memPut m a b

/-- Every address from `lo`, strictly rising, and no entry that an unlisted address would read as. -/
def memOrdered : Nat → List Host.Cell → Bool
  | _, [] => true
  | lo, (x, b) :: m => decide (lo ≤ x) && decide (b ≠ memDefault) && memOrdered (x + 1) m

/-- The canonical form, within the 1024 blocks of 4096 bytes. -/
def Memory.wf (m : List Host.Cell) : Bool := memOrdered 0 m && m.all fun (x, _) => decide (x < 4194304)

def memRead (m : List Host.Cell) (a : MemAddr) : Byte := memGet m a.toNat

def memWrite (m : List Host.Cell) (a : MemAddr) (b : Byte) : List Host.Cell := memPut m a.toNat b

/-- R105: where byte `j` of a message whose run starts at block `first` stands. -/
def msgAddr (first j : Nat) : MemAddr :=
  BitVec.ofNat 22 ((first + j / Config.blockBytes) * Config.blockBytes + j % Config.blockBytes)

/-- R109: bytes stored from byte `j` of the message on. -/
def memStore (m : List Host.Cell) (first j : Nat) : List Byte → List Host.Cell
  | [] => m
  | b :: bs => memStore (memWrite m (msgAddr first j) b) first (j + 1) bs

/-- R113, R115: `n` bytes read from byte `j` of the message on. -/
def memLoad (m : List Host.Cell) (first j : Nat) : Nat → List Byte
  | 0 => []
  | n + 1 => memRead m (msgAddr first j) :: memLoad m first (j + 1) n

/-- R106: the sum of byte values, modulo 65536. -/
def checksum : List Byte → Half
  | [] => 0
  | b :: bs => b.zeroExtend 16 + checksum bs

/-! ### Events (R170) -/

/-- R170: appended at the tail, or discarded with the overflow flag set. -/
def PortRec.enqueue (p : PortRec) (e : EventRec) : PortRec :=
  if p.queue.length < Config.queueCapacity then { p with queue := p.queue ++ [e] } else { p with overflow := true }

def toO : Tri Bool := ⟨true, false, false⟩
def toE : Tri Bool := ⟨false, true, false⟩
def toC : Tri Bool := ⟨false, false, true⟩
def toOC : Tri Bool := ⟨true, false, true⟩
def toOE : Tri Bool := ⟨true, true, false⟩
def toEC : Tri Bool := ⟨false, true, true⟩
def toAll : Tri Bool := ⟨true, true, true⟩

/-- R168, R169: one port and port O, once. -/
def toPortAndO : Port → Tri Bool
  | .o => toO | .e => toOE | .c => toOC

/-- R170: an event record queued to each of the ports that its kind and subject call for. -/
def State.raise (s : State) (dst : Tri Bool) (kind : EventKind) (subject : Byte) (a b : Half) : State :=
  let e : EventRec := ⟨kind, subject, s.sys.uptime, a, b⟩
  { s with ports :=
      { o := if dst.o then s.ports.o.enqueue e else s.ports.o,
        e := if dst.e then s.ports.e.enqueue e else s.ports.e,
        c := if dst.c then s.ports.c.enqueue e else s.ports.c } }

/-- A half whose high and low bytes are given. -/
def hiLo (hi lo : Byte) : Half := hi ++ lo

/-- R180: the subject of an allocation entry's event. -/
def entryCode : Entry → Byte
  | .c1 => 0 | .c2 => 1 | .c3 => 2 | .c4 => 3 | .rs => 4 | .bc => 5

def entrySubject (k : SegId) (e : Entry) : Byte := segByte k ||| (entryCode e <<< 5)

/-- R39, R53: the owner port of an entry. -/
def ownerPort : Entry → Port
  | .rs => .e
  | .bc => .o
  | _ => .c

def toPort : Port → Tri Bool
  | .o => toO | .e => toE | .c => toC

/-! ### Attention (R172) and the loop's frames -/

/-- R172, R174: a port's attention output is asserted. -/
def State.attention (s : State) (p : Port) : Bool :=
  !s.sys.held && (!(s.port p).queue.isEmpty || (s.port p).lapsed)

/-- A frame put onto the loop (log 8). -/
def State.transmit (s : State) (sender : Sender) (bytes : List Byte) : State :=
  { s with wire := s.wire ++ [⟨sender, bytes⟩] }

/-! ### Responses (R161, R177) -/

def Status.code : Status → Byte
  | .ok => 0x00 | .converted => 0x01 | .empty => 0x02 | .frameError => 0x03 | .notPermitted => 0x04
  | .notReady => 0x05 | .badArgument => 0x06 | .busy => 0x07 | .inUse => 0x08 | .exists_ => 0x09
  | .notFound => 0x0a | .noSpace => 0x0b | .badSequence => 0x0c | .incomplete => 0x0d | .lapsed => 0x0e
  | .alreadySet => 0x0f | .noArm => 0x10 | .timedOut => 0x11 | .incident => 0x12 | .lineActive => 0x13

/-- R177: the bytes of a response frame. -/
def Response.bytes (r : Response) : List Byte :=
  withCheck ([r.status.code, r.echo] ++ be2 (BitVec.ofNat 16 r.payload.length) ++ r.payload)

/-- R161, R177: `n` bytes shifted out, the record and then fill bytes FFh. -/
def shiftOut (n : Nat) (r : Response) : List Byte :=
  (r.bytes ++ List.replicate (n - r.bytes.length) 0xff).take n

/-- R161: one chip-select period on a port shifts these bytes in, and as many out of the holding record. -/
def PortRec.shift (p : PortRec) (bytes : List Byte) : PortRec :=
  { p with rx := bytes, tx := shiftOut bytes.length p.holding }

/-- The answer of a block to a command. -/
structure Reply where
  status : Status
  payload : List Byte
  deriving DecidableEq, Repr

/-- R179: a response for which the rule lists no values. -/
def Reply.plain (st : Status) : Reply := ⟨st, []⟩

def Reply.ok : Reply := ⟨.ok, []⟩

/-- R161: the response becomes the holding record. -/
def State.hold (s : State) (p : Port) (code : Byte) (r : Reply) : State :=
  s.modPort p fun q => { q with holding := ⟨r.status, code, r.payload⟩ }

end Sys2Proof.Machine
end

