-- ==== Sys2Proof/Machine/Operands.lean ====
section
/-! DEFINITION. Operand forms: which port may send which command and when (R164), the operand checks and codes (R178),
the codes and fields of responses and event records (R179, R180), and the course of one command period (R161 to R163). -/

namespace Sys2Proof.Machine

/-! ### Admission (R163, R164, R169) -/

/-- In which part states a port may send a command. -/
inductive Access where
  | never | setup | run | both
  deriving DecidableEq, Repr

/-- A row of the table of R164. -/
structure Admission where
  o : Access
  e : Access
  c : Access
  lapsed : Bool
  deriving DecidableEq, Repr

def Admission.port (a : Admission) : Port → Access
  | .o => a.o | .e => a.e | .c => a.c

def forAllPorts : Admission := ⟨.both, .both, .both, true⟩
def forO : Admission := ⟨.both, .never, .never, false⟩
def forOSetup : Admission := ⟨.setup, .never, .never, false⟩
def forERun : Admission := ⟨.never, .run, .never, false⟩
def forOAndERun : Admission := ⟨.both, .run, .never, false⟩

/-- R164. -/
def admissionOf : Instr → Admission
  | .readPartStatus _ => forAllPorts
  | .readEvents _ => forAllPorts
  | .serviceArm _ => forAllPorts
  | .serviceConfirm _ => forAllPorts
  | .configureService _ _ => ⟨.both, .both, .both, false⟩
  | .setSegmentCount _ _ => forOSetup
  | .setLimit _ _ _ => forO
  | .setDerate _ _ => forO
  | .setFloors _ _ _ => forO
  | .setIncidentFloors _ _ _ _ => forO
  | .setCarrierCap _ _ => forO
  | .setRampStep _ _ => forO
  | .setSurveyPeriod _ _ => forO
  | .setMeterPolicy _ _ _ _ _ => forO
  | .setFireSense _ _ => forOSetup
  | .setPlayoutPriority _ _ => forOSetup
  | .commitSetup _ => forOSetup
  | .setUnitMode _ _ _ => forO
  | .setBroadcastRequest _ _ _ => forO
  | .resetPart _ => forO
  | .setRescueRequest _ _ _ _ => forERun
  | .setCoverage _ _ _ => forERun
  | .setTalkTimers _ _ _ _ => forERun
  | .key _ _ _ => forERun
  | .unkey _ _ => forERun
  | .readTalk _ _ => forAllPorts
  | .setCarrierRequest _ _ _ _ => ⟨.never, .never, .run, false⟩
  | .readSegment _ _ => forAllPorts
  | .readAllocation _ _ => forAllPorts
  | .readAlerts _ _ => forAllPorts
  | .setAlertMode _ _ _ _ _ => ⟨.both, .run, .run, false⟩
  | .readAccumulators _ => forAllPorts
  | .resetAccumulators _ _ => forO
  | .declareIncident _ => forOAndERun
  | .clearIncident _ _ => forOAndERun
  | .setIncidentMessage _ _ => forO
  | .startBreakIn _ _ _ => forOAndERun
  | .stopBreakIn _ => forOAndERun
  | .openMessage _ _ _ _ => forO
  | .writeChunk _ _ _ _ => forO
  | .closeMessage _ _ _ => forO
  | .deleteMessage _ _ => forO
  | .readDirectory _ _ _ => ⟨.both, .both, .never, true⟩
  | .readChunk _ _ _ _ => ⟨.both, .both, .never, true⟩
  | .programPlayout _ _ _ _ _ _ => forOAndERun
  | .startPlayout _ _ => forOAndERun
  | .stopPlayout _ _ => forOAndERun
  | .readPlayout _ _ => forAllPorts
  | _ => ⟨.never, .never, .never, false⟩

def Access.admits : Access → PartState → Bool
  | .both, _ => true
  | .setup, .setup => true
  | .run, .run => true
  | _, _ => false

/-- R163: the second, third and fourth check; none when the command is handed to its block. -/
def admissionFailure (a : Admission) (p : Port) (lapsed : Bool) (part : PartState) : Option Status :=
  if a.port p = .never then some .notPermitted
  else if lapsed && !a.lapsed then some .lapsed
  else if !(a.port p).admits part then some .notReady
  else none

/-! ### Operand checks (R178, section 3.2) -/

/-- A segment of 1 to N. -/
def segOf (s : State) (b : Byte) : Option SegId :=
  if h : 1 ≤ b.toNat ∧ b.toNat ≤ s.loop.n ∧ b.toNat ≤ 24 then some ⟨b.toNat - 1, by omega⟩ else none

/-- A set that is not empty and names segments 1 to N only. -/
def setOk (s : State) (m : SegSet) : Bool := m ≠ 0 && decide (m.toNat < 2 ^ s.loop.n)

def powerOk (h : Half) : Bool := h.toNat ≤ Config.maxPower

def chanOf (b : Byte) : Option Chan :=
  match b.toNat with
  | 1 => some .t1 | 2 => some .t2 | _ => none

def pchanOf (b : Byte) : Option PChan :=
  match b.toNat with
  | 1 => some .p1 | 2 => some .p2 | 3 => some .p3 | 4 => some .p4 | _ => none

def operatorOf (b : Byte) : Option Carrier :=
  match b.toNat with
  | 1 => some .c1 | 2 => some .c2 | 3 => some .c3 | 4 => some .c4 | _ => none

def entryOf (b : Byte) : Option Entry :=
  match b.toNat with
  | 0 => some .c1 | 1 => some .c2 | 2 => some .c3 | 3 => some .c4 | 4 => some .rs | 5 => some .bc | _ => none

/-- An enumeration of two values, or a flag. -/
def flagOf (b : Byte) : Option Bool :=
  match b.toNat with
  | 0 => some false | 1 => some true | _ => none

def msgIdOf (b : Byte) : Option MsgId :=
  if h : 1 ≤ b.toNat ∧ b.toNat ≤ 64 then some ⟨b.toNat - 1, by omega⟩ else none

/-- A playlist of identifiers 1 to 64. -/
def playlistOf : List Byte → Option (List MsgId)
  | [] => some []
  | b :: bs =>
    match msgIdOf b, playlistOf bs with
    | some i, some is => some (i :: is)
    | _, _ => none

def periodOf (b : Byte) : Option Period :=
  match b.toNat with
  | 1 => some .s1 | 4 => some .s4 | 16 => some .s16 | 64 => some .s64 | _ => none

def Period.seconds : Period → Nat
  | .s1 => 1 | .s4 => 4 | .s16 => 16 | .s64 => 64

def Period.ms (d : Period) : Nat := d.seconds * 1000

/-! ### Codes of responses and event records (R179, R180) -/

def b1 (n : Nat) : List Byte := [BitVec.ofNat 8 n]
def b2 (n : Nat) : List Byte := be2 (BitVec.ofNat 16 n)
def b4 (n : Nat) : List Byte := be4 (BitVec.ofNat 32 n)
def fl (b : Bool) : List Byte := [if b then 1 else 0]

/-- R179: a value that may be absent, in a field of `w` bytes. -/
def optField (w : Nat) : Option (List Byte) → List Byte
  | some bs => [1] ++ bs
  | none => [0] ++ List.replicate w 0

/-- R179: a list, after the number of its members. -/
def counted (members : List (List Byte)) : List Byte := b1 members.length ++ members.flatten

def segField (k : SegId) : List Byte := [segByte k]
def idByte (i : MsgId) : Byte := BitVec.ofNat 8 (i.val + 1)

def linkCode : LinkState → Nat
  | .unseen => 0 | .present => 1 | .missing => 2 | .lost => 3

/-- The order of R13, with NONE as a code of its own (DESIGN CHOICE, log 11). -/
def reachCode : Reach → Nat
  | .left => 0 | .right => 1 | .both => 2 | .none => 3

/-- R180: the incident level as a bit and as a byte of a response, 0 NORMAL and 1 INCIDENT (DESIGN CHOICE, log 11). -/
def levelFlag : Level → Bool
  | .normal => false | .incident => true

/-- R180. -/
def floorCode : FloorState → Nat
  | .idle => 0 | .inbound => 1 | .outbound => 2 | .hang => 3

def sideCode : Option TalkSide → Nat
  | none => 0 | some .inbound => 1 | some .outbound => 2

def keyCode : KeyState → Nat
  | .unkeyed => 0 | .keyed => 1 | .stuck => 2

def sourceCode : Source → Nat
  | .none => 0 | .liveE => 1 | .liveO => 2 | .p1 => 3 | .p2 => 4 | .p3 => 5 | .p4 => 6

/-- R178. -/
def feedCode : Option Feed → Nat
  | none => 0 | some .dispatch => 1 | some .t1 => 2 | some .t2 => 3

/-- R180: IDLE takes 0, before the three states of STARTED. -/
def playStateCode : PlayState → Nat
  | .idle => 0 | .playing => 1 | .held => 2 | .checking => 3

def playOwnerCode : PlayOwner → Nat
  | .none => 0 | .o => 1 | .e => 2 | .incident => 3

def pchanCode : PChan → Nat
  | .p1 => 1 | .p2 => 2 | .p3 => 3 | .p4 => 4

def chanCode : Chan → Nat
  | .t1 => 1 | .t2 => 2

def portCode : Port → Nat
  | .o => 1 | .e => 2 | .c => 3

def carrierNumber : Carrier → Nat
  | .c1 => 1 | .c2 => 2 | .c3 => 3 | .c4 => 4

/-- R150, R180: a claim set. -/
def claimsCode (c : Claims) : Nat :=
  (if c.ops then 1 else 0) + (if c.rescue then 2 else 0) + (if c.line then 4 else 0)

/-- R154. -/
def fireCode : FireLevel → Nat
  | .unsettled => 0 | .asserted => 1 | .deasserted => 2

/-- R180: the directory state of a message. -/
def msgStateCode : MsgContent → Nat
  | .empty => 0
  | .loading _ _ => 1
  | .closed _ _ false => 2
  | .closed _ _ true => 3

/-- R24, R180: the kind of a directive in flight (PROBE is 4, log 11). -/
def contentCode : Content → Nat
  | .levels _ => 1 | .zeroReset => 2 | .mode _ => 3 | .probe => 4

/-- R24. -/
def stepCode : DStep → Nat
  | .main => 0 | .rouse1 => 1 | .rouseWait => 2 | .rouse2 => 3

def slotCode : LevelsSlot → Nat
  | .empty => 0 | .levels => 1 | .zeroReset => 2

def partCode : PartState → Nat
  | .setup => 0 | .run => 1

def causeCode : ResetCause → Nat
  | .powerOn => 0 | .line => 1 | .command => 2

def eventCode : EventKind → Nat
  | .unitState => 1 | .unitMode => 2 | .unitReplaced => 3 | .loopFold => 4 | .loopMismatch => 5
  | .directiveFailed => 6 | .grantChanged => 7 | .alert => 8 | .entrySuspended => 9 | .entryResumed => 10
  | .talkState => 11 | .breakinOwner => 12 | .playoutState => 13 | .incident => 14 | .incidentMessageMissing => 15
  | .messageState => 16 | .portLapsed => 17 | .portRestored => 18 | .accumWrap => 19 | .partState => 20

/-- R180: the 10 bytes of an event record. -/
def EventRec.bytes (r : EventRec) : List Byte :=
  b1 (eventCode r.kind) ++ [r.subject] ++ be4 r.uptime ++ be2 r.a ++ be2 r.b

/-! ### The course of a command period (R161 to R163) -/

/-- What the checks of the port interface leave of a command period. -/
inductive Admitted where
  /-- No port takes frames, or the row is no command. -/
  | ignored (s : State)
  /-- Refused: the holding record has the answer. -/
  | refused (s : State)
  /-- Handed to its block; the answer goes to this port with this code echo. -/
  | passed (s : State) (p : Port) (code : Byte)
  deriving DecidableEq, Repr

/-- R161, R162, R163: the period of a command, up to the block that takes it. -/
def takePeriod (i : Instr) (s : State) : Admitted :=
  match commandFields i with
  | none => .ignored s
  | some (p, code, payload) =>
    if s.sys.held then .ignored s
    else
      let frame := commandFrame code payload
      let t := s.modPort p fun q => q.shift frame
      if !frameOk frame then .refused (t.hold p code (.plain .frameError))
      else if (decodePayload p code.toNat payload).isNone then .refused (t.hold p code (.plain .badArgument))
      else
        match admissionFailure (admissionOf i) p (s.port p).lapsed s.sys.part with
        | some st => .refused (t.hold p code (.plain st))
        | none => .passed t p code

/-- A command whose block makes these changes and gives this reply. -/
def portCommand (i : Instr) (body : State → State × Reply) (s : State) : State :=
  match takePeriod i s with
  | .ignored t => t
  | .refused t => t
  | .passed t p code => (body t).1.hold p code (body t).2

/-- A block's refusal: nothing changes. -/
def refuse (st : Status) (s : State) : State × Reply := (s, .plain st)

/-- A change answered OK, without values. -/
def accept (s : State) : State × Reply := (s, .ok)

/-- A read: nothing changes. -/
def answer (payload : List Byte) (s : State) : State × Reply := (s, ⟨.ok, payload⟩)

end Sys2Proof.Machine
end

