-- ==== Sys2Proof/Machine/Flags.lean ====
section
/-! DEFINITION. The level monitor's conditions and flags of one entry (R63 to R73), and the wrap flags of the
accumulators (R76). -/

namespace Sys2Proof.Machine

/-- R63: the value carried is recorded, and the history holds the latest 64. -/
def MeterEntry.record (e : MeterEntry) (m : Nat) : MeterEntry :=
  { e with raw := some m,
           history := (e.history ++ [m]).drop ((e.history ++ [m]).length - Config.historyLength) }

/-- R63: raw level absent and history empty. -/
def MeterEntry.forget (e : MeterEntry) : MeterEntry := { e with raw := none, history := [] }

/-- R64: floor(sum / m) over the latest m values, m the smaller of n and their number. -/
def averaged (n : Nat) (history : List Nat) : Option Nat :=
  if history.isEmpty then none
  else some ((history.drop (history.length - min n history.length)).sum / min n history.length)

/-- R67: M, by the compare basis. -/
def MeterEntry.compared (e : MeterEntry) (n : Nat) : Option Nat :=
  match e.basis with
  | .raw => e.raw
  | .averaged => averaged n e.history

/-- R67: t = floor(P × tol / 100). -/
def tolerance (p tol : Nat) : Nat := p * tol / 100

/-- R67. -/
def overCondition (m p tol : Nat) : Bool := m > p + tolerance p tol + 5

/-- R67. -/
def underCondition (m p tol : Nat) : Bool := p ≥ 20 && m < p - tolerance p tol

/-- R68, R69: a flag after an evaluated round. -/
def flagAfter (mode : AlertMode) (flag condition : Bool) : Bool :=
  match mode with
  | .transparent => condition
  | .latched => flag || condition

/-- R67, R68, R69: condition and flags at an evaluated round with this M and P. -/
def MeterEntry.evaluate (e : MeterEntry) (m p tol : Nat) : MeterEntry :=
  { e with isOver := overCondition m p tol, isUnder := underCondition m p tol,
           overFlag := flagAfter e.mode e.overFlag (overCondition m p tol),
           underFlag := flagAfter e.mode e.underFlag (underCondition m p tol) }

/-- R66: what becoming suspended does to the condition, the flags and the count. -/
def MeterEntry.suspend (e : MeterEntry) : MeterEntry :=
  { e with isOver := false, isUnder := false,
           overFlag := match e.mode with | .transparent => false | .latched => e.overFlag,
           underFlag := match e.mode with | .transparent => false | .latched => e.underFlag,
           count := 0 }

/-- R65, R66: the entry at a change of its applied level (absent: unknown). -/
def MeterEntry.appliedChange (e : MeterEntry) (settle : Nat) (old new : Option Nat) : MeterEntry :=
  if old = new then e
  else
    match new with
    | some _ => { e.suspend with settle := settle }
    | none => { e.suspend with settle := 0 }

/-- R70: the entry after SET ALERT MODE. -/
def MeterEntry.configure (e : MeterEntry) (mode : AlertMode) (basis : Basis) : MeterEntry :=
  match e.mode, mode with
  | .latched, .transparent => { e with basis := basis, mode := mode, overFlag := e.isOver, underFlag := e.isUnder }
  | _, _ => { e with basis := basis, mode := mode }

/-- R71: a read by the owner clears a latched flag whose condition is false. -/
def MeterEntry.readClear (e : MeterEntry) : MeterEntry :=
  match e.mode with
  | .transparent => e
  | .latched => { e with overFlag := e.overFlag && e.isOver, underFlag := e.underFlag && e.isUnder }

/-- R72: the consecutive-OVER count after an evaluated round, and whether suspension is asked for. -/
def countAfter (suspended : Bool) (limit count : Nat) (isOver : Bool) : Nat × Bool :=
  if suspended || limit = 0 then (0, false)
  else if isOver then (if limit ≤ count + 1 then (0, true) else (count + 1, false))
  else (0, false)

/-- R73: a record under a new policy. -/
def MeterEntry.newPolicy (e : MeterEntry) (settle persist : Nat) : MeterEntry :=
  { e with settle := min e.settle settle, count := if persist = 0 then 0 else e.count }

/-- R74, R76: an energy accumulator after a gain, and whether it wrapped. -/
def EnergyAcc.gain (a : EnergyAcc) (amount : Nat) : EnergyAcc × Bool :=
  if a.value.toNat + amount < 2 ^ 48 then (⟨BitVec.ofNat 48 (a.value.toNat + amount), a.wrapped⟩, false)
  else (⟨BitVec.ofNat 48 (a.value.toNat + amount), true⟩, true)

/-- R75, R76: an airtime accumulator after one mark, and whether it wrapped. -/
def AirtimeAcc.gain (a : AirtimeAcc) : AirtimeAcc × Bool :=
  if a.value.toNat + 1 < 2 ^ 32 then (⟨a.value + 1, a.wrapped⟩, false) else (⟨a.value + 1, true⟩, true)

end Sys2Proof.Machine
end

