-- ==== Sys2Proof/Machine/Engine.lean ====
section
/-! DEFINITION. The directive engine's slots and applied levels (R24, R25, R36), as the other blocks reach them. -/

namespace Sys2Proof.Machine

/-- Six levels of 0. -/
def zeroLevels : Six Nat := .all 0

/-- R39: the six grants of a segment. -/
def AllocSeg.grants (a : AllocSeg) : Six Nat :=
  ⟨a.c.c1.grant, a.c.c2.grant, a.c.c3.grant, a.c.c4.grant, a.rs.grant, a.bc.grant⟩

def AllocSeg.withGrants (a : AllocSeg) (g : Six Nat) : AllocSeg :=
  { a with
    c := { c1 := { a.c.c1 with grant := g.c1 }, c2 := { a.c.c2 with grant := g.c2 },
           c3 := { a.c.c3 with grant := g.c3 }, c4 := { a.c.c4 with grant := g.c4 } },
    rs := { a.rs with grant := g.rs }, bc := { a.bc with grant := g.bc } }

/-- R19: the unit mode that a target mode names. -/
def unitModeOf : TargetMode → UnitMode
  | .active => .active | .standby => .standby | .dormant => .dormant

/-- LEVELS, ZERO-RESET and PROBE are LEVELS frames. -/
def Content.isLevels : Content → Bool
  | .mode _ => false
  | _ => true

/-- R25: no LEVELS, ZERO-RESET or PROBE is in flight. -/
def UnitRec.levelsClear (u : UnitRec) : Bool :=
  match u.inflight with
  | some d => !d.content.isLevels
  | none => true

/-- The applied levels are known and differ from these grants. -/
def UnitRec.behind (u : UnitRec) (g : Six Nat) : Bool :=
  match u.applied with
  | some v => v ≠ g
  | none => false

/-- R24, R25, R35: a LEVELS request. -/
def UnitRec.requestLevels (u : UnitRec) : UnitRec :=
  if u.marked then u
  else
    match u.levelsSlot with
    | .empty => { u with levelsSlot := .levels }
    | _ => u

/-- R24: a ZERO-RESET request. -/
def UnitRec.requestZeroReset (u : UnitRec) : UnitRec := { u with levelsSlot := .zeroReset }

/-- R26: STANDBY and DORMANT wait for applied levels of 0. -/
def isDown : TargetMode → Bool
  | .active => false
  | _ => true

/-- R25: a MODE target STANDBY or DORMANT is queued or in flight. -/
def UnitRec.goingDown (u : UnitRec) : Bool :=
  (match u.modeSlot with | some t => isDown t | none => false) ||
  (match u.inflight with
   | some d => (match d.content with | .mode t => isDown t | _ => false)
   | none => false)

/-- R25: a LEVELS for a unit that is to go down with an applied level above 0 (log 15). -/
def UnitRec.requestDrain (u : UnitRec) : UnitRec :=
  match u.applied with
  | some v => if u.goingDown && v ≠ zeroLevels && u.levelsSlot = .empty then u.requestLevels else u
  | none => u

/-- R24, R20: this MODE is queued, or in flight with nothing queued after it (log 16). -/
def UnitRec.hasMode (u : UnitRec) (t : TargetMode) : Bool :=
  match u.modeSlot with
  | some t' => t' = t
  | none =>
    match u.inflight with
    | some d => d.content = .mode t
    | none => false

/-- R24, R25, R35: a MODE request. -/
def UnitRec.requestMode (u : UnitRec) (t : TargetMode) : UnitRec :=
  if u.marked || u.hasMode t then u else { u with modeSlot := some t }.requestDrain

/-- R31, R34, R37: the directive in flight ends or is dropped, and both slots are emptied. -/
def UnitRec.drop (u : UnitRec) : UnitRec := { u with inflight := none, levelsSlot := .empty, modeSlot := none }

/-- R36, R65: the applied levels of a segment change, and the level monitor is told. -/
def State.setApplied (s : State) (k : SegId) (new : Option (Six Nat)) : State :=
  let old := (s.unit k).applied
  (s.modUnit k fun u => { u with applied := new }).modMeters k fun v =>
    Six.build fun e =>
      (v.get e).appliedChange s.meter.policy.settle (old.map fun w => w.get e) (new.map fun w => w.get e)

/-- R16: a PRESENT segment with acquired no is to be acquired. -/
def wantsAcquisition (r : SegRec) : Bool := r.link = .present && !r.acquired

/-- R25, R52: the allocator hands the grants of a segment; a LEVELS is queued where they ask for one, for a MISSING or LOST segment
too. After a NAK WRONG_UNIT nothing is queued until the next evaluation (R31, log 37). -/
def engineTakesGrants (k : SegId) (s : State) : State :=
  if !wantsAcquisition (s.seg k) && (s.unit k).levelsClear && (s.unit k).behind (s.aseg k).grants then
    s.modUnit k UnitRec.requestLevels
  else s

end Sys2Proof.Machine
end

