-- ==== Sys2Proof/Machine/Allocator.lean ====
section
/-! DEFINITION. The allocator: effective values (R45 to R47), the grant round (R48 to R53), when rounds run (R54 to R56),
suspension (R57), and the effective limit that the loop controller hands it (R21). -/

namespace Sys2Proof.Machine

/-! ### Effective floors and requests -/

/-- An effective floor and request. -/
structure Want where
  f : Nat
  r : Nat
  deriving DecidableEq, Repr

structure Wants where
  c : Four Want
  rs : Want
  bc : Want
  deriving DecidableEq, Repr

/-- R39, R44: floor(E × percentage / 100). -/
def carrierCap (eff pct : Nat) : Nat := eff * pct / 100

/-- R45. -/
def carrierWant (level : Level) (cap : Nat) (e : CarrierEntry) : Want :=
  if e.suspended then ⟨0, 0⟩
  else
    match level with
    | .normal => ⟨min e.floor e.request, e.request⟩
    | .incident => ⟨min e.floor (min cap (min e.request cap)), min e.request cap⟩

/-- R46: the floor in force of RS and BC. -/
def floorInForce (level : Level) (floor ifloor : Nat) : Nat :=
  match level with
  | .normal => floor
  | .incident => ifloor

/-- R46, R47. -/
def rescueWant (level : Level) (activity : Bool) (e : RescueEntry) : Want :=
  let f := floorInForce level e.floor e.ifloor
  ⟨f, max (if activity then e.qActive else e.qIdle) f⟩

/-- R46. -/
def broadcastWant (level : Level) (e : BroadcastEntry) : Want :=
  let f := floorInForce level e.floor e.ifloor
  ⟨f, max e.request f⟩

/-- The effective values of a segment with effective limit `eff`. -/
def wantsOf (al : AllocRec) (eff : Nat) (a : AllocSeg) : Wants :=
  { c := a.c.map (carrierWant al.level (carrierCap eff al.capPct)),
    rs := rescueWant al.level al.activity a.rs,
    bc := broadcastWant al.level a.bc }

/-! ### The grant round -/

def nextCarrier : Carrier → Carrier
  | .c1 => .c2 | .c2 => .c3 | .c3 => .c4 | .c4 => .c1

/-- R39: the rotation order from the pointer. -/
def rotationFrom : Carrier → List Carrier
  | .c1 => [.c1, .c2, .c3, .c4]
  | .c2 => [.c2, .c3, .c4, .c1]
  | .c3 => [.c3, .c4, .c1, .c2]
  | .c4 => [.c4, .c1, .c2, .c3]

/-- R49: each carrier in turn receives min(f, A); the floors received and what is left of A. -/
def floorPhase (f : Four Nat) : List Carrier → Nat → Four Nat → Four Nat × Nat
  | [], a, g => (g, a)
  | c :: cs, a, g => floorPhase f cs (a - min (f.get c) a) (g.set c (min (f.get c) a))

/-- R51: one milliwatt to each carrier still asking, in order, until D is used up. -/
def handOut (x : Four Nat) : List Carrier → Nat → Four Nat → Four Nat
  | [], _, g => g
  | c :: cs, d, g =>
    if 0 < d && 0 < x.get c then handOut x cs (d - 1) (g.set c (g.get c + 1)) else handOut x cs d g

/-- R51: the carrier excess phase on `a` milliwatts, after the carriers' floors `g`. -/
def excessPhase (r g : Four Nat) (a : Nat) (p : Carrier) : Four Nat × Carrier :=
  let x := r.zipWith (· - ·) g
  if x.total ≤ a then (g.zipWith (· + ·) x, p)
  else
    let share := x.map fun xi => a * xi / x.total
    let d := a - share.total
    (handOut x (rotationFrom p) d (g.zipWith (· + ·) share), if 0 < d then nextCarrier p else p)

/-- R48 to R51: the six grants and the pointer after a round from effective limit `eff`. -/
def grantRound (eff : Nat) (w : Wants) (p : Carrier) : Six Nat × Carrier :=
  let rsFloor := min w.rs.f eff
  let a1 := eff - rsFloor
  let bcFloor := min w.bc.f a1
  let a2 := a1 - bcFloor
  let (floors, a3) := floorPhase (w.c.map (·.f)) (rotationFrom p) a2 (.all 0)
  let rsMore := min (w.rs.r - rsFloor) a3
  let a4 := a3 - rsMore
  let bcMore := min (w.bc.r - bcFloor) a4
  let a5 := a4 - bcMore
  let (c, p') := excessPhase (w.c.map (·.r)) floors a5 p
  (⟨c.c1, c.c2, c.c3, c.c4, rsFloor + rsMore, bcFloor + bcMore⟩, p')

/-- R53: GRANT_CHANGED for an entry whose grant changed. -/
def raiseGrantChange (k : SegId) (old new : Six Nat) (s : State) (e : Entry) : State :=
  if old.get e = new.get e then s
  else s.raise (toPort (ownerPort e)) .grantChanged (entrySubject k e) (BitVec.ofNat 16 (old.get e)) (BitVec.ofNat 16 (new.get e))

/-- R84: the relay set of a channel. -/
def relayOf (al : AllocRec) (coverage : SegSet) : SegSet :=
  setOf fun k => inSet coverage k && decide (0 < al.segs[k].rs.grant)

/-- R84, R52: both relay sets, from the coverage sets and the RS grants. -/
def refreshRelay (s : State) : State :=
  { s with talk.chans := s.talk.chans.map fun c => { c with relay := relayOf s.alloc c.coverage } }

/-- The new grants and pointer of a segment. -/
def State.roundResult (s : State) (k : SegId) : Six Nat × Carrier :=
  grantRound (s.seg k).eff (wantsOf s.alloc (s.seg k).eff (s.aseg k)) (s.aseg k).ptr

/-- R48, R52, R53, R55: a grant round on a segment, with what its readers take from it. -/
def runRound (k : SegId) (s : State) : State :=
  if s.sys.part = .run ∧ k.val < s.loop.n then
    let r := s.roundResult k
    let t := s.modAseg k fun a => { a.withGrants r.1 with ptr := r.2 }
    let t := Entry.every.foldl (raiseGrantChange k (s.aseg k).grants r.1) t
    engineTakesGrants k (refreshRelay t)
  else s

/-- R54: a round on each segment 1 to N whose effective values differ from those of `old`. -/
def roundsWhereChanged (old : AllocRec) (s : State) : State :=
  forSegs (fun k t =>
    if wantsOf old (t.seg k).eff old.segs[k] = wantsOf t.alloc (t.seg k).eff (t.aseg k) then t else runRound k t) s

/-- Section 3.2: a write of settings in every segment of a set, and the rounds it causes. -/
def writeEntries (m : SegSet) (f : AllocSeg → AllocSeg) (s : State) : State :=
  roundsWhereChanged s.alloc (forSet m (fun k t => t.modAseg k f) s)

/-- R43: the same write in one segment. -/
def writeEntry (k : SegId) (f : AllocSeg → AllocSeg) (s : State) : State :=
  let t := s.modAseg k f
  if wantsOf s.alloc (s.seg k).eff (s.aseg k) = wantsOf t.alloc (s.seg k).eff (t.aseg k) then t else runRound k t

/-- R47: rescue activity starts or ends. -/
def setActivity (b : Bool) (s : State) : State := forSegs runRound { s with alloc.activity := b }

/-- R56: the allocator takes the new incident level. -/
def allocLevel (l : Level) (s : State) : State := forSegs runRound { s with alloc.level := l }

/-- R57: the level monitor asks for a carrier entry to be suspended. -/
def suspendEntry (k : SegId) (c : Carrier) (s : State) : State :=
  if ((s.aseg k).c.get c).suspended then s
  else
    let t := s.modAseg k fun a => { a with c := a.c.set c { a.c.get c with suspended := true } }
    runRound k (t.raise toOC .entrySuspended (entrySubject k c.entry) 0 0)

/-! ### The effective limit -/

/-- R21. -/
def limitOf (r : SegRec) (marked : Bool) (derate : Nat) : Nat :=
  match r.link, r.observed with
  | .lost, _ => 0
  | .unseen, _ => 0
  | _, none => 0
  | _, some o =>
    if marked || r.commanded ≠ .active || o.mode ≠ .active then 0
    else
      match o.temp with
      | .hot => 0
      | .warm => r.limit * derate / 100
      | .normal => r.limit

/-- R21, R55: E is recomputed, and the rounds follow together. -/
def storeLimit (k : SegId) (s : State) : State :=
  s.modSeg k fun r => { r with eff := limitOf r (s.unit k).marked s.loop.derate }

/-- R21: E is recomputed; a changed E is handed to the allocator, which runs a round. -/
def recomputeLimit (k : SegId) (s : State) : State :=
  let e := limitOf (s.seg k) (s.unit k).marked s.loop.derate
  if e = (s.seg k).eff then s else runRound k (s.modSeg k fun r => { r with eff := e })

end Sys2Proof.Machine
end

