-- ==== Sys2Proof/Machine/Talk.lean ====
section
/-! DEFINITION. The talk controller: eligibility and vote (R82, R83), the floor (R88 to R93), time-out and barring (R94 to
R97), rescue activity (R100), and its commands and timers. The floor reacts to the eligible set as it stands (log 23). -/

namespace Sys2Proof.Machine

/-! ### Eligibility and the vote -/

/-- R82. -/
def isEligible (s : State) (c : Chan) (k : SegId) : Bool :=
  decide (k.val < s.loop.n) && decide ((s.seg k).link = .present) && inSet (s.chan c).coverage k &&
  ((s.upl k).get c).carrier && decide (3 ≤ ((s.upl k).get c).quality.toNat) && !inSet (s.chan c).barred k

def eligibleSet (s : State) (c : Chan) : SegSet := setOf (isEligible s c)

def qualityAt (s : State) (c : Chan) (k : SegId) : Nat := ((s.upl k).get c).quality.toNat

/-- R83: the better of two candidates taken in ascending number; the first wins a tie. -/
def betterVote (s : State) (c : Chan) (best : Option SegId) (k : SegId) : Option SegId :=
  match best with
  | none => some k
  | some b => if qualityAt s c b < qualityAt s c k then some k else some b

/-- R83: the eligible segment with the highest quality, the lowest number among equals. -/
def bestVote (s : State) (c : Chan) : Option SegId :=
  ((List.finRange 24).filter (isEligible s c)).foldl (betterVote s c) none

/-- R83: the voted segment is kept unless it is no longer eligible, or another is at least 2 better. -/
def revote (s : State) (c : Chan) : Option SegId :=
  match (s.chan c).voted with
  | none => bestVote s c
  | some v =>
    if isEligible s c v && (List.finRange 24).all fun k => !isEligible s c k || decide (qualityAt s c k < qualityAt s c v + 2)
    then some v
    else bestVote s c

/-! ### Floor entries -/

/-- Entry to INBOUND: the vote is taken and the TOT starts (R83, R94). -/
def enterInbound (c : Chan) (pending : Option TalkSide) (s : State) : State :=
  s.modChan c fun t =>
    { t with floor := .inbound, voted := bestVote s c, pending := pending, hangSide := none,
             totStart := some s.sys.uptime, hangExpiry := none }

/-- Entry to OUTBOUND: the TOT starts (R94). -/
def enterOutbound (c : Chan) (pending : Option TalkSide) (s : State) : State :=
  s.modChan c fun t =>
    { t with floor := .outbound, voted := none, pending := pending, hangSide := none,
             totStart := some s.sys.uptime, hangExpiry := none }

def enterIdle (c : Chan) (s : State) : State :=
  s.modChan c fun t =>
    { t with floor := .idle, voted := none, pending := none, hangSide := none, totStart := none, hangExpiry := none }

/-- R93: entry to HANG, or to IDLE with a hang time of 0. -/
def enterHang (c : Chan) (side : TalkSide) (s : State) : State :=
  if s.talk.hangMs = 0 then enterIdle c s
  else
    s.modChan c fun t =>
      { t with floor := .hang, voted := none, pending := none, hangSide := some side, totStart := none,
               hangExpiry := some (after s.sys.uptime s.talk.hangMs) }

def setKey (c : Chan) (k : KeyState) (s : State) : State := s.modChan c fun t => { t with key := k }

def setPending (c : Chan) (p : Option TalkSide) (s : State) : State := s.modChan c fun t => { t with pending := p }

/-- R92: the floor leaves OUTBOUND. -/
def leaveOutbound (c : Chan) (s : State) : State :=
  match (s.chan c).pending with
  | some .inbound => enterInbound c none s
  | _ => enterHang c .outbound s

/-! ### Reaction to the eligible set -/

/-- R88, R89, R83: the floor of a channel follows its inbound claim, and the vote is revised. -/
def reactFloor (c : Chan) (s : State) : State :=
  let claim : Bool := eligibleSet s c ≠ 0
  match (s.chan c).floor with
  | .idle => if claim then enterInbound c none s else s
  | .inbound =>
    if claim then s.modChan c fun t => { t with voted := revote s c }
    else
      match (s.chan c).pending with
      | some .outbound => enterOutbound c none s
      | _ => enterHang c .inbound s
  | .outbound => setPending c (if claim then some .inbound else none) s
  | .hang =>
    match (s.chan c).hangSide with
    | some .outbound => setPending c (if claim then some .inbound else none) s
    | _ => if claim then enterInbound c (s.chan c).pending s else s

/-- R81: both floors. -/
def reactBoth (s : State) : State := reactFloor .t2 (reactFloor .t1 s)

/-! ### The uplink table -/

/-- R97: an uplink record is written; a carrier that goes from up to down releases the segment. -/
def writeUplink (k : SegId) (c : Chan) (u : UplinkRec) (s : State) : State :=
  let t : State := { s with talk.uplink := vupd s.talk.uplink k fun p => p.set c u }
  if ((s.upl k).get c).carrier && !u.carrier then
    t.modChan c fun r => { r with barred := r.barred &&& ~~~(setOf fun j => j = k) }
  else t

/-- R79: both records of a segment cleared. -/
def clearUplink (k : SegId) (s : State) : State := writeUplink k .t2 .cleared (writeUplink k .t1 .cleared s)

def setSeq (k : SegId) (q : Option Byte) (s : State) : State := { s with talk.seq := vupd s.talk.seq k fun _ => q }

/-! ### Time-out -/

/-- R94: the limit in force at a level, in s. -/
def limitInForce (t : TalkTable) : Option Nat :=
  match t.level with
  | .normal => some t.totS
  | .incident => if t.itotS = 0 then none else some t.itotS

/-- R94: the TOT of a channel has expired. -/
def totDue (s : State) (c : Chan) : Bool :=
  match (s.chan c).totStart, limitInForce s.talk with
  | some st, some l => decide (l * 1000 ≤ elapsed s.sys.uptime st)
  | _, _ => false

/-- R95, R96: the TOT of a channel expires. -/
def expireTot (c : Chan) (s : State) : State :=
  match (s.chan c).floor with
  | .inbound => reactFloor c (s.modChan c fun t => { t with barred := t.barred ||| eligibleSet s c })
  | .outbound => leaveOutbound c (setKey c .stuck s)
  | _ => s

/-- R94: after a change of the limit in force from `old`, an expiry that has passed occurs at once. -/
def retime (old : Option Nat) (s : State) : State :=
  if limitInForce s.talk = old then s
  else
    let t := if totDue s .t1 then expireTot .t1 s else s
    if totDue t .t2 then expireTot .t2 t else t

/-! ### What the other blocks and port E are told -/

def barredCount (t : TalkRec) : Nat := (setMembers t.barred).length

/-- R102, R180. -/
def raiseTalkState (c : Chan) (s : State) : State :=
  let t := s.chan c
  s.raise toE .talkState (BitVec.ofNat 8 (chanCode c))
    (BitVec.ofNat 16 (floorCode t.floor + 4 * sideCode t.pending + 16 * sideCode t.hangSide + 64 * keyCode t.key))
    (hiLo (match t.voted with | some k => segByte k | none => 0) (BitVec.ofNat 8 (barredCount t)))

/-- R102: the fields whose change raises TALK_STATE. -/
def talkVisible (t : TalkRec) : FloorState × Option TalkSide × KeyState × SegSet := (t.floor, t.pending, t.key, t.barred)

def raiseTalkIfChanged (before : State) (c : Chan) (s : State) : State :=
  if talkVisible (before.chan c) = talkVisible (s.chan c) then s else raiseTalkState c s

/-- R100: a channel is not IDLE. -/
def talkActive (s : State) : Bool :=
  decide ((s.chan .t1).floor ≠ .idle) || decide ((s.chan .t2).floor ≠ .idle)

/-- R47, R100: the allocator is told where rescue activity has started or ended. Of one event only its end counts: where one
channel returns to IDLE and the other leaves IDLE in it, nothing is told (DESIGN CHOICE, log 39). -/
def tellActivity (s : State) : State :=
  if talkActive s = s.alloc.activity then s else setActivity (talkActive s) s

/-- R102, R100: what an event of the talk controller ends with: TALK_STATE for T1 and T2, then rescue activity. -/
def talkFinish (before s : State) : State :=
  tellActivity (raiseTalkIfChanged before .t2 (raiseTalkIfChanged before .t1 s))

/-! ### Commands (R90 to R92, R98, R99) -/

/-- R91: every segment of the coverage set whose carrier is up joins the barred set. -/
def barCarriers (c : Chan) (s : State) : State :=
  s.modChan c fun t => { t with barred := t.barred ||| setOf fun k => inSet t.coverage k && ((s.upl k).get c).carrier }

/-- R90: a KEY without priority. -/
def keyFloor (c : Chan) (s : State) : State :=
  let t := s.chan c
  match t.floor, t.hangSide with
  | .idle, _ => enterOutbound c none (setKey c .keyed s)
  | .inbound, _ => setPending c (some .outbound) (setKey c .keyed s)
  | .outbound, _ => s
  | .hang, some .outbound => enterOutbound c t.pending (setKey c .keyed s)
  | .hang, _ => setPending c (some .outbound) (setKey c .keyed s)

/-- R91: a KEY with priority. -/
def keyPriority (c : Chan) (s : State) : State :=
  let t := s.chan c
  let u := if t.floor = .inbound ∨ t.pending = some .inbound then barCarriers c s else s
  match t.floor with
  | .outbound => setPending c none (setKey c .keyed u)
  | _ => enterOutbound c none (setKey c .keyed u)

/-- R92: UNKEY; also what the lapse of port E does (R101). -/
def unkeyFloor (c : Chan) (s : State) : State :=
  let t := s.chan c
  match t.key, t.floor with
  | .keyed, .outbound => leaveOutbound c (setKey c .unkeyed s)
  | .keyed, _ => setPending c none (setKey c .unkeyed s)
  | .stuck, _ => setKey c .unkeyed s
  | .unkeyed, _ => s

/-- R93: the hang expiry of a channel is reached. -/
def hangDue (s : State) (c : Chan) : Bool :=
  decide ((s.chan c).floor = .hang) && reachedOpt s.sys.uptime (s.chan c).hangExpiry

/-- R93: the hang expiry of a channel in HANG. -/
def expireHang (c : Chan) (s : State) : State :=
  match (s.chan c).floor, (s.chan c).pending with
  | .hang, some .outbound => enterOutbound c none s
  | .hang, some .inbound => enterInbound c none s
  | .hang, none => enterIdle c s
  | _, _ => s

/-- R90, R92: floor state, pending side and key state (R177). -/
def talkAnswer (c : Chan) (s : State) : List Byte :=
  b1 (floorCode (s.chan c).floor) ++ b1 (sideCode (s.chan c).pending) ++ b1 (keyCode (s.chan c).key)

/-- R101: the lapse of port E. -/
def talkLapse (s : State) : State := talkFinish s (unkeyFloor .t2 (unkeyFloor .t1 s))

/-- R94, R151: the talk controller takes the new incident level. -/
def talkLevel (l : Level) (s : State) : State :=
  talkFinish s (retime (limitInForce s.talk) { s with talk.level := l })

end Sys2Proof.Machine
end

