-- ==== Sys2Proof/Machine/Directives.lean ====
section
/-! DEFINITION. The directive engine: issue (R26 to R28), attempts and replies (R29 to R33), failure and the unresponsive
mark (R34, R35). What is left open here: log 15, 16, 17, 18, 38, 47. -/

namespace Sys2Proof.Machine

/-! ### Sides and frames (R28) -/

/-- 00_scope.md section 6: the hop count of unit k from a side. -/
def hops (n : Nat) (k : SegId) : Side → Nat
  | .left => k.val + 1
  | .right => n - k.val

def reachIncludes : Reach → Side → Bool
  | .both, _ => true
  | .left, .left => true
  | .right, .right => true
  | _, _ => false

/-- R28: the preferred side; LEFT on a tie. -/
def preferredSide (n : Nat) (k : SegId) (r : Reach) : Side :=
  match r with
  | .right => .right
  | .both => if n - k.val < k.val + 1 then .right else .left
  | _ => .left

/-- R29: the side of an attempt, after an attempt on `last`. -/
def attemptSide (n : Nat) (k : SegId) (r : Reach) (attempt : Nat) (last : Side) : Side :=
  if attempt = 3 then last.other
  else if attempt = 2 ∧ reachIncludes r last then last
  else preferredSide n k r

def halves (v : Six Nat) : Six Half := v.map (BitVec.ofNat 16)

/-- R24, R181: what the MAIN frame carries. -/
def Content.body : Content → DirectiveBody
  | .levels v => .levels (halves v)
  | .zeroReset => .levels (halves zeroLevels)
  | .probe => .levels (halves zeroLevels)
  | .mode t => .mode t

/-- R6, R28: a directive frame leaves a loop port for unit k. -/
def sendDirective (k : SegId) (side : Side) (body : DirectiveBody) (s : State) : State :=
  s.transmit (.head side)
    (encodeDirective ⟨BitVec.ofNat 8 (hops s.loop.n k side), ((s.seg k).serial).getD 0, body⟩)

def modFlight (k : SegId) (f : Directive → Directive) (s : State) : State :=
  s.modUnit k fun u => { u with inflight := u.inflight.map f }

/-- R29: a frame that expects a reply opens a window of 10 ms and moves the quiet time to its close. -/
def openWindow (k : SegId) (step : DStep) (s : State) : State :=
  let close := after s.sys.uptime Config.replyWindowMs
  (modFlight k (fun d => { d with step := step, window := some close, waitUntil := none, paused := none }) s).modUnit k
    fun u => { u with quiet := some close }

/-- R33: the MAIN step. -/
def sendMain (k : SegId) (d : Directive) (s : State) : State :=
  openWindow k .main (sendDirective k d.side d.content.body s)

/-- R33: the ROUSE 2 step. -/
def sendRouse2 (k : SegId) (d : Directive) (s : State) : State :=
  openWindow k .rouse2 (sendDirective k d.side .rouse s)

/-- R33: the ROUSE 1 step, which opens no window and passes to ROUSE WAIT. -/
def sendRouse1 (k : SegId) (d : Directive) (s : State) : State :=
  modFlight k
    (fun d => { d with step := .rouseWait, window := none,
                       waitUntil := some (after s.sys.uptime Config.rouseWaitMs), awake := false })
    (sendDirective k d.side .rouse s)

/-- R29, R33: an attempt is sent. -/
def startAttempt (k : SegId) (d : Directive) (attempt : Nat) (side : Side) (s : State) : State :=
  let d := { d with attempt := attempt, side := side, paused := none, window := none, waitUntil := none, awake := false }
  let t := s.modUnit k fun u => { u with inflight := some d }
  if d.rouse then sendRouse1 k d t else sendMain k d t

/-- R29: the directive pauses, with this attempt due. -/
def pauseDirective (k : SegId) (d : Directive) (attempt : Nat) (s : State) : State :=
  s.modUnit k fun u => { u with inflight := some { d with paused := some attempt, window := none, waitUntil := none } }

/-- R29: the attempt that is due is sent, or waits while the segment is not PRESENT. -/
def dueAttempt (k : SegId) (d : Directive) (attempt : Nat) (side : Side) (s : State) : State :=
  if (s.seg k).link = .present then startAttempt k d attempt side s else pauseDirective k d attempt s

/-- R28, R33: the next step of the attempt under way is sent; a unit that is not PRESENT is sent nothing, and the directive pauses
with that attempt, which restarts at ROUSE 1 (DEDUCED, log 38). -/
def dueStep (k : SegId) (d : Directive) (send : State → State) (s : State) : State :=
  if (s.seg k).link = .present then send s else pauseDirective k d (d.paused.getD d.attempt) s

/-- The side of the attempt before the one that is due after a pause: an attempt 3 that had begun follows one on the other side. -/
def Directive.lastSide (d : Directive) : Side := if d.attempt = 3 then d.side.other else d.side

/-- R26: a directive leaves its slot with attempt 1. -/
def launch (k : SegId) (content : Content) (rouse : Bool) (s : State) : State :=
  let side := preferredSide s.loop.n k (s.seg k).reach
  startAttempt k
    { content := content, rouse := rouse, step := .main, attempt := 1, side := side, paused := none, window := none,
      waitUntil := none, awake := false, reason := .noReply } 1 side s

/-! ### End of a directive -/

/-- The directive ends, and its slots stay. -/
def endDirective (k : SegId) (s : State) : State := s.modUnit k fun u => { u with inflight := none }

def reasonCode : FailReason → Nat
  | .noReply => 0 | .rating => 1 | .supplyLow => 2 | .asleep => 3

/-- R34, R180: DIRECTIVE_FAILED. -/
def raiseFailed (k : SegId) (d : Directive) (r : FailReason) (s : State) : State :=
  s.raise toO .directiveFailed (segByte k)
    (hiLo (BitVec.ofNat 8 (contentCode d.content)) (BitVec.ofNat 8 ((if d.rouse then 128 else 0) + reasonCode r)))
    ((((s.seg k).serial).getD 0).extractLsb' 0 16)

/-- R34: a directive that is no PROBE fails; a PROBE ends without event (R35). -/
def failDirective (k : SegId) (d : Directive) (r : FailReason) (s : State) : State :=
  if d.content = .probe then endDirective k s
  else
    let t := (raiseFailed k d r s).modUnit k UnitRec.drop
    if r = .noReply then recomputeLimit k (t.modUnit k fun u => { u with marked := true }) else t

/-- R35: the mark is cleared and E recomputed. -/
def clearMark (k : SegId) (s : State) : State := recomputeLimit k (s.modUnit k fun u => { u with marked := false })

/-- R29: an attempt has ended for this reason, and the directive goes on to its next one, pauses or fails. -/
def nextAttempt (k : SegId) (d : Directive) (r : FailReason) (s : State) : State :=
  let d := { d with reason := r, window := none, waitUntil := none }
  let reach := (s.seg k).reach
  if d.content = .probe then endDirective k s
  else if d.attempt = 1 then dueAttempt k d 2 (attemptSide s.loop.n k reach 2 d.side) s
  else if d.attempt = 2 ∧ ((s.seg k).link ≠ .present ∨ reach = .both) then dueAttempt k d 3 d.side.other s
  else failDirective k d r s

/-- R29: a paused directive goes on when its segment is PRESENT again. -/
def resumeDirective (k : SegId) (s : State) : State :=
  match (s.unit k).inflight with
  | some d =>
    match d.paused with
    | some n =>
      if n = 3 ∧ (s.seg k).reach ≠ .both then failDirective k d d.reason s
      else startAttempt k d n (attemptSide s.loop.n k (s.seg k).reach n d.lastSide) s
    | none => s
  | none => s

/-! ### Issue (R26, R27) -/

/-- R27: the level carried for one entry. -/
def rampLevel (step p g : Nat) : Nat := if g ≤ p then g else min g (p + step)

/-- R27: the vector composed from applied levels and grants. -/
def composeLevels (step : Nat) (applied grants : Six Nat) : Six Nat :=
  Six.build fun e => rampLevel step (applied.get e) (grants.get e)

/-- R26: what goes next from the slots. -/
inductive Choice where
  | nothing
  | zeroReset
  | levels (applied : Six Nat)
  | mode (t : TargetMode)
  deriving DecidableEq, Repr

/-- R26: a MODE is held back while the unit is observed DORMANT and its supply is LOW. -/
def modeHeldBack (r : SegRec) : Bool :=
  match r.observed with
  | some o => o.mode = .dormant && o.supply = .low
  | none => false

/-- R26: the LEVELS slot alone; a vector can be composed only from known applied levels. -/
def levelsChoice (u : UnitRec) : Choice :=
  match u.levelsSlot, u.applied with
  | .levels, some v => .levels v
  | _, _ => .nothing

/-- R26: the issue order. -/
def issueChoice (r : SegRec) (u : UnitRec) : Choice :=
  match u.levelsSlot, u.modeSlot with
  | .zeroReset, _ => .zeroReset
  | _, none => levelsChoice u
  | _, some t =>
    if modeHeldBack r then levelsChoice u
    else if isDown t && u.applied ≠ some zeroLevels then levelsChoice u
    else .mode t

def quietPassed (now : Word) (u : UnitRec) : Bool :=
  match u.quiet with
  | some t => reached now t
  | none => true

/-- R26: the conditions of an issue. -/
def canIssue (s : State) (k : SegId) : Bool :=
  decide (s.sys.part = .run) && decide ((s.seg k).link = .present) && (s.unit k).inflight.isNone &&
  quietPassed s.sys.uptime (s.unit k)

/-- R26: something is issued at this moment. -/
def issueDue (s : State) (k : SegId) : Bool := canIssue s k && decide (issueChoice (s.seg k) (s.unit k) ≠ .nothing)

def observedDormant (r : SegRec) : Bool :=
  match r.observed with
  | some o => o.mode = .dormant
  | none => false

/-- R26: the choice is issued. -/
def issue (k : SegId) (s : State) : State :=
  match issueChoice (s.seg k) (s.unit k) with
  | .nothing => s
  | .zeroReset =>
    let t := s.modUnit k fun u => { u with levelsSlot := .empty }
    if observedDormant (s.seg k) then t.setApplied k (some zeroLevels) else launch k .zeroReset false t
  | .levels p =>
    let v := composeLevels s.engine.rampStep p (s.aseg k).grants
    let t := s.modUnit k fun u => { u with levelsSlot := .empty }
    if v = p then t else launch k (.levels v) false t
  | .mode m =>
    launch k (.mode m) (observedDormant (s.seg k)) (s.modUnit k fun u => { u with modeSlot := none })

/-- R35: the PROBE of an evaluation. -/
def issueProbe (k : SegId) (s : State) : State :=
  if (s.unit k).marked && (s.seg k).link = .present && (s.unit k).inflight.isNone && quietPassed s.sys.uptime (s.unit k) then
    if observedDormant (s.seg k) then clearMark k (s.setApplied k (some zeroLevels)) else launch k .probe false s
  else s

/-! ### Replies (R29 to R33) -/

/-- R30: the applied levels after an ACK to the MAIN frame; absent: unchanged. An ACK to a LEVELS that reports DORMANT, for which R30
has no row, makes them 0 (DESIGN CHOICE, log 18). -/
def ackLevels (c : Content) (m : UnitMode) : Option (Six Nat) :=
  match c, m with
  | .levels v, .active => some v
  | .levels v, .standby => some v
  | .mode _, .active => none
  | _, _ => some zeroLevels

/-- R30: an ACK to the MAIN frame. -/
def takeAck (k : SegId) (d : Directive) (m : UnitMode) (s : State) : State :=
  let t := endDirective k s
  let t := match ackLevels d.content m with
    | some v => t.setApplied k (some v)
    | none => t
  let t := match d.content, m with
    | .probe, _ => clearMark k t
    | .levels _, .active =>
      if (t.unit k).behind (t.aseg k).grants then t.modUnit k UnitRec.requestLevels else t
    | _, _ => t
  t.modUnit k UnitRec.requestDrain

/-- R31. -/
def takeWrongUnit (k : SegId) (s : State) : State :=
  (s.modUnit k UnitRec.drop).modSeg k fun r => { r with acquired := false }

def supplyLowRecorded (r : SegRec) : Bool :=
  match r.observed with
  | some o => o.supply = .low
  | none => false

/-- R32: converted, a directive runs as a rouse sequence from attempt 1, with the same vector or target. -/
def Directive.convert (d : Directive) : Directive := { d with rouse := true, attempt := 1, step := .rouse1 }

/-- R32: a NAK ASLEEP, to a MAIN frame of this directive. -/
def takeAsleep (k : SegId) (d : Directive) (s : State) : State :=
  let t := s.setApplied k (some zeroLevels)
  match d.content with
  | .zeroReset => endDirective k t
  | .probe => clearMark k (endDirective k t)
  | c =>
    if c = .mode .dormant then endDirective k t
    else if (t.seg k).commanded = .dormant then endDirective k t
    else if supplyLowRecorded (t.seg k) then endDirective k t
    else if d.rouse then nextAttempt k d .asleep t
    else dueAttempt k d.convert 1 (preferredSide t.loop.n k (t.seg k).reach) t

/-- R34: a NAK RATING. A PROBE does not fail, and R35 lists no end by this reply (log 18). -/
def takeRating (k : SegId) (d : Directive) (s : State) : State :=
  if d.content = .probe then s else failDirective k d .rating s

/-- R29, R33: a reply taken for the directive in flight to segment k. In the window of ROUSE 2 a late reply to a MAIN frame of an
earlier attempt is taken as any other (R29, R32, R34); SUPPLY_LOW fails a directive that has sent a ROUSE (R34). What no rule lists for a
step changes nothing (log 18). The step ROUSE 1 is met here only in a directive that was converted while its segment was not PRESENT,
before its first ROUSE: a WRONG_UNIT is taken there, and every other reply changes nothing (DESIGN CHOICE, log 47). -/
def takeReply (k : SegId) (d : Directive) (o : ReplyOutcome) (s : State) : State :=
  match d.step, o with
  | .main, .ack m => takeAck k d m s
  | .main, .asleep => takeAsleep k d s
  | .rouse2, .asleep => takeAsleep k d s
  | .main, .rating => takeRating k d s
  | .rouse2, .rating => takeRating k d s
  | _, .wrongUnit => takeWrongUnit k s
  | .rouse1, _ => s
  | .main, .supplyLow => if d.rouse then failDirective k d .supplyLow s else s
  | _, .supplyLow => failDirective k d .supplyLow s
  | .rouseWait, .ack _ => modFlight k (fun d => { d with awake := true }) s
  | .rouse2, .ack _ => dueStep k d (sendMain k d) s
  | _, _ => s

/-- R29: a reply is taken while the window of the current frame is open, in a ROUSE WAIT, or in a pause. -/
def takesReply (d : Directive) : Bool := d.window.isSome || d.step = .rouseWait || d.paused.isSome

/-- R18: the PRESENT segment 1 to N whose record holds this serial (log 33). -/
def noticeSegment (s : State) (serial : Word) : Option SegId :=
  (List.finRange 24).find? fun k =>
    decide (k.val < s.loop.n) && decide ((s.seg k).link = .present) && decide ((s.seg k).serial = some serial)

/-- R29: the segment record with this serial whose directive in flight takes a reply (log 33). -/
def replySegment (s : State) (serial : Word) : Option SegId :=
  (List.finRange 24).find? fun k =>
    decide ((s.seg k).serial = some serial) &&
    match (s.unit k).inflight with
    | some d => takesReply d
    | none => false

/-- R29: a reply frame arrives. -/
def directiveReply (frame : List Byte) (s : State) : State :=
  match decodeReply frame with
  | none => s
  | some f =>
    match replySegment s f.serial with
    | none => s
    | some k =>
      match (s.unit k).inflight with
      | some d => takeReply k d f.outcome s
      | none => s

/-- R29: the reply window of a directive in flight has closed. -/
def windowClosed (now : Word) (u : UnitRec) : Bool :=
  match u.inflight with
  | some d => reachedOpt now d.window
  | none => false

/-- R29: a reply window closes; the quiet time has then passed. -/
def replyTimeout (k : SegId) (s : State) : State :=
  match (s.unit k).inflight with
  | some d =>
    if windowClosed s.sys.uptime (s.unit k) then nextAttempt k d .noReply (s.modUnit k fun u => { u with quiet := none })
    else s
  | none => s

/-- R33: a rouse wait has ended. -/
def waitEnded (now : Word) (u : UnitRec) : Bool :=
  match u.inflight with
  | some d => decide (d.step = .rouseWait) && reachedOpt now d.waitUntil
  | none => false

/-- R33: a rouse wait ends, and the attempt's next step is due. -/
def rouseWaitExpiry (k : SegId) (s : State) : State :=
  match (s.unit k).inflight with
  | some d => if waitEnded s.sys.uptime (s.unit k) then dueStep k d (if d.awake then sendMain k d else sendRouse2 k d) s else s
  | none => s

end Sys2Proof.Machine
end

