-- ==== Sys2Proof/Machine/Loop.lean ====
section
/-! DEFINITION. The loop controller's operations: reconciliation (R20), live claims and commanded modes (R19),
acquisition (R16), the change of the segment count (R14) and the start of a survey round (R9). -/

namespace Sys2Proof.Machine

/-! ### Reconciliation -/

/-- R20: the unit is held forced-dormant. -/
def heldDormant (o : Observed) : Bool := o.mode = .dormant && o.forced && o.supply = .low

/-- R20: the MODE that a segment's record asks for; none before a unit that has answered WRONG_UNIT is acquired again (R31,
log 37). -/
def reconcileTarget (r : SegRec) : Option TargetMode :=
  match r.link, r.observed with
  | .present, some o =>
    if !r.acquired || o.mode = unitModeOf r.commanded || o.mode = .overheat || heldDormant o then none else some r.commanded
  | _, _ => none

/-- R20, R25, R35. -/
def reconcile (k : SegId) (s : State) : State :=
  if s.sys.part = .run then
    match reconcileTarget (s.seg k) with
    | some t => s.modUnit k fun u => u.requestMode t
    | none => s
  else s

/-! ### Commanded modes -/

/-- R19: a playout channel's zone set takes part while it is PLAYING or HELD. -/
def playClaim (r : PlayRec) : SegSet :=
  match r.program with
  | some p => if r.state = .playing ∨ r.state = .held then p.zone else 0
  | none => 0

/-- R19: a talk channel's coverage set takes part while the channel is not IDLE. -/
def talkClaim (t : TalkRec) : SegSet := if t.floor = .idle then 0 else t.coverage

/-- R19: the segments with a live claim. -/
def liveClaims (s : State) : SegSet :=
  (match s.brk.liveE with | some l => l.zone | none => 0) ||| (match s.brk.liveO with | some z => z | none => 0) |||
  playClaim s.play.chans.c1 ||| playClaim s.play.chans.c2 ||| playClaim s.play.chans.c3 ||| playClaim s.play.chans.c4 |||
  talkClaim (s.chan .t1) ||| talkClaim (s.chan .t2)

/-- R19, R20, R21: a segment takes a new commanded mode; its E is recomputed, and each segment is reconciled. -/
def commandMode (k : SegId) (m : TargetMode) (s : State) : State :=
  forSegs reconcile (recomputeLimit k (s.modSeg k fun r => { r with commanded := m }))

/-- R19, R151: at onset every commanded mode becomes ACTIVE, E is recomputed and the segments reconciled. -/
def loopOnset (s : State) : State :=
  let t := s.modSegs fun r => { r with commanded := .active }
  forSegs reconcile (forSegs recomputeLimit { t with loop.level := .incident })

/-- R151: at the return to NORMAL the commanded modes stay. -/
def loopReturn (s : State) : State := { s with loop.level := .normal }

/-! ### Acquisition -/

/-- R16: the effects on the records of the loop controller, the directive engine, the talk controller and the level
monitor. -/
def acquireRecords (k : SegId) (s : State) : State :=
  let t := s.modSeg k fun r => { r with acquired := true }
  let t := (t.setApplied k none).modUnit k fun u => { u with marked := false }.requestZeroReset
  let t := setSeq k none (clearUplink k t)
  t.modMeters k fun v => v.map MeterEntry.forget

/-! ### The segment count -/

/-- R14: a segment record returns to UNSEEN; limit and commanded mode stay. -/
def SegRec.forget (r : SegRec) : SegRec :=
  { r with link := .unseen, miss := 0, serial := none, acquired := false, observed := none, reach := .none }

/-- R14, R21, R36, R63, R81, R97: an accepted count. All 24 records keep limit and commanded mode, those above the new N too
(DESIGN CHOICE, log 35). No LOOP_FOLD is raised where the fold state returns to WHOLE (DESIGN CHOICE, log 40). -/
def newCount (n : Nat) (s : State) : State :=
  let t : State :=
    { s with loop.n := n, loop.surveys := .all .none, loop.fold := .whole, loop.mismatch := false,
             loop.segs := vall s.loop.segs fun r => { r.forget with eff := 0 } }
  let t := (List.finRange 24).foldl (fun t k => t.setApplied k none) t
  let t := (List.finRange 24).foldl (fun t k => t.modMeters k fun v => v.map MeterEntry.forget) t
  { t with talk.uplink := .replicate 24 (.all .cleared), talk.seq := .replicate 24 none,
           talk.chans := t.talk.chans.map fun c => { c with barred := 0 } }

/-! ### The survey round -/

/-- The highest position with a supplied unit: the loop's length. -/
def plantSize (p : PlantRec) : Nat :=
  (List.finRange 24).foldl (fun m k => if (p.units[k]).isSome then k.val + 1 else m) 0

/-- R9: a loop port's own link is up. -/
def portLinkUp (p : PlantRec) : Side → Bool
  | .left => p.links[(0 : Fin 25)]
  | .right => p.links.toList.getD (plantSize p) true

/-- R9, R10: the survey of one port at a round start. -/
def startSurvey (side : Side) (s : State) : State :=
  if portLinkUp s.plant side then
    ({ s with loop.surveys := s.loop.surveys.setSide side (.inFlight s.sys.uptime) }).transmit (.head side)
      (encodeSurvey ⟨side, decide (s.sys.part = PartState.setup), s.loop.round, []⟩)
  else { s with loop.surveys := s.loop.surveys.setSide side (.ended .notSent) }

/-- R9: the survey period timer has expired. -/
def roundDue (s : State) : Bool := decide (s.loop.timerPeriod ≤ elapsed s.sys.uptime s.loop.timerStart)

/-- R9: the round number, the timer and both surveys. -/
def startRound (s : State) : State :=
  let t : State :=
    { s with loop.round := s.loop.round + 1, loop.timerStart := s.sys.uptime, loop.timerPeriod := s.loop.period }
  startSurvey .right (startSurvey .left t)

end Sys2Proof.Machine
end

