-- ==== Sys2Proof/Machine/Store.lean ====
section
/-! DEFINITION. The message store: allocation (R105, R108), the load commands (R107 to R110), use counts (R111), the
CHECK verdict (R112), and READ DIRECTORY and READ CHUNK (R114, R115). -/

namespace Sys2Proof.Machine

/-! ### Blocks -/

/-- The fields of a message that is not EMPTY. -/
def MsgContent.body? : MsgContent → Option MsgBody
  | .empty => none
  | .loading m _ => some m
  | .closed m _ _ => some m

/-- R113: the fields of a message that the store serves to the playout engine, READY or DAMAGED. -/
def MsgContent.served? : MsgContent → Option MsgBody
  | .closed m _ _ => some m
  | _ => none

/-- R105: the runs of the messages that are not EMPTY: first block and block count. -/
def heldRuns (dir : Vector MsgRec 64) : List (Nat × Nat) :=
  dir.toList.filterMap fun r => r.content.body?.map fun m => (m.first, m.blocks)

/-- Blocks s to s + c − 1 are free. -/
def runFree (runs : List (Nat × Nat)) (s c : Nat) : Bool :=
  runs.all fun (first, count) => decide (s + c ≤ first) || decide (first + count ≤ s)

/-- R108: the lowest block number from which a run of `c` free blocks goes on. -/
def firstFit (runs : List (Nat × Nat)) (c : Nat) : Option Nat :=
  (List.range (Config.blockCount + 1 - c)).find? fun s => runFree runs s c

/-- R105: the free blocks. -/
def freeBlocks (runs : List (Nat × Nat)) : Nat := Config.blockCount - (runs.map (·.2)).sum

/-- One block more of the scan: the longest run so far, and the run that ends here. -/
def freeScan (runs : List (Nat × Nat)) (acc : Nat × Nat) (b : Nat) : Nat × Nat :=
  if runFree runs b 1 then (max acc.1 (acc.2 + 1), acc.2 + 1) else (acc.1, 0)

/-- R114: the length of the longest run of free blocks. -/
def longestFree (runs : List (Nat × Nat)) : Nat := ((List.range Config.blockCount).foldl (freeScan runs) (0, 0)).1

/-- R106: ceil(byte length / 4096). -/
def blocksFor (length : Nat) : Nat := (length + (Config.blockBytes - 1)) / Config.blockBytes

/-- R112, R125: the record is READY. -/
def MsgContent.ready : MsgContent → Bool
  | .closed _ _ false => true
  | _ => false

/-- The record is READY or DAMAGED. -/
def MsgContent.isClosed : MsgContent → Bool
  | .closed _ _ _ => true
  | _ => false

/-- The byte length; 0 in EMPTY. -/
def MsgContent.length (c : MsgContent) : Nat :=
  match c.body? with
  | some m => m.length
  | none => 0

/-- R116: the causes, coded as R180 codes them. -/
inductive MsgCause where
  | open_ | close | delete | check
  deriving DecidableEq, Repr

def causeOf : MsgCause → Byte
  | .open_ => 1 | .close => 2 | .delete => 3 | .check => 4

/-- R116: computed checksum after the change, or 0 for EMPTY. -/
def MsgContent.sum (c : MsgContent) : Half :=
  match c.body? with
  | some m => m.computed
  | none => 0

/-- R116: a record takes a new state, and MESSAGE_STATE goes to port O. -/
def changeMessage (i : MsgId) (c : MsgContent) (cause : MsgCause) (s : State) : State :=
  (s.modMsg i fun r => { r with content := c }).raise toO .messageState (idByte i)
    (hiLo (BitVec.ofNat 8 (msgStateCode c)) (causeOf cause)) c.sum

/-! ### Load commands -/

/-- R107. -/
def openMessage (id : Byte) (length : Word) (tag : Byte) (s : State) : State × Reply :=
  match msgIdOf id with
  | none => refuse .badArgument s
  | some i =>
    if 1 ≤ length.toNat ∧ length.toNat ≤ Config.maxMessageBytes ∧ tag.toNat ≤ 15 then
      if (s.msg i).content ≠ .empty then refuse .exists_ s
      else
        match firstFit (heldRuns s.store.dir) (blocksFor length.toNat) with
        | none => refuse .noSpace s
        | some first =>
          let m : MsgBody :=
            { first := first, blocks := blocksFor length.toNat, length := length.toNat, tag := tag.extractLsb' 0 4,
              computed := 0 }
          let t := changeMessage i (.loading m 0) .open_ s
          (t, ⟨.ok, [id] ++ b2 first ++ b2 m.blocks ++ b2 (freeBlocks (heldRuns t.store.dir))⟩)
    else refuse .badArgument s

/-- R109. -/
def writeChunk (id : Byte) (offset : Word) (chunk : List Byte) (s : State) : State × Reply :=
  match msgIdOf id with
  | none => refuse .badArgument s
  | some i =>
    if !chunkLengthOk chunk then refuse .badArgument s
    else
      match (s.msg i).content with
      | .empty => refuse .notFound s
      | .closed _ _ _ => refuse .badSequence s
      | .loading m next =>
        if offset.toNat ≠ next then (s, ⟨.badSequence, b4 next⟩)
        else if m.length < next + chunk.length then refuse .badArgument s
        else if chunk.length = 256 ∨ next + chunk.length = m.length then
          let t := s.modMsg i fun r =>
            { r with content := .loading { m with computed := m.computed + checksum chunk } (next + chunk.length) }
          ({ t with store.mem := memStore t.store.mem m.first next chunk }, ⟨.ok, [id] ++ b4 (next + chunk.length)⟩)
        else refuse .badArgument s

/-- R110; the answer carries the computed checksum before the declared one (log 11). -/
def closeMessage (id : Byte) (declared : Half) (s : State) : State × Reply :=
  match msgIdOf id with
  | none => refuse .badArgument s
  | some i =>
    match (s.msg i).content with
    | .empty => refuse .notFound s
    | .closed _ _ _ => refuse .badSequence s
    | .loading m next =>
      if next < m.length then (s, ⟨.incomplete, b4 next⟩)
      else
        let c : MsgContent := .closed m declared (decide (m.computed ≠ declared))
        (changeMessage i c .close s, ⟨.ok, b1 (msgStateCode c) ++ be2 m.computed ++ be2 declared⟩)

/-- R110. The bytes of the freed blocks stay in the memory, where no read serves them (R105), until WRITE CHUNK fills the blocks for
another message (DESIGN CHOICE, log 10). -/
def deleteMessage (id : Byte) (s : State) : State × Reply :=
  match msgIdOf id with
  | none => refuse .badArgument s
  | some i =>
    if (s.msg i).content = .empty then refuse .notFound s
    else if (s.msg i).uses ≠ 0 then refuse .inUse s
    else accept (changeMessage i .empty .delete s)

/-! ### Use counts and verdicts -/

def programNames (p : Option Program) (i : MsgId) : Bool :=
  match p with
  | some q => q.playlist.contains i
  | none => false

/-- R111: a channel's program changes from `old` to `new`. -/
def adjustUses (old new : Option Program) (s : State) : State :=
  { s with store.dir := Vector.ofFn fun i : MsgId =>
      let r := s.store.dir[i]
      match programNames old i, programNames new i with
      | true, false => { r with uses := r.uses - 1 }
      | false, true => { r with uses := r.uses + 1 }
      | _, _ => r }

/-- R112: the verdict on a message whose bytes summed to `sum`: MATCH? -/
def verdict (i : MsgId) (sum : Half) (s : State) : Bool :=
  match (s.msg i).content with
  | .closed _ declared _ => sum = declared
  | _ => false

/-- R112: what a verdict request changes. -/
def takeVerdict (i : MsgId) (sum : Half) (s : State) : State :=
  match (s.msg i).content with
  | .closed m declared damaged =>
    if sum = declared then s
    else if damaged then s.modMsg i fun r => { r with content := .closed { m with computed := sum } declared true }
    else changeMessage i (.closed { m with computed := sum } declared true) .check s
  | _ => s

/-! ### Reads -/

/-- R114, R106: the fields of one record. -/
def directoryFields (i : MsgId) (r : MsgRec) : List Byte :=
  b1 (msgStateCode r.content) ++ b1 r.uses ++ [idByte i] ++
  match r.content with
  | .empty => []
  | .loading m next =>
    b2 m.first ++ b2 m.blocks ++ b4 m.length ++ [m.tag.zeroExtend 8] ++ b4 next ++ be2 m.computed
  | .closed m declared _ =>
    b2 m.first ++ b2 m.blocks ++ b4 m.length ++ [m.tag.zeroExtend 8] ++ be2 m.computed ++ be2 declared

/-- R114. -/
def readDirectory (first count : Byte) (s : State) : State × Reply :=
  if 1 ≤ first.toNat ∧ first.toNat ≤ 64 ∧ 1 ≤ count.toNat ∧ count.toNat ≤ 16 ∧ first.toNat + count.toNat ≤ 65 then
    let named := (List.finRange 64).filter fun i : MsgId =>
      decide (first.toNat ≤ i.val + 1) && decide (i.val + 1 < first.toNat + count.toNat)
    let runs := heldRuns s.store.dir
    answer ((named.flatMap fun i => directoryFields i (s.msg i)) ++ b2 (freeBlocks runs) ++ b2 (longestFree runs)) s
  else refuse .badArgument s

/-- R115: the readable extent. -/
def readableExtent : MsgContent → Nat
  | .empty => 0
  | .loading _ next => next
  | .closed m _ _ => m.length

/-- R115. -/
def readChunk (id : Byte) (offset : Word) (length : Half) (s : State) : State × Reply :=
  match msgIdOf id with
  | none => refuse .badArgument s
  | some i =>
    if 1 ≤ length.toNat ∧ length.toNat ≤ 256 then
      match (s.msg i).content.body? with
      | none => refuse .notFound s
      | some m =>
        if readableExtent (s.msg i).content < offset.toNat + length.toNat then refuse .badArgument s
        else
          answer ([id] ++ be4 offset ++ b1 (msgStateCode (s.msg i).content) ++
            memLoad s.store.mem m.first offset.toNat length.toNat) s
    else refuse .badArgument s

/-! ### The rows -/

def execOpenMessage (p : Port) (id : Byte) (length : Word) (tag : Byte) (s : State) : Host.Outcome State Fault Refusal :=
  .next (portCommand (.openMessage p id length tag) (openMessage id length tag) s)

def execWriteChunk (p : Port) (id : Byte) (offset : Word) (chunk : List Byte) (s : State) :
    Host.Outcome State Fault Refusal :=
  .next (portCommand (.writeChunk p id offset chunk) (writeChunk id offset chunk) s)

def execCloseMessage (p : Port) (id : Byte) (checksum : Half) (s : State) : Host.Outcome State Fault Refusal :=
  .next (portCommand (.closeMessage p id checksum) (closeMessage id checksum) s)

def execDeleteMessage (p : Port) (id : Byte) (s : State) : Host.Outcome State Fault Refusal :=
  .next (portCommand (.deleteMessage p id) (deleteMessage id) s)

def execReadDirectory (p : Port) (first count : Byte) (s : State) : Host.Outcome State Fault Refusal :=
  .next (portCommand (.readDirectory p first count) (readDirectory first count) s)

def execReadChunk (p : Port) (id : Byte) (offset : Word) (length : Half) (s : State) :
    Host.Outcome State Fault Refusal :=
  .next (portCommand (.readChunk p id offset length) (readChunk id offset length) s)

end Sys2Proof.Machine
end

