-- ==== Sys2Proof/Machine/BreakIn.lean ====
section
/-! DEFINITION. The playout engine's operations (R119 to R126) and the break-in selector (R135 to R147), whose
recomputation makes them hold and resume channels; the break-in commands. -/

namespace Sys2Proof.Machine

/-! ### Playout operations -/

/-- R119: the current message of a running channel. -/
def PlayRec.message (r : PlayRec) : Option MsgId :=
  match r.program, r.cur with
  | some p, some c => p.playlist[c.index]?
  | _, _ => none

/-- R132, R180: index and identifier. -/
def PlayRec.place (r : PlayRec) : Half :=
  hiLo (match r.cur with | some c => BitVec.ofNat 8 (c.index + 1) | none => 0)
    (match r.message with | some i => idByte i | none => 0)

/-- R132: where a channel's events go. -/
def toOwner : PlayOwner → Tri Bool
  | .none => ⟨false, false, false⟩
  | .o => toO
  | .e => toE
  | .incident => toO

/-- R124, R180. -/
inductive EndCause where
  | stopped | completed | notReady | lapsed | overridden
  deriving DecidableEq, Repr

def endCode : EndCause → Byte
  | .stopped => 1 | .completed => 2 | .notReady => 3 | .lapsed => 4 | .overridden => 5

/-- R132: PLAYOUT_STATE with this change code and low byte, from the record as it stood. -/
def raisePlayout (c : PChan) (r : PlayRec) (change low : Byte) (s : State) : State :=
  s.raise (toOwner r.owner) .playoutState (BitVec.ofNat 8 (pchanCode c)) (hiLo change low) r.place

/-- R132: STARTED carries the state after the start and the owner. -/
def raiseStarted (c : PChan) (s : State) : State :=
  let r := s.pchan c
  s.raise (toOwner r.owner) .playoutState (BitVec.ofNat 8 (pchanCode c)) (hiLo 1 (BitVec.ofNat 8 (playStateCode r.state)))
    (hiLo (BitVec.ofNat 8 (playOwnerCode r.owner)) 0)

/-- R124, R131: the channel goes IDLE; P1 held by INCIDENT keeps its owner. -/
def goIdle (c : PChan) (s : State) : State :=
  s.modPchan c fun r =>
    { r with state := .idle, cur := none, finish := false,
             owner := if c = .p1 && s.play.p1Held then .incident else .none }

/-- R124: the channel goes IDLE with ENDED to the owner it had. -/
def endChannel (c : PChan) (cause : EndCause) (s : State) : State :=
  raisePlayout c (s.pchan c) 5 (endCode cause) (goIdle c s)

def messageReady (s : State) (m : Option MsgId) : Bool :=
  match m with
  | some i => (s.msg i).content.ready
  | none => false

def startCursor (index : Nat) : Cursor := ⟨index, 0, 0, 0⟩

/-- R120: time for `units` more 125ths of a byte in a message of `len` bytes. Whole bytes move the position, up to the message's
end; what is left, a part of a byte or the time beyond the end, stays in `frac` (log 4). -/
def Cursor.readOn (len units : Nat) (q : Cursor) : Cursor :=
  let n := min ((q.frac + units) / Config.unitsPerByte) (len - q.pos)
  { q with pos := q.pos + n, frac := q.frac + units - Config.unitsPerByte * n }

/-- R113, R120: a channel reads on in its message; a CHECKING one sums the bytes it reads. A record that is not READY or DAMAGED
is not served. -/
def readFor (s : State) (units : Nat) (r : PlayRec) : PlayRec :=
  match r.message, r.cur with
  | some i, some q =>
    match (s.msg i).content.served? with
    | none => r
    | some m =>
      let q' := q.readOn m.length units
      let bytes := memLoad s.store.mem m.first q.pos (q'.pos - q.pos)
      { r with cur := some { q' with sum := if r.state = .checking then q.sum + checksum bytes else q.sum } }
  | _, _ => r

/-- R120: a channel reads for one millisecond. -/
def readMs (s : State) (r : PlayRec) : PlayRec :=
  match r.state with
  | .playing => readFor s Config.playUnitsPerMs r
  | .checking => readFor s Config.checkUnitsPerMs r
  | _ => r

/-- R120: the length of the message a channel reads. -/
def readLength (s : State) (r : PlayRec) : Nat :=
  match r.message with
  | some i => (s.msg i).content.length
  | none => 0

/-- R120: the position has reached the byte length. -/
def messageRead (s : State) (r : PlayRec) : Bool :=
  match r.cur with
  | some q => decide (readLength s r ≤ q.pos)
  | none => false

/-! ### Candidates, ranking and owners -/

def sourceOf : PChan → Source
  | .p1 => .p1 | .p2 => .p2 | .p3 => .p3 | .p4 => .p4

/-- R139: the zone in which a channel is a candidate; none where it is no candidate. -/
def playZone (r : PlayRec) : Option SegSet :=
  match r.program with
  | some p => if p.kind = .play ∧ (r.state = .playing ∨ r.state = .held) then some p.zone else none
  | none => none

/-- R135, R139: the zone in which a source is a candidate. -/
def sourceZone (s : State) : Source → Option SegSet
  | .none => none
  | .liveE => s.brk.liveE.map (·.zone)
  | .liveO => s.brk.liveO
  | .p1 => playZone s.play.chans.c1
  | .p2 => playZone s.play.chans.c2
  | .p3 => playZone s.play.chans.c3
  | .p4 => playZone s.play.chans.c4

/-- R140: the playout channels in the order of the mode. -/
def playRanking (s : State) : List PChan :=
  match s.brk.priority with
  | .fixed => PChan.every
  | .rotating => s.play.rotation

/-- R140: the sources, highest precedence first. -/
def ranking (s : State) : List Source :=
  if (s.pchan .p1).owner = .incident then
    [.liveE, .liveO, .p1] ++ ((playRanking s).filter fun c => c ≠ .p1).map sourceOf
  else [.liveE, .liveO] ++ (playRanking s).map sourceOf

def isCandidate (s : State) (k : SegId) (x : Source) : Bool :=
  decide (k.val < s.loop.n) &&
  match sourceZone s x with
  | some z => inSet z k
  | none => false

/-- R139, R140: the candidates of a segment, in precedence order. -/
def candidates (s : State) (k : SegId) : List Source := (ranking s).filter (isCandidate s k)

/-- R142: a segment's BC grant is above 0. -/
def bcGranted (s : State) (k : SegId) : Bool := decide (0 < (s.aseg k).bc.grant)

/-- R142. -/
def ownerNow (s : State) (k : SegId) : Source :=
  if bcGranted s k then ((candidates s k).head?).getD .none else .none

/-- The segments that a source owns. -/
def ownedBy (owners : Vector Source 24) (x : Source) : SegSet := setOf fun k => owners[k] = x

/-! ### Recomputation (R143, R144, R147) -/

def ownersNow (s : State) : Vector Source 24 := Vector.ofFn (ownerNow s)

/-- R144 step 2, R125: a HELD channel that owns a segment begins its message, or goes IDLE. -/
def resumeChannel (owners : Vector Source 24) (s : State) (c : PChan) : State :=
  let r := s.pchan c
  if r.state = .held ∧ ownedBy owners (sourceOf c) ≠ 0 then
    if messageReady s r.message then
      s.modPchan c fun r => { r with state := .playing, cur := r.cur.map fun q => startCursor q.index }
    else goIdle c s
  else s

/-- R144 step 3: a channel that was running is IDLE. -/
def someEnded (before s : State) : Bool :=
  PChan.every.any fun c => decide ((before.pchan c).state ≠ .idle) && decide ((s.pchan c).state = .idle)

/-- R144 steps 1 to 3, in at most `fuel` rounds. -/
def resumeRounds : Nat → State → State
  | 0, s => s
  | n + 1, s =>
    let t := PChan.every.foldl (resumeChannel (ownersNow s)) s
    if someEnded s t then resumeRounds n t else t

/-- R144 step 4, R126: a PLAYING channel that owns no segment is HELD, or IDLE under its finish flag. -/
def holdChannel (s : State) (c : PChan) : State :=
  let r := s.pchan c
  if (playZone r).isSome ∧ r.state = .playing ∧ ownedBy s.brk.owners (sourceOf c) = 0 then
    if r.finish then goIdle c s
    else s.modPchan c fun r => { r with state := .held, cur := r.cur.map fun q => startCursor q.index }
  else s

/-- R147: BREAKIN_OWNER for a segment whose owner has changed. -/
def raiseOwner (old : Vector Source 24) (s : State) (k : SegId) : State :=
  let was := old[k]
  let now := s.owner k
  if was = now then s
  else
    s.raise (if was = .liveE ∨ now = .liveE then toOE else toO) .breakinOwner (segByte k)
      (BitVec.ofNat 16 (sourceCode was)) (BitVec.ofNat 16 (sourceCode now))

/-- R147, R126: what the recomputation did to a channel that ran before it; a starting channel is silent. -/
def raiseHoldResume (before : State) (starting : Option PChan) (s : State) (c : PChan) : State :=
  let r := before.pchan c
  if starting = some c then s
  else
    match r.state, (s.pchan c).state with
    | .held, .playing => raisePlayout c r 3 0 s
    | .held, .idle => raisePlayout c r 5 (endCode .notReady) s
    | .playing, .held => raisePlayout c r 2 0 s
    | .playing, .idle => raisePlayout c r 5 (endCode .lapsed) s
    | _, _ => s

/-- R144: the owners are recomputed and stored, channels resume and are held, and the events are raised. -/
def recomputeOwners (starting : Option PChan) (s : State) : State :=
  let t := resumeRounds 5 s
  let t : State := { t with brk.owners := ownersNow t }
  let t := PChan.every.foldl holdChannel t
  let t := (List.finRange 24).foldl (raiseOwner s.brk.owners) t
  PChan.every.foldl (raiseHoldResume s starting) t

/-- R143: the inputs of the owners. -/
structure SelectorInputs where
  n : Nat
  live : Option SegSet × Option SegSet
  granted : SegSet
  zones : Four (Option SegSet)
  rank : List Source
  deriving DecidableEq, Repr

def selectorInputs (s : State) : SelectorInputs :=
  { n := s.loop.n, live := (sourceZone s .liveE, sourceZone s .liveO), granted := setOf (bcGranted s),
    zones := s.play.chans.map playZone, rank := ranking s }

/-- R143: one recomputation at the end of an event that began in `before` and changed an input. -/
def settle (before s : State) : State :=
  if selectorInputs before = selectorInputs s then s else recomputeOwners none s

/-! ### Live records (R135 to R138) -/

/-- R136: the feed that a port may carry; port O carries NONE. -/
def feedOf (p : Port) (b : Byte) : Option (Option Feed) :=
  match p, b.toNat with
  | .o, 0 => some none
  | .e, 1 => some (some .dispatch)
  | .e, 2 => some (some .t1)
  | .e, 3 => some (some .t2)
  | _, _ => none

/-- R136: the sending port's record. -/
def writeLive (zone : SegSet) (feed : Option Feed) (s : State) : State :=
  match feed with
  | some f => { s with brk.liveE := some ⟨zone, f⟩ }
  | none => { s with brk.liveO := some zone }

def liveSource : Port → Source
  | .e => .liveE
  | _ => .liveO

/-- R135, R179: ON is 0, OFF is 1. -/
def onCode (on : Bool) : Nat := if on then 0 else 1

/-- R135: the record of LIVE_E: state, zone set, feed. -/
def liveEFields : Option LiveE → List Byte
  | some l => b1 (onCode true) ++ be3 l.zone ++ b1 (feedCode (some l.feed))
  | none => b1 (onCode false) ++ be3 0 ++ b1 (feedCode none)

/-- R135: the record of LIVE_O: state and zone set. -/
def liveOFields : Option SegSet → List Byte
  | some z => b1 (onCode true) ++ be3 z
  | none => b1 (onCode false) ++ be3 0

/-- R136: the record of a port. -/
def liveFields (p : Port) (s : State) : List Byte :=
  match p with
  | .e => liveEFields s.brk.liveE
  | _ => liveOFields s.brk.liveO

/-- R136. -/
def startBreakIn (p : Port) (zone : SegSet) (feed : Byte) (s : State) : State × Reply :=
  if !setOk s zone then refuse .badArgument s
  else
    match feedOf p feed with
    | none => refuse .badArgument s
    | some f =>
      let t := settle s (writeLive zone f s)
      (t, ⟨.ok, liveFields p t ++ be3 (ownedBy t.brk.owners (liveSource p))⟩)

/-- R137, R138: the record of a port is OFF. -/
def clearLive (p : Port) (s : State) : State :=
  match p with
  | .e => { s with brk.liveE := none }
  | .o => { s with brk.liveO := none }
  | .c => s

/-- R137. -/
def stopBreakIn (p : Port) (s : State) : State × Reply :=
  (settle s (clearLive p s), ⟨.ok, be3 (ownedBy s.brk.owners (liveSource p))⟩)

/-- R141. -/
def setPlayoutPriority (mode : Byte) (s : State) : State × Reply :=
  match flagOf mode with
  | none => refuse .badArgument s
  | some b => accept { s with brk.priority := if b then .rotating else .fixed }

def execStartBreakIn (p : Port) (zone : SegSet) (feed : Byte) (s : State) : Host.Outcome State Fault Refusal :=
  .next (portCommand (.startBreakIn p zone feed) (startBreakIn p zone feed) s)

def execStopBreakIn (p : Port) (s : State) : Host.Outcome State Fault Refusal :=
  .next (portCommand (.stopBreakIn p) (stopBreakIn p) s)

def execSetPlayoutPriority (p : Port) (mode : Byte) (s : State) : Host.Outcome State Fault Refusal :=
  .next (portCommand (.setPlayoutPriority p mode) (setPlayoutPriority mode) s)

end Sys2Proof.Machine
end

