-- ==== Sys2Proof/Machine/Playout.lean ====
section
/-! DEFINITION. The playout engine: commands (R122 to R124), message ends (R127, R128), owner lapse (R129), and the incident
takeover and release of P1 (R130, R131). -/

namespace Sys2Proof.Machine

/-- R131: PROGRAM and START find P1 held by INCIDENT. -/
def heldByIncident (s : State) (c : PChan) : Bool := c = .p1 && s.play.p1Held

/-- R119: the port that starts a channel owns it. -/
def portOwner : Port → PlayOwner
  | .o => .o | .e => .e | .c => .none

/-! ### PROGRAM, START, STOP -/

/-- R122: the program that the operands spell. -/
def programOf (s : State) (kind mode : Byte) (zone : SegSet) (playlist : List Byte) : Option Program :=
  match flagOf kind, flagOf mode, playlistOf playlist with
  | some k, some m, some ids =>
    if playlistLengthOk playlist && (if k then zone = 0 else setOk s zone) then
      some { kind := if k then .check else .play, repeats := m, playlist := ids, zone := zone }
    else none
  | _, _, _ => none

/-- R122, R111: a channel's program is replaced. -/
def setProgram (c : PChan) (new : Program) (s : State) : State :=
  adjustUses (s.pchan c).program (some new) (s.modPchan c fun r => { r with program := some new })

/-- R122. -/
def programPlayout (chan kind mode : Byte) (zone : SegSet) (playlist : List Byte) (s : State) : State × Reply :=
  match pchanOf chan, programOf s kind mode zone playlist with
  | some c, some new =>
    if heldByIncident s c then refuse .inUse s
    else if (s.pchan c).state ≠ .idle then refuse .busy s
    else accept (setProgram c new s)
  | _, _ => refuse .badArgument s

/-- R123: every identifier is READY or DAMAGED, and the first is READY. -/
def playlistReady (s : State) (p : Program) : Bool :=
  (p.playlist.all fun i => (s.msg i).content.isClosed) && messageReady s p.playlist.head?

/-- R123 steps 1 to 4: a channel starts under this owner; the selector decides whether a PLAY channel is PLAYING or
HELD. -/
def beginRun (c : PChan) (kind : PlayKind) (owner : PlayOwner) (s : State) : State :=
  s.modPchan c fun r =>
    { r with state := match kind with | .play => .playing | .check => .checking,
             owner := owner, finish := false, cur := some (startCursor 0) }

/-- R123. -/
def startPlayout (p : Port) (chan : Byte) (s : State) : State × Reply :=
  match pchanOf chan with
  | none => refuse .badArgument s
  | some c =>
    if heldByIncident s c then refuse .inUse s
    else if (s.pchan c).state ≠ .idle then refuse .busy s
    else
      match (s.pchan c).program with
      | none => refuse .notReady s
      | some prog =>
        if !playlistReady s prog then refuse .notReady s
        else
          let t := beginRun c prog.kind (portOwner p) s
          let t := match prog.kind with
            | .play => recomputeOwners (some c) t
            | .check => t
          let t := raiseStarted c t
          (t, ⟨.ok, b1 (playStateCode (t.pchan c).state)⟩)

/-- R124. -/
def stopPlayout (p : Port) (chan : Byte) (s : State) : State × Reply :=
  match pchanOf chan with
  | none => refuse .badArgument s
  | some c =>
    if p = .e ∧ (s.pchan c).owner ≠ .e then refuse .notPermitted s
    else if (s.pchan c).state = .idle then accept s
    else accept (settle s (endChannel c .stopped s))

/-! ### Message ends -/

/-- R121. -/
def moveToEnd (c : PChan) (l : List PChan) : List PChan := (l.filter fun x => x ≠ c) ++ [c]

/-- R127 steps 2 to 4, R125, R120: after a message end the channel ends or begins its next message, at the moment of that end:
the time beyond the end is the next message's (log 4). -/
def advance (c : PChan) (s : State) : State :=
  let r := s.pchan c
  match r.program, r.cur with
  | some p, some q =>
    if r.finish then endChannel c .lapsed s
    else if q.index + 1 = p.playlist.length ∧ !p.repeats then endChannel c .completed s
    else
      let next := if q.index + 1 = p.playlist.length then 0 else q.index + 1
      let t := s.modPchan c fun r => { r with cur := some { startCursor next with frac := q.frac } }
      if messageReady t (t.pchan c).message then t.modPchan c (readFor t 0) else endChannel c .notReady t
  | _, _ => s

/-- R120: a channel in this state is at the end of its message. -/
def endDue (s : State) (st : PlayState) (c : PChan) : Bool :=
  decide ((s.pchan c).state = st) && messageRead s (s.pchan c)

/-- R127: the message end of a PLAYING channel. -/
def playMessageEnd (c : PChan) (s : State) : State :=
  if endDue s .playing c then
    settle s (advance c { s with play.rotation := moveToEnd c s.play.rotation })
  else s

/-- R128: the message end of a CHECKING channel. -/
def checkMessageEnd (c : PChan) (s : State) : State :=
  let r := s.pchan c
  match r.cur, r.message with
  | some q, some i =>
    if endDue s .checking c then
      advance c (raisePlayout c r 4 (if verdict i q.sum s then 0 else 1) (takeVerdict i q.sum s))
    else s
  | _, _ => s

/-! ### Owner lapse -/

/-- R129: one channel at the lapse of its owner's port. -/
def lapseChannel (owner : PlayOwner) (s : State) (c : PChan) : State :=
  let r := s.pchan c
  let repeating : Bool := match r.program with | some p => p.repeats | none => false
  if r.owner = owner ∧ r.state ≠ .idle ∧ repeating then
    let t := s.modPchan c fun r => { r with finish := true }
    if r.state = .held then endChannel c .lapsed t else t
  else s

/-- R129. -/
def playoutLapse (p : Port) (s : State) : State :=
  match p with
  | .c => s
  | _ => PChan.every.foldl (lapseChannel (portOwner p)) s

/-! ### Incident takeover -/

/-- R130: the incident program. -/
def incidentProgram (i : MsgId) : Program :=
  { kind := .play, repeats := true, playlist := [i], zone := BitVec.allOnes 24 }

/-- R130: the takeover of P1, up to the recomputation of owners. -/
def takeOverP1 (i : MsgId) (s : State) : State :=
  let t := if (s.pchan .p1).state = .idle then s else endChannel .p1 .overridden s
  let t := setProgram .p1 (incidentProgram i) t
  beginRun .p1 .play .incident { t with play.p1Held := true }

/-- R130: the incident message, where it is READY. -/
def incidentMessage (s : State) : Option MsgId :=
  match s.inc.message with
  | some i => if (s.msg i).content.ready then some i else none
  | none => none

/-- R130, R180. With the setting none the event carries the directory state 0, the code of EMPTY (DESIGN CHOICE, log 45). -/
def raiseMessageMissing (s : State) : State :=
  match s.inc.message with
  | some i => s.raise toO .incidentMessageMissing (idByte i) (BitVec.ofNat 16 (msgStateCode (s.msg i).content)) 0
  | none => s.raise toO .incidentMessageMissing 0 0 0

/-- R130: what the playout engine does at onset, before the recomputation of owners. -/
def playoutOnset (s : State) : State :=
  match incidentMessage s with
  | some i => takeOverP1 i s
  | none => raiseMessageMissing s

/-- R131: P1 is released at the return to NORMAL. -/
def releaseP1 (s : State) : State :=
  if s.play.p1Held then
    let t := if (s.pchan .p1).state = .idle then s else endChannel .p1 .stopped s
    ({ t with play.p1Held := false }).modPchan .p1 fun r => { r with owner := .none }
  else s

/-! ### The rows -/

def execProgramPlayout (p : Port) (chan kind mode : Byte) (zone : SegSet) (playlist : List Byte) (s : State) :
    Host.Outcome State Fault Refusal :=
  .next (portCommand (.programPlayout p chan kind mode zone playlist) (programPlayout chan kind mode zone playlist) s)

def execStartPlayout (p : Port) (chan : Byte) (s : State) : Host.Outcome State Fault Refusal :=
  .next (portCommand (.startPlayout p chan) (startPlayout p chan) s)

def execStopPlayout (p : Port) (chan : Byte) (s : State) : Host.Outcome State Fault Refusal :=
  .next (portCommand (.stopPlayout p chan) (stopPlayout p chan) s)

/-- MESSAGE_END (R127). -/
def execMessageEnd (chan : PChan) (s : State) : Host.Outcome State Fault Refusal :=
  .next (if s.sys.held then s else playMessageEnd chan s)

/-- CHECK_MESSAGE_END (R128). -/
def execCheckMessageEnd (chan : PChan) (s : State) : Host.Outcome State Fault Refusal :=
  .next (if s.sys.held then s else checkMessageEnd chan s)

end Sys2Proof.Machine
end

