-- ==== Sys2Proof/Machine/Incident.lean ====
section
/-! DEFINITION. The incident controller: claims and level (R150 to R153), the FIRE filter (R154, R155), the sense (R156), the
incident message (R157), and what the other blocks do at onset and return (R151; the order between them is log 13). -/

namespace Sys2Proof.Machine

/-! ### Claims -/

inductive Claim where
  | ops | rescue | line
  deriving DecidableEq, Repr

def Claims.get (c : Claims) : Claim → Bool
  | .ops => c.ops | .rescue => c.rescue | .line => c.line

def Claims.set (c : Claims) (x : Claim) (b : Bool) : Claims :=
  match x with
  | .ops => { c with ops := b } | .rescue => { c with rescue := b } | .line => { c with line := b }

/-- R150. -/
def levelOf (c : Claims) : Level := if c.ops || c.rescue || c.line then .incident else .normal

/-- R150, R180: the sources of a change, coded as the event codes them. -/
inductive ClaimCause where
  | declareO | declareE | clearO | clearE | fire | sense
  deriving DecidableEq, Repr

def claimCauseCode : ClaimCause → Byte
  | .declareO => 1 | .declareE => 2 | .clearO => 3 | .clearE => 4 | .fire => 5 | .sense => 6

def claimCode : Claim → Byte
  | .ops => 0 | .rescue => 1 | .line => 2

/-- R150, R180: INCIDENT to all three ports. -/
def raiseIncident (x : Claim) (cause : ClaimCause) (s : State) : State :=
  s.raise toAll .incident 0
    (BitVec.ofNat 16 (claimsCode s.inc.claims + if levelFlag s.inc.level then 256 else 0))
    (hiLo (claimCode x) (claimCauseCode cause))

/-! ### Onset and return (R151) -/

/-- R151: onset, in the order allocator, loop controller, talk controller, playout engine, break-in selector. -/
def onset (before s : State) : State :=
  let t := playoutOnset (talkLevel .incident (loopOnset (allocLevel .incident s)))
  match incidentMessage s with
  | some _ => raiseStarted .p1 (recomputeOwners (some .p1) t)
  | none => settle before t

/-- R151: the return to NORMAL. -/
def returnToNormal (before s : State) : State :=
  settle before (releaseP1 (talkLevel .normal (loopReturn (allocLevel .normal s))))

/-- R150, R151: a claim is added or removed; a change of level is announced. -/
def changeClaim (x : Claim) (b : Bool) (cause : ClaimCause) (s : State) : State :=
  if s.inc.claims.get x = b then s
  else
    let claims := s.inc.claims.set x b
    let t : State := { s with inc.claims := claims, inc.level := levelOf claims }
    let t := raiseIncident x cause t
    match s.inc.level, levelOf claims with
    | .normal, .incident => onset s t
    | .incident, .normal => returnToNormal s t
    | _, _ => t

/-! ### Commands -/

/-- R152, R153: claim set and level. -/
def incidentAnswer (s : State) : List Byte := b1 (claimsCode s.inc.claims) ++ fl (levelFlag s.inc.level)

/-- R152. -/
def declareIncident (p : Port) (s : State) : State × Reply :=
  let t := match p with
    | .e => changeClaim .rescue true .declareE s
    | _ => changeClaim .ops true .declareO s
  (t, ⟨.ok, incidentAnswer t⟩)

def claimOf (b : Byte) : Option Claim :=
  match b.toNat with
  | 0 => some .ops | 1 => some .rescue | 2 => some .line | _ => none

/-- R153: the claims that a port may clear. -/
def mayClear : Port → Claim → Bool
  | .e, .rescue => true
  | .o, .ops => true
  | .o, .line => true
  | _, _ => false

def clearCause : Port → ClaimCause
  | .e => .clearE
  | _ => .clearO

/-- R153. -/
def clearIncident (p : Port) (claim : Byte) (s : State) : State × Reply :=
  match claimOf claim with
  | none => refuse .badArgument s
  | some x =>
    if !mayClear p x then refuse .notPermitted s
    else if x = .line ∧ s.inc.filtered = .asserted then (s, ⟨.lineActive, incidentAnswer s⟩)
    else
      let t := changeClaim x false (clearCause p) s
      (t, ⟨.ok, incidentAnswer t⟩)

/-- R156: the claim and the arm are brought into line with a new sense; a change to LEVEL leaves the arm as it stands (DEDUCED,
log 20). -/
def changeSense (sense : FireSense) (s : State) : State :=
  let t : State := { s with inc.sense := sense }
  match sense, s.inc.filtered with
  | .edge, .asserted => { t with inc.arm := false }
  | .edge, .deasserted => { t with inc.arm := true }
  | .level, .asserted => changeClaim .line true .sense t
  | .level, .deasserted => changeClaim .line false .sense t
  | _, .unsettled => t

/-- R156. -/
def setFireSense (sense : Byte) (s : State) : State × Reply :=
  match flagOf sense with
  | none => refuse .badArgument s
  | some b =>
    let new : FireSense := if b then .edge else .level
    let t := if s.inc.sense = new then s else changeSense new s
    (t, ⟨.ok, fl b ++ b1 (claimsCode t.inc.claims)⟩)

/-- R157: an identifier, or 0 for none. -/
def messageSetting (id : Byte) : Option (Option MsgId) :=
  if id = 0 then some none else (msgIdOf id).map some

/-- R157: the answer is a presence byte and the directory state, 0 and 0 where no message is named (log 11). -/
def setIncidentMessage (id : Byte) (s : State) : State × Reply :=
  match messageSetting id with
  | none => refuse .badArgument s
  | some m =>
    ({ s with inc.message := m },
      ⟨.ok, optField 1 (m.map fun i => b1 (msgStateCode (s.msg i).content))⟩)

/-! ### The FIRE line -/

def heldLevel (raw : Bool) : FireLevel := if raw then .asserted else .deasserted

/-- R154: a change of the raw line restarts the interval. -/
def fireLineChange (asserted : Bool) (s : State) : State :=
  if s.inc.raw = asserted then s else { s with inc.raw := asserted, inc.changedAt := s.sys.uptime }

/-- R154: the raw line has held for 50 ms a level that the filtered level is not. -/
def fireDue (s : State) : Bool :=
  decide (s.inc.filtered ≠ heldLevel s.inc.raw) && decide (Config.fireStableMs ≤ elapsed s.sys.uptime s.inc.changedAt)

/-- R154, R155, R158: the filter takes the level of the raw line. In the LEVEL sense the edge arm stands but for the first
settling (DEDUCED, log 20). -/
def takeFireLevel (s : State) : State :=
  let t : State := { s with inc.filtered := heldLevel s.inc.raw }
  match s.inc.filtered, s.inc.raw with
  | .unsettled, true => changeClaim .line true .fire { t with inc.arm := false }
  | .unsettled, false => { t with inc.arm := true }
  | .deasserted, true =>
    match s.inc.sense with
    | .level => changeClaim .line true .fire t
    | .edge => if s.inc.arm then changeClaim .line true .fire { t with inc.arm := false } else t
  | .asserted, false =>
    match s.inc.sense with
    | .level => changeClaim .line false .fire t
    | .edge => { t with inc.arm := true }
  | _, _ => s

/-- R154. -/
def fireFilterExpiry (s : State) : State := if fireDue s then takeFireLevel s else s

/-! ### The rows -/

def execDeclareIncident (p : Port) (s : State) : Host.Outcome State Fault Refusal :=
  .next (portCommand (.declareIncident p) (declareIncident p) s)

def execClearIncident (p : Port) (claim : Byte) (s : State) : Host.Outcome State Fault Refusal :=
  .next (portCommand (.clearIncident p claim) (clearIncident p claim) s)

def execSetFireSense (p : Port) (sense : Byte) (s : State) : Host.Outcome State Fault Refusal :=
  .next (portCommand (.setFireSense p sense) (setFireSense sense) s)

def execSetIncidentMessage (p : Port) (id : Byte) (s : State) : Host.Outcome State Fault Refusal :=
  .next (portCommand (.setIncidentMessage p id) (setIncidentMessage id) s)

/-- FIRE_LINE_CHANGE (R154); the line's level is a pin's, also while the part is held in reset. -/
def execFireLineChange (asserted : Bool) (s : State) : Host.Outcome State Fault Refusal :=
  .next (fireLineChange asserted s)

/-- FIRE_FILTER_EXPIRY (R154, R155, R158). -/
def execFireFilterExpiry (s : State) : Host.Outcome State Fault Refusal :=
  .next (if s.sys.held then s else fireFilterExpiry s)

end Sys2Proof.Machine
end

