-- ==== Sys2Proof/Machine/Evaluation.lean ====
section
/-! DEFINITION. The survey round's end (R10) and its evaluation (R11, R12, R15 to R17), with what the level monitor (R63 to
R76), the talk controller (R81) and the directive engine (R25, R29, R35 to R37) do in it. The order of the parts is log 13. -/

namespace Sys2Proof.Machine

/-! ### Positions, fold and mismatch (R11, R12) -/

def SurveyOutcome.crossed? : SurveyOutcome → Option (List SurveyEntry)
  | .crossed es => some es
  | _ => none

/-- R11: the entries of a RETURNED survey; none otherwise. -/
def SurveyOutcome.back : SurveyOutcome → List SurveyEntry
  | .returned es => es
  | _ => []

/-- The entry count of a survey, 0 where it has no entries. -/
def SurveyOutcome.count : SurveyOutcome → Nat
  | .crossed es => es.length
  | .returned es => es.length
  | _ => 0

/-- What an evaluation finds. -/
structure Sighting where
  seen : SegId → Option SurveyEntry
  reach : SegId → Reach
  fold : Fold
  mismatch : Bool

/-- R11: a and the uncorrected b of a folded loop. -/
def foldA (n : Nat) (l : SurveyOutcome) : Nat := min l.back.length n
def foldB (n : Nat) (r : SurveyOutcome) : Nat := n + 1 - min r.back.length n

/-- R11: cL or cR exceeds N (log 21). -/
def countTooHigh (n : Nat) (l r : SurveyOutcome) : Bool := decide (n < l.back.length) || decide (n < r.back.length)

/-- R11: a crossed survey has a count different from N. -/
def crossedMismatch (n : Nat) (x : SurveyOutcome) : Bool :=
  match x.crossed? with
  | some es => es.length ≠ n
  | none => false

/-- R11, R12: entry `i` of the left survey is position i, entry `j` of the right survey is position N − j + 1. Where the right survey
alone crossed with a count c below N, the positions beyond its count are thus 1 to N − c (DESIGN CHOICE, log 43). -/
def sighting (n : Nat) (l r : SurveyOutcome) : Sighting :=
  let fromRight (es : List SurveyEntry) (k : SegId) : Option SurveyEntry := if k.val < n then es[n - 1 - k.val]? else none
  let fromLeft (es : List SurveyEntry) (k : SegId) : Option SurveyEntry := if k.val < n then es[k.val]? else none
  let known (seen : SegId → Option SurveyEntry) (fold : Fold) (bad : Bool) (x : SegId → Reach) : Sighting :=
    { seen := seen, reach := fun k => if (seen k).isSome then x k else .none, fold := fold,
      mismatch := decide (0 < n) && (bad || countTooHigh n l r) }
  match l.crossed?, r.crossed? with
  | some es, _ =>
    known (fromLeft es) .whole (crossedMismatch n l || crossedMismatch n r) (fun _ => .both)
  | none, some es =>
    known (fromRight es) .whole (crossedMismatch n r) (fun _ => .both)
  | none, none =>
    let a := foldA n l
    let b := foldB n r
    known (fun k => if k.val < a then fromLeft l.back k else fromRight r.back k)
      (.folded a (if b ≤ a then a + 1 else b)) (decide (b ≤ a))
      (fun k => if k.val < a then .left else .right)

/-! ### Link states (R15, R17) -/

/-- The class taken for the unassigned temperature code: a free value (log 42). -/
def spareTemp (draw : Nat) (k : SegId) : TempClass :=
  match Config.spareTemp draw k.val % 3 with
  | 0 => .normal
  | 1 => .warm
  | _ => .hot

/-- R5, R17: what an entry shows; `spare` stands for an unassigned temperature code. -/
def observedOf (spare : TempClass) (e : SurveyEntry) : Observed := ⟨e.mode, e.forced, e.temp.getD spare, e.supply⟩

/-- R15: the number of the transition. -/
def transitionNo (r : SegRec) (seen : Option SurveyEntry) : Nat :=
  match r.link, seen with
  | .unseen, some _ => 1
  | .unseen, none => 2
  | .present, some e => if r.serial = some e.serial then 3 else 4
  | .present, none => 5
  | .missing, none => if r.miss < 2 then 6 else 7
  | .missing, some e => if r.serial = some e.serial then 8 else 9
  | .lost, some _ => 10
  | .lost, none => 11

/-- R15: the record after a transition. -/
def transition (spare : TempClass) (r : SegRec) (seen : Option SurveyEntry) (reach : Reach) : SegRec :=
  let r : SegRec := { r with reach := reach }
  match seen with
  | some e =>
    { r with link := .present, miss := 0, serial := some e.serial, observed := some (observedOf spare e),
             acquired := r.acquired && decide (r.serial = some e.serial) }
  | none =>
    match r.link with
    | .present => { r with link := .missing, miss := 1 }
    | .missing =>
      if r.miss < 2 then { r with miss := 2 }
      else { r with link := .lost, observed := none, acquired := false, miss := 0 }
    | _ => r

def serialLow (x : Option Word) : Half := (x.getD 0).extractLsb' 0 16

/-- R15, R180. -/
def raiseUnitState (k : SegId) (s : State) : State :=
  s.raise toO .unitState (segByte k) (BitVec.ofNat 16 (linkCode (s.seg k).link)) (serialLow (s.seg k).serial)

/-- R15, R180. -/
def raiseReplaced (k : SegId) (old : Option Word) (s : State) : State :=
  s.raise toO .unitReplaced (segByte k) (serialLow old) (serialLow (s.seg k).serial)

/-- R17, R180. -/
def raiseUnitMode (k : SegId) (o : Observed) (s : State) : State :=
  s.raise toO .unitMode (segByte k) (hiLo (modeCode o.mode) (if o.forced then 1 else 0))
    (hiLo (tempCode o.temp) (supplyCode o.supply))

/-- R17: UNIT_MODE where the four observed values of a PRESENT segment differ from those before. -/
def raiseModeChange (k : SegId) (old : Option Observed) (s : State) : State :=
  match (s.seg k).observed with
  | some o => if old = some o then s else raiseUnitMode k o s
  | none => s

/-- R36: the same unit is seen to have entered DORMANT, or left OVERHEAT (log 27). -/
def zeroingSeen (old new : Option Observed) : Bool :=
  match old, new with
  | some o, some o' =>
    (decide (o.mode ≠ .dormant) && decide (o'.mode = .dormant)) ||
    (decide (o.mode = .overheat) && decide (o'.mode ≠ .overheat))
  | _, _ => false

/-- R15, R17, R36, R37: the transition of one segment, its events, and what the directive engine is told. A zeroing comes before the
level monitor's comparisons of the round, which is the first of its holdoff where the entry carries levels (DESIGN CHOICE, log 27). -/
def moveSegment (g : Sighting) (k : SegId) (s : State) : State :=
  let r := s.seg k
  let no := transitionNo r (g.seen k)
  let t := s.modSeg k fun r => transition (spareTemp s.draws k) r (g.seen k) (g.reach k)
  let t := if no = 4 ∨ no = 9 then raiseReplaced k r.serial t else t
  let t := if no = 1 ∨ no = 5 ∨ no = 7 ∨ no = 8 ∨ no = 9 ∨ no = 10 then raiseUnitState k t else t
  let t := if no = 3 ∨ no = 4 then raiseModeChange k r.observed t else t
  let t := if no = 4 ∨ no = 7 ∨ no = 9 then t.modUnit k UnitRec.drop else t
  if (no = 3 ∨ no = 8) ∧ zeroingSeen r.observed (t.seg k).observed then t.setApplied k (some zeroLevels) else t

/-! ### The level monitor -/

/-- R76, R180. -/
def raiseWrap (dst : Tri Bool) (number : Byte) (value : Word) (s : State) : State :=
  s.raise dst .accumWrap number (value.extractLsb' 16 16) (value.extractLsb' 0 16)

/-- R74: the grants of an operator over segments 1 to N. -/
def operatorGrants (s : State) (c : Carrier) : Nat :=
  (((List.finRange 24).filter fun k => decide (k.val < s.loop.n)).map fun k => ((s.aseg k).c.get c).grant).sum

/-- R74, R76: one operator's accumulator at an evaluation. -/
def gainEnergy (before : State) (s : State) (c : Carrier) : State :=
  let r := (s.meter.energy.get c).gain (operatorGrants before c * (before.loop.timerPeriod / 10))
  let t : State := { s with meter.energy := s.meter.energy.set c r.1 }
  if r.2 then raiseWrap toOC (BitVec.ofNat 8 (carrierNumber c)) (r.1.value.extractLsb' 0 32) t else t

/-- R63: the measured levels of a seen segment are recorded. -/
def recordMeasured (g : Sighting) (k : SegId) (s : State) : State :=
  match g.seen k with
  | some e =>
    match e.measured with
    | some m => s.modMeters k fun v => Six.build fun x => (v.get x).record (m.get x).toNat
    | none => s
  | none => s

/-- R68, R180. -/
def raiseAlert (k : SegId) (e : Entry) (isUnder : Bool) (m p : Nat) (s : State) : State :=
  s.raise (toPort (ownerPort e)) .alert (entrySubject k e) (BitVec.ofNat 16 m)
    (BitVec.ofNat 16 ((if isUnder then 32768 else 0) + p))

/-- R68, R69: ALERT for a flag that has gone from clear to set. -/
def raiseAlerts (k : SegId) (e : Entry) (old new : MeterEntry) (m p : Nat) (s : State) : State :=
  let t := if new.overFlag && !old.overFlag then raiseAlert k e false m p s else s
  if new.underFlag && !old.underFlag then raiseAlert k e true m p t else t

/-- R72: the count of a carrier entry after its flags, and the suspension it asks for. -/
def persist (k : SegId) (e : Entry) (s : State) : State :=
  match e.carrier? with
  | none => s
  | some c =>
    let x := (s.meters k).get e
    let r := countAfter ((s.aseg k).c.get c).suspended s.meter.policy.persist x.count x.isOver
    let t := s.modMeter k e fun x => { x with count := r.1 }
    if r.2 then suspendEntry k c t else t

/-- R65, R66, R67: an entry of a segment seen with measured levels: a holdoff round, or an evaluated round. -/
def compareEntry (k : SegId) (s : State) (e : Entry) : State :=
  let x := (s.meters k).get e
  match (s.unit k).applied with
  | none => s
  | some v =>
    if 0 < x.settle then s.modMeter k e fun x => { x with settle := x.settle - 1 }
    else
      match x.compared s.meter.policy.n with
      | none => s
      | some m =>
        let p := v.get e
        let y := x.evaluate m p s.meter.policy.tol
        persist k e (raiseAlerts k e x y m p (s.modMeter k e fun _ => y))

/-- R66: the six entries of a segment that carries measured levels. -/
def compareSegment (g : Sighting) (k : SegId) (s : State) : State :=
  match g.seen k with
  | some e => if e.measured.isSome then Entry.every.foldl (compareEntry k) s else s
  | none => s

/-! ### The talk controller -/

/-- R81: what an evaluation writes into the uplink records of a segment, in its state before the evaluation. Each channel goes by its
own presence bit: a record that the entry does not carry is cleared, whatever the other and the mode are (DESIGN CHOICE, log 44). -/
def uplinkFromEntry (g : Sighting) (before : State) (k : SegId) (s : State) : State :=
  match g.seen k with
  | some e =>
    writeUplink k .t2 (e.uplink.t2.getD .cleared) (writeUplink k .t1 (e.uplink.t1.getD .cleared) s)
  | none => if (before.seg k).link = .present then clearUplink k s else s

/-! ### The directive engine -/

/-- R29: a paused directive goes on when its segment comes back with the same serial. -/
def resumeAtReturn (g : Sighting) (before : State) (k : SegId) (s : State) : State :=
  if transitionNo (before.seg k) (g.seen k) = 8 then resumeDirective k s else s

/-- R25: the evaluation check. -/
def checkLevels (k : SegId) (s : State) : State :=
  let u := s.unit k
  if (s.seg k).link = .present ∧ !u.marked ∧ u.inflight.isNone ∧ u.levelsSlot = .empty then
    if u.applied.isNone then s.modUnit k UnitRec.requestZeroReset
    else if u.behind (s.aseg k).grants then s.modUnit k UnitRec.requestLevels
    else s
  else s

/-- R25 (log 15). -/
def checkDrain (k : SegId) (s : State) : State := s.modUnit k UnitRec.requestDrain

/-! ### The evaluation -/

/-- R16: an acquisition at an evaluation. -/
def acquireIfWanted (k : SegId) (s : State) : State :=
  if wantsAcquisition (s.seg k) then acquireRecords k s else s

/-- R11. -/
def noteMismatch (g : Sighting) (l r : SurveyOutcome) (s : State) : State :=
  let t : State := { s with loop.mismatch := g.mismatch }
  if g.mismatch && !s.loop.mismatch then
    t.raise toO .loopMismatch (BitVec.ofNat 8 s.loop.n) (BitVec.ofNat 16 l.count) (BitVec.ofNat 16 r.count)
  else t

/-- R12. -/
def noteFold (g : Sighting) (s : State) : State :=
  if s.loop.fold = g.fold then s
  else
    let t : State := { s with loop.fold := g.fold }
    match g.fold with
    | .whole => t.raise toO .loopFold 0 0 0
    | .folded a b => t.raise toO .loopFold 0 1 (hiLo (BitVec.ofNat 8 a) (BitVec.ofNat 8 b))

/-- What an evaluation does in RUN, between the records and the talk controller: acquisition, E, comparisons. -/
def evaluatePower (g : Sighting) (s : State) : State :=
  if s.sys.part = .run then
    forSegs (compareSegment g) (forSegs recomputeLimit (forSegs acquireIfWanted s))
  else forSegs recomputeLimit s

/-- R81: the talk controller's part. -/
def evaluateTalk (g : Sighting) (before s : State) : State :=
  talkFinish before (reactBoth (forSegs (uplinkFromEntry g before) s))

/-- R20, R25, R29, R35: the directive engine's part. -/
def evaluateEngine (g : Sighting) (before s : State) : State :=
  if s.sys.part = .run then
    let t := forSegs (resumeAtReturn g before) s
    let t := forSegs checkDrain (forSegs reconcile (forSegs checkLevels t))
    forSegs issueProbe t
  else s

/-- R74, R76: the energy of the interval now closing; C1 to C4 in this order, and so their ACCUM_WRAP (DESIGN CHOICE, log 13). -/
def evaluateEnergy (s : State) : State :=
  if s.sys.part = .run then Carrier.every.foldl (gainEnergy s) s else s

/-- An evaluation that met an unassigned temperature code has used one free choice (log 42). -/
def noteDraw (g : Sighting) (s : State) : State :=
  if (List.finRange 24).any fun k => (g.seen k).any fun e => e.temp.isNone then { s with draws := s.draws + 1 } else s

/-- R10 to R17: the evaluation of a round whose surveys ended so. -/
def evaluate (l r : SurveyOutcome) (s : State) : State :=
  let g := sighting s.loop.n l r
  let t := evaluateEnergy { s with loop.surveys := .all .none }
  let t := noteFold g (noteMismatch g l r t)
  let t := noteDraw g (forSegs (recordMeasured g) (forSegs (moveSegment g) t))
  let t := evaluatePower g t
  let t := evaluateEngine g s (evaluateTalk g s t)
  settle s t

/-- R10: the round completes when both surveys have ended. -/
def completeRound (s : State) : State :=
  match s.loop.surveys.t1, s.loop.surveys.t2 with
  | .ended l, .ended r => evaluate l r s
  | _, _ => s

/-- R10: a survey ends. -/
def endSurvey (origin : Side) (o : SurveyOutcome) (s : State) : State :=
  completeRound { s with loop.surveys := s.loop.surveys.setSide origin (.ended o) }

def SurveyState.inFlight? : SurveyState → Bool
  | .inFlight _ => true
  | _ => false

/-- R10, R181: a survey frame arrives at a head-end port. -/
def surveyArrival (port : Side) (frame : List Byte) (s : State) : State :=
  match decodeSurvey frame with
  | none => s
  | some f =>
    if f.round = s.loop.round ∧ (s.loop.surveys.side f.origin).inFlight? then
      endSurvey f.origin (if port = f.origin then .returned f.entries else .crossed f.entries) s
    else s

/-- R10: 40 ms have passed since the survey of this port was sent. -/
def surveyDue (s : State) (d : Side) : Bool :=
  match s.loop.surveys.side d with
  | .inFlight t => decide (Config.surveyTimeoutMs ≤ elapsed s.sys.uptime t)
  | _ => false

/-- R10. -/
def surveyTimeout (origin : Side) (s : State) : State :=
  if surveyDue s origin then endSurvey origin .timedOut s else s

/-- R9, R10: a round; one of which neither survey is sent completes at once. -/
def surveyRound (s : State) : State := if roundDue s then completeRound (startRound s) else s

/-- SURVEY_ROUND (R9). -/
def execSurveyRound (s : State) : Host.Outcome State Fault Refusal :=
  .next (if s.sys.held then s else surveyRound s)

/-- SURVEY_ARRIVAL (R10). -/
def execSurveyArrival (at_ : Side) (frame : List Byte) (s : State) : Host.Outcome State Fault Refusal :=
  .next (if s.sys.held then s else surveyArrival at_ frame s)

/-- SURVEY_TIMEOUT (R10). -/
def execSurveyTimeout (origin : Side) (s : State) : Host.Outcome State Fault Refusal :=
  .next (if s.sys.held then s else surveyTimeout origin s)

end Sys2Proof.Machine
end

