-- ==== Sys2Proof/Machine/Settings.lean ====
section
/-! DEFINITION. The commands that write settings of the loop controller (R9, R14, R19, R22), the directive engine (R27), the
allocator (R40 to R44, R58) and the level monitor (R70, R73, R77), and the rows of the directive engine. -/

namespace Sys2Proof.Machine

/-! ### Loop controller and directive engine -/

/-- R14. -/
def setSegmentCount (count : Byte) (s : State) : State × Reply :=
  if 1 ≤ count.toNat ∧ count.toNat ≤ 24 then accept (talkFinish s (reactBoth (newCount count.toNat s)))
  else refuse .badArgument s

/-- R22. -/
def setLimit (seg : Byte) (limit : Half) (s : State) : State × Reply :=
  match segOf s seg with
  | none => refuse .badArgument s
  | some k =>
    if powerOk limit then
      accept (settle s (recomputeLimit k (s.modSeg k fun r => { r with limit := limit.toNat })))
    else refuse .badArgument s

/-- R22. -/
def setDerate (percent : Byte) (s : State) : State × Reply :=
  if 25 ≤ percent.toNat ∧ percent.toNat ≤ 100 then
    accept (settle s (forSegs recomputeLimit { s with loop.derate := percent.toNat }))
  else refuse .badArgument s

/-- R9. -/
def setSurveyPeriod (ms : Half) (s : State) : State × Reply :=
  if 50 ≤ ms.toNat ∧ ms.toNat ≤ 1000 ∧ ms.toNat % 10 = 0 then accept { s with loop.period := ms.toNat }
  else refuse .badArgument s

/-- R27. -/
def setRampStep (step : Half) (s : State) : State × Reply :=
  if 50 ≤ step.toNat ∧ step.toNat ≤ 2000 then accept { s with engine.rampStep := step.toNat }
  else refuse .badArgument s

/-- R19: an accepted mode, which the table turns into `m`; naming the mode already commanded changes nothing. -/
def takeMode (k : SegId) (named m : TargetMode) (st : Status) (s : State) : State × Reply :=
  if (s.seg k).commanded = named ∨ (s.seg k).commanded = m then (s, .plain st)
  else (settle s (commandMode k m s), .plain st)

/-- R19. -/
def setUnitMode (seg mode : Byte) (s : State) : State × Reply :=
  match segOf s seg, targetOfCode mode.toNat with
  | some k, some m =>
    if s.loop.level = .incident ∧ m ≠ .active then refuse .incident s
    else if m = .dormant ∧ inSet (liveClaims s) k then takeMode k m .standby .converted s
    else takeMode k m m .ok s
  | _, _ => refuse .badArgument s

/-! ### Allocator -/

def AllocSeg.withFloors (a : AllocSeg) (f : Six Half) : AllocSeg :=
  { a with
    c := { c1 := { a.c.c1 with floor := f.c1.toNat }, c2 := { a.c.c2 with floor := f.c2.toNat },
           c3 := { a.c.c3 with floor := f.c3.toNat }, c4 := { a.c.c4 with floor := f.c4.toNat } },
    rs := { a.rs with floor := f.rs.toNat }, bc := { a.bc with floor := f.bc.toNat } }

/-- R40. -/
def setFloors (segs : SegSet) (f : Six Half) (s : State) : State × Reply :=
  if setOk s segs && f.toList.all powerOk then accept (settle s (writeEntries segs (·.withFloors f) s))
  else refuse .badArgument s

/-- R40. -/
def setIncidentFloors (segs : SegSet) (rs bc : Half) (s : State) : State × Reply :=
  if setOk s segs && powerOk rs && powerOk bc then
    accept (settle s (writeEntries segs
      (fun a => { a with rs := { a.rs with ifloor := rs.toNat }, bc := { a.bc with ifloor := bc.toNat } }) s))
  else refuse .badArgument s

/-- R41. -/
def setBroadcastRequest (segs : SegSet) (request : Half) (s : State) : State × Reply :=
  if setOk s segs && powerOk request then
    accept (settle s (writeEntries segs (fun a => { a with bc := { a.bc with request := request.toNat } }) s))
  else refuse .badArgument s

/-- R42. -/
def setRescueRequest (segs : SegSet) (qIdle qActive : Half) (s : State) : State × Reply :=
  if setOk s segs && powerOk qIdle && powerOk qActive then
    accept (settle s (writeEntries segs
      (fun a => { a with rs := { a.rs with qIdle := qIdle.toNat, qActive := qActive.toNat } }) s))
  else refuse .badArgument s

/-- R43, R58: one segment of a SET CARRIER REQUEST. -/
def requestCarrier (c : Carrier) (q : Nat) (k : SegId) (s : State) : State :=
  let write (a : AllocSeg) : AllocSeg := { a with c := a.c.set c { a.c.get c with request := q, suspended := false } }
  if ((s.aseg k).c.get c).suspended then
    let t := (s.modAseg k write).modMeter k c.entry fun x => { x with count := 0 }
    runRound k (t.raise toOC .entryResumed (entrySubject k c.entry) (BitVec.ofNat 16 q) 0)
  else writeEntry k write s

/-- R43. -/
def setCarrierRequest (operator : Byte) (segs : SegSet) (request : Half) (s : State) : State × Reply :=
  match operatorOf operator with
  | none => refuse .badArgument s
  | some c =>
    if setOk s segs && powerOk request then accept (settle s (forSet segs (requestCarrier c request.toNat) s))
    else refuse .badArgument s

/-- R44. -/
def setCarrierCap (percent : Byte) (s : State) : State × Reply :=
  if percent.toNat ≤ 100 then
    accept (settle s (roundsWhereChanged s.alloc { s with alloc.capPct := percent.toNat }))
  else refuse .badArgument s

/-- R59: the Q of each carrier entry becomes its floor. -/
def AllocSeg.requestsToFloors (a : AllocSeg) : AllocSeg :=
  { a with c := a.c.map fun e => { e with request := e.floor } }

/-- R59: the lapse of port C. -/
def allocLapse (s : State) : State :=
  roundsWhereChanged s.alloc (forSegs (fun k t => t.modAseg k AllocSeg.requestsToFloors) s)

/-! ### Level monitor -/

/-- R70: one segment of a SET ALERT MODE (log 34). -/
def configureAlert (e : Entry) (mode : AlertMode) (basis : Basis) (k : SegId) (s : State) : State :=
  let x := (s.meters k).get e
  let y := x.configure mode basis
  let p := match (s.unit k).applied with | some v => v.get e | none => 0
  raiseAlerts k e x y ((x.compared s.meter.policy.n).getD 0) p (s.modMeter k e fun _ => y)

/-- R70. -/
def setAlertMode (p : Port) (segs : SegSet) (entry mode basis : Byte) (s : State) : State × Reply :=
  match entryOf entry, flagOf mode, flagOf basis with
  | some e, some m, some b =>
    if ownerPort e ≠ p then refuse .notPermitted s
    else if setOk s segs then
      accept (forSet segs
        (configureAlert e (if m then .latched else .transparent) (if b then .averaged else .raw)) s)
    else refuse .badArgument s
  | _, _, _ => refuse .badArgument s

/-- R73: the averaging lengths. -/
def averagingOk (n : Byte) : Bool := n = 1 || n = 4 || n = 16 || n = 64

/-- R73. -/
def setMeterPolicy (n tol settleLen persistLim : Byte) (s : State) : State × Reply :=
  if averagingOk n && tol.toNat ≤ 50 && settleLen.toNat ≤ 15 && persistLim.toNat ≤ 15 then
    accept { s with meter.policy := ⟨n.toNat, tol.toNat, settleLen.toNat, persistLim.toNat⟩,
                    meter.recs := vall s.meter.recs fun v => v.map fun e => e.newPolicy settleLen.toNat persistLim.toNat }
  else refuse .badArgument s

/-- R77: the named accumulators. -/
def clearAccumulators (accs : Byte) (m : MeterRec) : MeterRec :=
  let e (i : Nat) (a : EnergyAcc) : EnergyAcc := if accs.getLsbD i then ⟨0, false⟩ else a
  let t (i : Nat) (a : AirtimeAcc) : AirtimeAcc := if accs.getLsbD i then ⟨0, false⟩ else a
  { m with energy := ⟨e 0 m.energy.c1, e 1 m.energy.c2, e 2 m.energy.c3, e 3 m.energy.c4⟩,
           airtime := ⟨t 4 m.airtime.t1, t 5 m.airtime.t2⟩ }

/-- R77. -/
def resetAccumulators (accs : Byte) (s : State) : State × Reply :=
  if 1 ≤ accs.toNat ∧ accs.toNat < 64 then accept { s with meter := clearAccumulators accs s.meter }
  else refuse .badArgument s

/-! ### The rows -/

def execSetSegmentCount (p : Port) (count : Byte) (s : State) : Host.Outcome State Fault Refusal :=
  .next (portCommand (.setSegmentCount p count) (setSegmentCount count) s)

def execSetLimit (p : Port) (seg : Byte) (limit : Half) (s : State) : Host.Outcome State Fault Refusal :=
  .next (portCommand (.setLimit p seg limit) (setLimit seg limit) s)

def execSetDerate (p : Port) (percent : Byte) (s : State) : Host.Outcome State Fault Refusal :=
  .next (portCommand (.setDerate p percent) (setDerate percent) s)

def execSetFloors (p : Port) (segs : SegSet) (floors : Six Half) (s : State) : Host.Outcome State Fault Refusal :=
  .next (portCommand (.setFloors p segs floors) (setFloors segs floors) s)

def execSetIncidentFloors (p : Port) (segs : SegSet) (rs bc : Half) (s : State) : Host.Outcome State Fault Refusal :=
  .next (portCommand (.setIncidentFloors p segs rs bc) (setIncidentFloors segs rs bc) s)

def execSetCarrierCap (p : Port) (percent : Byte) (s : State) : Host.Outcome State Fault Refusal :=
  .next (portCommand (.setCarrierCap p percent) (setCarrierCap percent) s)

def execSetRampStep (p : Port) (step : Half) (s : State) : Host.Outcome State Fault Refusal :=
  .next (portCommand (.setRampStep p step) (setRampStep step) s)

def execSetSurveyPeriod (p : Port) (ms : Half) (s : State) : Host.Outcome State Fault Refusal :=
  .next (portCommand (.setSurveyPeriod p ms) (setSurveyPeriod ms) s)

def execSetMeterPolicy (p : Port) (n tol settle persist : Byte) (s : State) : Host.Outcome State Fault Refusal :=
  .next (portCommand (.setMeterPolicy p n tol settle persist) (setMeterPolicy n tol settle persist) s)

def execSetUnitMode (p : Port) (seg mode : Byte) (s : State) : Host.Outcome State Fault Refusal :=
  .next (portCommand (.setUnitMode p seg mode) (setUnitMode seg mode) s)

def execSetBroadcastRequest (p : Port) (segs : SegSet) (request : Half) (s : State) : Host.Outcome State Fault Refusal :=
  .next (portCommand (.setBroadcastRequest p segs request) (setBroadcastRequest segs request) s)

def execSetRescueRequest (p : Port) (segs : SegSet) (qIdle qActive : Half) (s : State) :
    Host.Outcome State Fault Refusal :=
  .next (portCommand (.setRescueRequest p segs qIdle qActive) (setRescueRequest segs qIdle qActive) s)

def execSetCarrierRequest (p : Port) (operator : Byte) (segs : SegSet) (request : Half) (s : State) :
    Host.Outcome State Fault Refusal :=
  .next (portCommand (.setCarrierRequest p operator segs request) (setCarrierRequest operator segs request) s)

def execSetAlertMode (p : Port) (segs : SegSet) (entry mode basis : Byte) (s : State) : Host.Outcome State Fault Refusal :=
  .next (portCommand (.setAlertMode p segs entry mode basis) (setAlertMode p segs entry mode basis) s)

def execResetAccumulators (p : Port) (accs : Byte) (s : State) : Host.Outcome State Fault Refusal :=
  .next (portCommand (.resetAccumulators p accs) (resetAccumulators accs) s)

/-- DIRECTIVE_ISSUE (R26). -/
def execDirectiveIssue (seg : SegId) (s : State) : Host.Outcome State Fault Refusal :=
  .next (if !s.sys.held && canIssue s seg then issue seg s else s)

/-- DIRECTIVE_REPLY (R29); a reply may arrive at either port. -/
def execDirectiveReply (_at : Side) (frame : List Byte) (s : State) : Host.Outcome State Fault Refusal :=
  .next (if s.sys.held then s else settle s (directiveReply frame s))

/-- REPLY_TIMEOUT (R29). -/
def execReplyTimeout (seg : SegId) (s : State) : Host.Outcome State Fault Refusal :=
  .next (if s.sys.held then s else settle s (replyTimeout seg s))

/-- ROUSE_WAIT_EXPIRY (R33). -/
def execRouseWaitExpiry (seg : SegId) (s : State) : Host.Outcome State Fault Refusal :=
  .next (if s.sys.held then s else rouseWaitExpiry seg s)

end Sys2Proof.Machine
end

