-- ==== Sys2Proof/Machine/TalkCommands.lean ====
section
/-! DEFINITION. The talk controller's commands (R90 to R92, R98, R99), uplink notices (R18, R80), timers (R93, R95, R96) and
the airtime mark (R75). -/

namespace Sys2Proof.Machine

/-- R99. -/
def setCoverage (chan : Byte) (segs : SegSet) (s : State) : State × Reply :=
  match chanOf chan with
  | none => refuse .badArgument s
  | some c =>
    if setOk s segs then
      let t := reactFloor c (s.modChan c fun t => { t with coverage := segs })
      accept (settle s (talkFinish s (refreshRelay t)))
    else refuse .badArgument s

/-- R98. -/
def talkTimersOk (hang tot incidentTot : Half) : Bool :=
  hang.toNat ≤ 5000 && hang.toNat % 100 = 0 && 10 ≤ tot.toNat && tot.toNat ≤ 600 && incidentTot.toNat ≤ 600

/-- R98, R94. -/
def setTalkTimers (hang tot incidentTot : Half) (s : State) : State × Reply :=
  if talkTimersOk hang tot incidentTot then
    let t : State := { s with talk.hangMs := hang.toNat, talk.totS := tot.toNat, talk.itotS := incidentTot.toNat }
    accept (settle s (talkFinish s (retime (limitInForce s.talk) t)))
  else refuse .badArgument s

/-- R90, R91. -/
def keyCommand (chan priority : Byte) (s : State) : State × Reply :=
  match chanOf chan, flagOf priority with
  | some c, some pr =>
    if (s.chan c).key = .stuck then (s, ⟨.timedOut, talkAnswer c s⟩)
    else
      let t := settle s (talkFinish s (if pr then keyPriority c s else keyFloor c s))
      (t, ⟨.ok, talkAnswer c t⟩)
  | _, _ => refuse .badArgument s

/-- R92. -/
def unkeyCommand (chan : Byte) (s : State) : State × Reply :=
  match chanOf chan with
  | none => refuse .badArgument s
  | some c =>
    let t := settle s (talkFinish s (unkeyFloor c s))
    (t, ⟨.ok, talkAnswer c t⟩)

/-- R80: a notice handed over with its segment. -/
def takeNotice (k : SegId) (f : NoticeFrame) (s : State) : State :=
  if s.talk.seq[k] = some f.seq then s
  else
    let t := reactFloor f.chan (writeUplink k f.chan f.uplink (setSeq k (some f.seq) s))
    settle s (talkFinish s t)

/-- R18, R181. -/
def uplinkNotice (frame : List Byte) (s : State) : State :=
  match decodeNotice frame with
  | none => s
  | some f =>
    match noticeSegment s f.serial with
    | none => s
    | some k => takeNotice k f s

/-- R93. -/
def hangExpiry (c : Chan) (s : State) : State :=
  if hangDue s c then settle s (talkFinish s (expireHang c s)) else s

/-- R94 to R96: the start time plus the limit in force is reached. -/
def totExpiry (c : Chan) (s : State) : State :=
  if totDue s c then settle s (talkFinish s (expireTot c s)) else s

/-- R75, R76: one channel at a 100 ms mark. -/
def gainAirtime (s : State) (c : Chan) : State :=
  if (s.chan c).floor = .idle then s
  else
    let r := (s.meter.airtime.get c).gain
    let t : State := { s with meter.airtime := s.meter.airtime.set c r.1 }
    if r.2 then raiseWrap toOE (BitVec.ofNat 8 (chanCode c + 4)) r.1.value t else t

/-- R75: the uptime is at a 100 ms mark that has not been taken yet. -/
def markDue (s : State) : Bool :=
  decide (s.sys.uptime.toNat % Config.markMs = 0) && decide (s.lastMark ≠ some s.sys.uptime)

/-- R75, R76: T1 and then T2, and so their ACCUM_WRAP (DESIGN CHOICE, log 13). -/
def airtimeMark (s : State) : State :=
  if markDue s then { gainAirtime (gainAirtime s .t1) .t2 with lastMark := some s.sys.uptime } else s

/-! ### The rows -/

def execSetCoverage (p : Port) (chan : Byte) (segs : SegSet) (s : State) : Host.Outcome State Fault Refusal :=
  .next (portCommand (.setCoverage p chan segs) (setCoverage chan segs) s)

def execSetTalkTimers (p : Port) (hang tot incidentTot : Half) (s : State) : Host.Outcome State Fault Refusal :=
  .next (portCommand (.setTalkTimers p hang tot incidentTot) (setTalkTimers hang tot incidentTot) s)

def execKey (p : Port) (chan priority : Byte) (s : State) : Host.Outcome State Fault Refusal :=
  .next (portCommand (.key p chan priority) (keyCommand chan priority) s)

def execUnkey (p : Port) (chan : Byte) (s : State) : Host.Outcome State Fault Refusal :=
  .next (portCommand (.unkey p chan) (unkeyCommand chan) s)

/-- UPLINK_NOTICE (R18, R80); a notice may arrive at either port. -/
def execUplinkNotice (_at : Side) (frame : List Byte) (s : State) : Host.Outcome State Fault Refusal :=
  .next (if s.sys.held then s else uplinkNotice frame s)

/-- HANG_EXPIRY (R93). -/
def execHangExpiry (chan : Chan) (s : State) : Host.Outcome State Fault Refusal :=
  .next (if s.sys.held then s else hangExpiry chan s)

/-- TOT_EXPIRY (R95, R96). -/
def execTotExpiry (chan : Chan) (s : State) : Host.Outcome State Fault Refusal :=
  .next (if s.sys.held then s else totExpiry chan s)

/-- AIRTIME_MARK (R75). -/
def execAirtimeMark (s : State) : Host.Outcome State Fault Refusal :=
  .next (if s.sys.held then s else airtimeMark s)

end Sys2Proof.Machine
end

