-- ==== Sys2Proof/Machine/Ports.lean ====
section
/-! DEFINITION. The port interface's own commands and rows: service supervision (R166 to R169), events (R171), Commit (R160),
resets (R174, R175) and the lapse of a port (R168). -/

namespace Sys2Proof.Machine

/-! ### Service supervision -/

/-- R167. -/
def serviceArm (p : Port) (s : State) : State × Reply :=
  if (s.port p).service.isNone then accept s else accept (s.modPort p fun q => { q with arm := true })

/-- R169, R180. -/
def raiseRestored (p : Port) (s : State) : State :=
  s.raise (toPortAndO p) .portRestored (BitVec.ofNat 8 (portCode p)) 0 0

/-- R167, R169. -/
def serviceConfirm (p : Port) (s : State) : State × Reply :=
  match (s.port p).service with
  | none => accept s
  | some d =>
    if !(s.port p).arm then refuse .noArm s
    else
      let t := s.modPort p fun q =>
        { q with lapsed := false, arm := false, expiry := some (after s.sys.uptime d.ms) }
      accept (if (s.port p).lapsed then raiseRestored p t else t)

/-- R166. -/
def configureService (p : Port) (period : Byte) (s : State) : State × Reply :=
  if (s.port p).configured then refuse .alreadySet s
  else
    match periodOf period with
    | none => refuse .badArgument s
    | some d =>
      accept (s.modPort p fun q =>
        { q with service := some d, configured := true, arm := false, expiry := some (after s.sys.uptime d.ms) })

/-! ### Lapse -/

/-- R168, R180. -/
def raiseLapsed (p : Port) (s : State) : State :=
  s.raise (toPortAndO p) .portLapsed (BitVec.ofNat 8 (portCode p))
    (BitVec.ofNat 16 (match (s.port p).service with | some d => d.seconds | none => 0)) 0

/-- R168: the blocks that hold the port's claims, the playout engine before the break-in selector. -/
def tearDown (p : Port) (s : State) : State :=
  match p with
  | .o => clearLive .o (playoutLapse .o s)
  | .e => talkLapse (clearLive .e (playoutLapse .e s))
  | .c => allocLapse s

/-- R168: the expiry of a LIVE port is reached. -/
def lapseDue (s : State) (p : Port) : Bool := !(s.port p).lapsed && reachedOpt s.sys.uptime (s.port p).expiry

/-- R168. -/
def portLapse (p : Port) (s : State) : State :=
  if lapseDue s p then
    let t := s.modPort p fun q => { q with lapsed := true, arm := false, expiry := none }
    settle s (tearDown p (raiseLapsed p t))
  else s

/-! ### READ EVENTS -/

/-- R171. -/
def readEvents (p : Port) (s : State) : State × Reply :=
  let q := s.port p
  let taken := q.queue.take Config.eventsPerRead
  let rest := q.queue.drop Config.eventsPerRead
  (s.modPort p fun q => { q with queue := rest, overflow := false },
    ⟨.ok, counted (taken.map EventRec.bytes) ++ b1 rest.length ++ fl q.overflow⟩)

/-! ### Commit -/

/-- R160 steps 1 to 3, R180. -/
def enterRun (s : State) : State :=
  ({ s with sys.part := .run, sys.fresh := false }).raise toEC .partState 0 1 (if s.sys.fresh then 1 else 0)

/-- R160, R16: every PRESENT segment is acquired. -/
def acquireIfPresent (k : SegId) (s : State) : State :=
  if (s.seg k).link = .present then acquireRecords k s else s

/-- R160 step 4, R55: acquisition, E, the grant rounds, reconciliation, the talk controller, the owners. -/
def commitBlocks (before s : State) : State :=
  let t := forSegs runRound (forSegs storeLimit (forSegs acquireIfPresent s))
  settle before (talkFinish before (reactBoth (forSegs reconcile t)))

/-- R160. -/
def commitSetup (s : State) : State × Reply :=
  if s.loop.n = 0 then refuse .badArgument s else accept (commitBlocks s (enterRun s))

/-! ### Resets -/

/-- R118: a warm reset keeps the closed messages. -/
def MsgRec.warm (r : MsgRec) : MsgRec := ⟨if r.content.isClosed then r.content else .empty, 0⟩

/-- R174, R175 and the reset tables of the blocks; a power-on reset empties the store and clears the accumulators. -/
def resetState (cause : ResetCause) (held : Bool) (s : State) : State :=
  let cold : Bool := cause = .powerOn
  { State.reset with
    sys := { part := .setup, cause := cause, fresh := cold || s.sys.fresh, uptime := 0, held := held },
    meter := if cold then State.reset.meter else .reset s.meter.energy s.meter.airtime,
    store := if cold then .reset else { s.store with dir := vall s.store.dir MsgRec.warm },
    inc := .reset s.inc.raw,
    plant := s.plant, draws := s.draws, pending := s.pending }

/-- R174: a power-on reset begins. -/
def beginPowerOn (s : State) : State := resetState .powerOn true s

/-- R174: a line reset begins, unless a power-on reset holds the part. -/
def beginLine (s : State) : State := if s.sys.held ∧ s.sys.cause = .powerOn then s else resetState .line true s

/-- R174: the cause of a power-on or line reset is gone, and the part starts. -/
def endReset (s : State) : State := if s.sys.held then { s with sys.held := false } else s

/-! ### The rows -/

def execReadEvents (p : Port) (s : State) : Host.Outcome State Fault Refusal :=
  .next (portCommand (.readEvents p) (readEvents p) s)

def execServiceArm (p : Port) (s : State) : Host.Outcome State Fault Refusal :=
  .next (portCommand (.serviceArm p) (serviceArm p) s)

def execServiceConfirm (p : Port) (s : State) : Host.Outcome State Fault Refusal :=
  .next (portCommand (.serviceConfirm p) (serviceConfirm p) s)

def execConfigureService (p : Port) (period : Byte) (s : State) : Host.Outcome State Fault Refusal :=
  .next (portCommand (.configureService p period) (configureService p period) s)

def execCommitSetup (p : Port) (s : State) : Host.Outcome State Fault Refusal :=
  .next (portCommand (.commitSetup p) commitSetup s)

/-- RESET_PART (R164, R174): its response is not kept. -/
def execResetPart (p : Port) (s : State) : Host.Outcome State Fault Refusal :=
  .next (match takePeriod (.resetPart p) s with
    | .ignored t => t
    | .refused t => t
    | .passed t _ _ => resetState .command false t)

/-- PORT_LAPSE (R168). -/
def execPortLapse (p : Port) (s : State) : Host.Outcome State Fault Refusal :=
  .next (if s.sys.held then s else portLapse p s)

/-- POWER_ON_RESET (R174). -/
def execPowerOnReset (s : State) : Host.Outcome State Fault Refusal := .next (beginPowerOn s)

/-- LINE_RESET (R174). -/
def execLineReset (s : State) : Host.Outcome State Fault Refusal := .next (beginLine s)

/-- RESET_END (R174, R175). -/
def execResetEnd (s : State) : Host.Outcome State Fault Refusal := .next (endReset s)

end Sys2Proof.Machine
end

