-- ==== Sys2Proof/Machine/Units.lean ====
section
/-! DEFINITION. The Bajacor line units and the loop between them (R1 to R8). A unit acts whether or not the T840 is held in
reset (R23). -/

namespace Sys2Proof.Machine

/-! ### Modes (R1 to R3) -/

def zeroHalves : Six Half := .all 0

/-- R1: what a downlink amplifier does. -/
inductive Downlink where
  | transmits (levels : Six Half)
  | muted
  | off
  deriving DecidableEq, Repr

/-- R1: ACTIVE transmits each entry at the stored level; STANDBY keeps the levels and is muted; DORMANT and OVERHEAT are off. -/
def LineUnit.downlink (u : LineUnit) : Downlink :=
  match u.mode with
  | .active => .transmits u.levels
  | .standby => .muted
  | .dormant => .off
  | .overheat => .off

/-- R1: the downlink at a loop position; off where no unit has its supply. -/
def State.downlink (s : State) (k : SegId) : Downlink :=
  match s.lineUnit k with
  | some u => u.downlink
  | none => .off

/-- R1: receivers alive and notices sent. -/
def receiving (m : UnitMode) : Bool := m = .active || m = .standby

/-- R1, R2: STANDBY is entered with levels zero; a HOT unit enters OVERHEAT at once. -/
def LineUnit.enterStandby (u : LineUnit) : LineUnit :=
  { u with mode := if u.temp = .hot then .overheat else .standby, levels := zeroHalves }

/-- R1, R3, R7: DORMANT is entered with levels zero and the rouse window closed. -/
def LineUnit.enterDormant (u : LineUnit) (forced : Bool) : LineUnit :=
  { u with mode := .dormant, forced := forced, levels := zeroHalves, rouse := none }

/-- R6: a target mode entered from ACTIVE or STANDBY. -/
def LineUnit.enter (u : LineUnit) (t : TargetMode) : LineUnit :=
  match t with
  | .active => { u with mode := .active }
  | .standby => u.enterStandby
  | .dormant => u.enterDormant false

/-! ### Links and frames -/

/-- The span of a unit's link. -/
def spanOf (k : SegId) : Side → Fin 25
  | .left => ⟨k.val, by omega⟩
  | .right => ⟨k.val + 1, by omega⟩

def linkUp (p : PlantRec) (k : SegId) (d : Side) : Bool := p.links[spanOf k d]

/-- R8, R181: a notice for one channel, numbered and sent out of both directions. -/
def sendNotice (k : SegId) (c : Chan) (s : State) : State :=
  match s.lineUnit k with
  | none => s
  | some u =>
    let r := (s.plant.rf[k]).get c
    let bytes := encodeNotice ⟨u.serial, u.seq + 1, c, r⟩
    let t := s.modLineUnit k fun u => { u with seq := u.seq + 1, refQ := u.refQ.set c (some r.quality) }
    (t.transmit (.unit k .left) bytes).transmit (.unit k .right) bytes

/-- R8: a carrier that is already up is reported when the receivers come alive. -/
def noticeIfUp (k : SegId) (c : Chan) (s : State) : State :=
  if ((s.plant.rf[k]).get c).carrier then sendNotice k c s else s

/-- R8: the unit has entered ACTIVE or STANDBY from DORMANT or OVERHEAT, or at its start-up (log 19). -/
def wakeReceivers (k : SegId) (s : State) : State :=
  match s.lineUnit k with
  | some u =>
    if receiving u.mode then
      noticeIfUp k .t2 (noticeIfUp k .t1 (s.modLineUnit k fun u => { u with refQ := .all none }))
    else s
  | none => s

/-- The unit at a position changes by `f`; where its receivers come alive, R8 applies. -/
def changeUnit (k : SegId) (f : LineUnit → LineUnit) (s : State) : State :=
  match s.lineUnit k with
  | none => s
  | some u =>
    let t := s.modLineUnit k f
    if !receiving u.mode && receiving (f u).mode then wakeReceivers k t else t

/-! ### Supply, temperature and uplink -/

/-- R1, R2, R3, R7, R8: start-up. -/
def unitSupplyApplied (k : SegId) (serial : Word) (temp : TempClass) (supply : Supply) (s : State) : State :=
  let u : LineUnit :=
    { serial := serial, mode := .standby, temp := temp, supply := supply, forced := false, levels := zeroHalves, seq := 0,
      rouse := none, refQ := .all none }
  let v := match supply with
    | .low => u.enterDormant true
    | .ok => u.enterStandby
  wakeReceivers k { s with plant.units := vupd s.plant.units k fun _ => some v }

/-- R2. -/
def LineUnit.takeTemperature (temp : TempClass) (u : LineUnit) : LineUnit :=
  let v := { u with temp := temp }
  match temp, u.mode with
  | .hot, .active => { v with mode := .overheat }
  | .hot, .standby => { v with mode := .overheat }
  | .hot, _ => v
  | _, .overheat => v.enterStandby
  | _, _ => v

/-- R3. -/
def LineUnit.takeSupply (supply : Supply) (u : LineUnit) : LineUnit :=
  match supply with
  | .ok => { u with supply := .ok }
  | .low =>
    match u.mode with
    | .dormant => { u with supply := .low, forced := true }
    | _ => ({ u with supply := .low }).enterDormant true

/-- R8: the difference of two qualities. -/
def qualityGap (a b : BitVec 4) : Nat := (a.toNat - b.toNat) + (b.toNat - a.toNat)

/-- R8: a channel's change asks for a notice. -/
def noticeDue (u : LineUnit) (c : Chan) (old new : UplinkRec) : Bool :=
  receiving u.mode &&
  (old.carrier != new.carrier ||
   match u.refQ.get c with
   | some q => decide (2 ≤ qualityGap q new.quality)
   | none => false)

/-- R8. -/
def unitUplinkChange (k : SegId) (c : Chan) (new : UplinkRec) (s : State) : State :=
  let t : State := { s with plant.rf := vupd s.plant.rf k fun p => p.set c new }
  match s.lineUnit k with
  | some u => if noticeDue u c ((s.plant.rf[k]).get c) new then sendNotice k c t else t
  | none => t

/-! ### Surveys (R4, R5) -/

/-- R4: HOLD. -/
def LineUnit.hold (u : LineUnit) : LineUnit :=
  match u.mode with
  | .active => u.enterStandby
  | .standby => { u with levels := zeroHalves }
  | _ => u

/-- R5. -/
def entryFor (u : LineUnit) (rf : Pair UplinkRec) (measured : Six Half) : SurveyEntry :=
  { serial := u.serial, mode := u.mode, forced := u.forced, temp := some u.temp, supply := u.supply,
    uplink := if receiving u.mode then rf.map some else .all none,
    measured := if u.mode = .active then some measured else none }

/-- R4: the link on which a survey from `origin` leaves the unit; none where it is discarded. -/
def surveyExit (p : PlantRec) (k : SegId) (origin : Side) : Option Side :=
  if linkUp p k origin.other then some origin.other else if linkUp p k origin then some origin else none

/-- R4. -/
def unitSurveyPass (k : SegId) (frame : List Byte) (measured : Six Half) (s : State) : State :=
  match s.lineUnit k, decodeSurvey frame with
  | some u, some f =>
    let v := if f.hold then u.hold else u
    let t := s.modLineUnit k fun _ => v
    let e := entryFor v (s.plant.rf[k]) measured
    match surveyExit s.plant k f.origin with
    | some d => t.transmit (.unit k d) (encodeSurvey { f with entries := f.entries ++ [e] })
    | none => t
  | _, _ => s

/-! ### Directives (R6, R7) -/

/-- R6: the sum of six levels. -/
def sixSum (v : Six Half) : Nat := (v.map (·.toNat)).total

/-- R7: the unit after a ROUSE, and its reply. -/
def LineUnit.rouseAt (u : LineUnit) (now : Nat) : LineUnit × Option ReplyOutcome :=
  if u.mode ≠ .dormant then (u, some (.ack u.mode))
  else
    match u.rouse with
    | none => ({ u with rouse := some now }, none)
    | some t =>
      if now - t < 5 ∨ 50 < now - t then ({ u with rouse := some now }, none)
      else
        match u.supply with
        | .low => ({ u with rouse := none }, some .supplyLow)
        | .ok =>
          (({ u with rouse := none, forced := false }).enterStandby, some (.ack .standby))

/-- R6: the checks of the unit that takes a directive, in their order. A unit in STANDBY that takes a MODE STANDBY answers ACK and
keeps its stored levels (DESIGN CHOICE, log 46): check 6 has it enter the mode, and the rule's last paragraph gives the answer alone. -/
def LineUnit.take (u : LineUnit) (now : Nat) (f : DirectiveFrame) : LineUnit × Option ReplyOutcome :=
  if u.serial ≠ f.serial then (u, some .wrongUnit)
  else
    match f.body with
    | .rouse => u.rouseAt now
    | .levels v =>
      if u.mode = .dormant then (u, some .asleep)
      else if Config.unitRating < sixSum v then (u, some .rating)
      else ({ u with levels := v }, some (.ack u.mode))
    | .mode t =>
      if u.mode = .dormant then (u, some .asleep)
      else if u.mode = .overheat ∨ u.mode = unitModeOf t then (u, some (.ack u.mode))
      else (u.enter t, some (.ack (u.enter t).mode))

/-- R6: the unit at which the hop count reaches zero takes the directive and replies over the link it came on. -/
def unitDirectiveTaken (k : SegId) (link : Side) (frame : List Byte) (s : State) : State :=
  match s.lineUnit k, decodeDirective frame with
  | some u, some f =>
    if f.hops = 1 then
      let r := u.take s.plant.clock f
      let t := changeUnit k (fun _ => r.1) s
      match r.2 with
      | some o => t.transmit (.unit k link) (encodeReply ⟨f.serial, o⟩)
      | none => t
    else s
  | _, _ => s

/-! ### What becomes of a frame on the loop (R4, R6, R8) -/

/-- Where a frame arrives; the rows of the arrivals are then taken with its bytes. -/
inductive Delivery where
  | atHead (port : Side) (bytes : List Byte)
  | atUnit (pos : SegId) (link : Side) (bytes : List Byte)
  | discarded
  deriving DecidableEq, Repr

/-- Spans `lo` to `hi − 1` are up and the units between them are alive. -/
def pathUp (p : PlantRec) (lo hi : Nat) : Bool :=
  ((List.finRange 25).all fun i => decide (i.val < lo) || decide (hi ≤ i.val) || p.links[i]) &&
  ((List.finRange 24).all fun k => decide (k.val < lo) || decide (hi ≤ k.val + 1) || (p.units[k]).isSome)

/-- A frame that units forward unchanged from a unit's link to the loop port on that side (R4, R6, R8). -/
def towardHead (p : PlantRec) (k : SegId) (d : Side) (bytes : List Byte) : Delivery :=
  let up := match d with
    | .left => pathUp p 0 (k.val + 1)
    | .right => pathUp p (k.val + 1) (plantSize p + 1)
  if up then .atHead d bytes else .discarded

/-- The unit at a position, where it has one. -/
def unitAt (p : PlantRec) (n : Nat) : Option SegId :=
  if h : n < 24 then (if (p.units[(⟨n, h⟩ : SegId)]).isSome then some ⟨n, h⟩ else none) else none

/-- R4: an outward survey reaches the next unit, or the opposite port. At a position of the loop without a supplied unit it is
discarded, though the unit before it, which judges the link alone, forwards it (DESIGN CHOICE, log 36). -/
def nextStop (p : PlantRec) (sender : Sender) (bytes : List Byte) : Delivery :=
  match sender with
  | .head .left => match unitAt p 0 with
    | some k => if pathUp p 0 1 then .atUnit k .left bytes else .discarded
    | none => if plantSize p = 0 ∧ pathUp p 0 1 then .atHead .right bytes else .discarded
  | .head .right => match unitAt p (plantSize p - 1) with
    | some k => if pathUp p (k.val + 1) (k.val + 2) then .atUnit k .right bytes else .discarded
    | none => if plantSize p = 0 ∧ pathUp p 0 1 then .atHead .left bytes else .discarded
  | .unit k .right =>
    if !linkUp p k .right then .discarded
    else match unitAt p (k.val + 1) with
      | some j => .atUnit j .left bytes
      | none => if k.val + 1 = plantSize p then .atHead .right bytes else .discarded
  | .unit k .left =>
    if !linkUp p k .left then .discarded
    else if k.val = 0 then .atHead .left bytes
    else match unitAt p (k.val - 1) with
      | some j => .atUnit j .right bytes
      | none => .discarded

/-- R4: a survey on its outward pass goes to the next unit; a folded one travels back to its origin port. -/
def deliverSurvey (p : PlantRec) (f : WireFrame) (origin : Side) : Delivery :=
  match f.sender with
  | .unit k d => if d = origin then towardHead p k d f.bytes else nextStop p f.sender f.bytes
  | .head _ => nextStop p f.sender f.bytes

/-- R6: each unit that a directive reaches reduces its hop count by one; the one at which it reaches zero takes it. -/
def deliverDirective (p : PlantRec) (port : Side) (f : DirectiveFrame) : Delivery :=
  let h := f.hops.toNat
  let n := plantSize p
  if h = 0 ∨ n < h then .discarded
  else
    match port, unitAt p (match port with | .left => h - 1 | .right => n - h) with
    | .left, some k => if pathUp p 0 h then .atUnit k .left (encodeDirective { f with hops := 1 }) else .discarded
    | .right, some k =>
      if pathUp p (n - h + 1) (n + 1) then .atUnit k .right (encodeDirective { f with hops := 1 }) else .discarded
    | _, none => .discarded

/-- R4, R6, R8, R181: what becomes of a frame put onto the loop. -/
def deliver (p : PlantRec) (f : WireFrame) : Delivery :=
  match decodeSurvey f.bytes, decodeDirective f.bytes, f.sender with
  | some v, _, _ => deliverSurvey p f v.origin
  | none, some d, .head port => deliverDirective p port d
  | none, _, .unit k d => towardHead p k d f.bytes
  | none, none, .head _ => .discarded

/-! ### The rows -/

/-- UNIT_SUPPLY_APPLIED (R1, R2, R3). -/
def execUnitSupplyApplied (pos : SegId) (serial : Word) (temp : TempClass) (supply : Supply) (s : State) :
    Host.Outcome State Fault Refusal :=
  .next (unitSupplyApplied pos serial temp supply s)

/-- UNIT_TEMPERATURE_CHANGE (R2). -/
def execUnitTemperatureChange (pos : SegId) (temp : TempClass) (s : State) : Host.Outcome State Fault Refusal :=
  .next (changeUnit pos (LineUnit.takeTemperature temp) s)

/-- UNIT_SUPPLY_CHANGE (R3). -/
def execUnitSupplyChange (pos : SegId) (supply : Supply) (s : State) : Host.Outcome State Fault Refusal :=
  .next (changeUnit pos (LineUnit.takeSupply supply) s)

/-- UNIT_SURVEY_PASS (R4, R5). -/
def execUnitSurveyPass (pos : SegId) (frame : List Byte) (measured : Six Half) (s : State) :
    Host.Outcome State Fault Refusal :=
  .next (unitSurveyPass pos frame measured s)

/-- UNIT_DIRECTIVE_TAKEN (R6, R7). -/
def execUnitDirectiveTaken (pos : SegId) (at_ : Side) (frame : List Byte) (s : State) :
    Host.Outcome State Fault Refusal :=
  .next (unitDirectiveTaken pos at_ frame s)

/-- UNIT_UPLINK_CHANGE (R8). -/
def execUnitUplinkChange (pos : SegId) (chan : Chan) (carrier : Bool) (quality : BitVec 4) (s : State) :
    Host.Outcome State Fault Refusal :=
  .next (unitUplinkChange pos chan ⟨carrier, quality⟩ s)

/-- LOOP_LINK_CHANGE (R4, R6). -/
def execLoopLinkChange (span : Fin 25) (up : Bool) (s : State) : Host.Outcome State Fault Refusal :=
  .next { s with plant.links := vupd s.plant.links span fun _ => up }

end Sys2Proof.Machine
end

