-- ==== Sys2Proof/Machine/Switch.lean ====
section
/-! DEFINITION. The stream switch (R85, R145, R146): what each path carries, as a function of the state. Streams are named by
their source (log 31). While the part is held in reset the switch stands as R174 says. -/

namespace Sys2Proof.Machine

/-- What a path can carry. -/
inductive Stream where
  /-- R145: the road programmes, from the FM receivers. -/
  | road
  /-- R145: the operations microphone of port O's controller. -/
  | operations
  /-- R146: the dispatcher microphone of the rescue gateway. -/
  | dispatcher
  /-- R85: the uplink audio of a segment on a talk channel. -/
  | uplink (c : Chan) (seg : SegId)
  /-- R85: the dispatch audio of a talk channel. -/
  | dispatchAudio (c : Chan)
  /-- R120: the bytes that a playout channel reads. -/
  | playout (c : PChan)
  /-- R146. -/
  | silence
  /-- R85: nothing. -/
  | nothing
  deriving DecidableEq, Repr

/-- The uplink audio of the voted segment. -/
def votedUplink (c : Chan) (t : TalkRec) : Stream :=
  match t.voted with
  | some k => .uplink c k
  | none => .nothing

/-- R85: the dispatch path of a talk channel. -/
def dispatchPath (s : State) (c : Chan) : Stream :=
  if s.sys.held then .nothing
  else
    match (s.chan c).floor with
    | .inbound => votedUplink c (s.chan c)
    | _ => .nothing

/-- R85: the downlink path of a talk channel into one segment. -/
def downlinkPath (s : State) (c : Chan) (k : SegId) : Stream :=
  if s.sys.held || !inSet (s.chan c).relay k then .nothing
  else
    match (s.chan c).floor with
    | .inbound => votedUplink c (s.chan c)
    | .outbound => .dispatchAudio c
    | _ => .nothing

/-- R146: a talk channel bridged into LIVE_E. -/
def bridged (s : State) (c : Chan) : Stream :=
  match (s.chan c).floor with
  | .inbound => votedUplink c (s.chan c)
  | .outbound => .dispatchAudio c
  | _ => .silence

/-- R146: the stream of LIVE_E's feed. -/
def liveEStream (s : State) : Stream :=
  match s.brk.liveE with
  | some l => match l.feed with
    | .dispatch => .dispatcher
    | .t1 => bridged s .t1
    | .t2 => bridged s .t2
  | none => .silence

/-- R145, R174: the broadcast-insert path of a segment's line unit. -/
def insertPath (s : State) (k : SegId) : Stream :=
  if s.sys.held then .road
  else
    match s.owner k with
    | .none => .road
    | .liveO => .operations
    | .liveE => liveEStream s
    | .p1 => .playout .p1
    | .p2 => .playout .p2
    | .p3 => .playout .p3
    | .p4 => .playout .p4

/-- R113: bytes `lo` to `hi − 1` of the message that a PLAYING channel reads. -/
def playedBytes (s : State) (c : PChan) (lo hi : Nat) : List Byte :=
  match (s.pchan c).state, (s.pchan c).message with
  | .playing, some i =>
    match (s.msg i).content.served? with
    | some m => memLoad s.store.mem m.first lo (min hi m.length - lo)
    | none => []
  | _, _ => []

/-- R120: the bytes that a playout channel puts out in the next millisecond, from its present message. -/
def playoutBytes (s : State) (c : PChan) : List Byte :=
  match (s.pchan c).cur, (readMs s (s.pchan c)).cur with
  | some q, some q' => playedBytes s c q.pos q'.pos
  | _, _ => []

/-- R120: the bytes of a message that began in the millisecond just past, put out in it right after those of the message
before (log 4). -/
def openingBytes (s : State) (c : PChan) : List Byte :=
  match (s.pchan c).cur with
  | some q => playedBytes s c 0 q.pos
  | none => []

end Sys2Proof.Machine
end

