-- ==== Sys2Proof/Machine/Reads.lean ====
section
/-! DEFINITION. The read commands of the port interface (R165, R173), the allocator (R60), the level monitor (R71, R77), the
talk controller (R103) and the playout engine (R133). The layouts follow R179; what it leaves open is log 11. -/

namespace Sys2Proof.Machine

/-! ### READ PART STATUS (R173) -/

/-- R173: LIVE or LAPSED, service, arm, expiry, records, overflow. -/
def portFields (q : PortRec) : List Byte :=
  fl q.lapsed ++ b1 (match q.service with | some d => d.seconds | none => 0) ++ fl q.arm ++ optField 4 (q.expiry.map be4) ++
  b1 q.queue.length ++ fl q.overflow

def senseCode : FireSense → Nat
  | .level => 0 | .edge => 1

/-- R158. -/
def incidentFields (r : IncRec) : List Byte :=
  b1 (claimsCode r.claims) ++ fl (levelFlag r.level) ++ b1 (fireCode r.filtered) ++ b1 (senseCode r.sense) ++ fl r.arm ++
  optField 1 (r.message.map fun i => [idByte i])

def priorityCode : Priority → Nat
  | .fixed => 0 | .rotating => 1

/-- R173: the segments 1 to N that are PRESENT. -/
def sightedCount (s : State) : Nat :=
  ((List.finRange 24).filter fun k => decide (k.val < s.loop.n) && decide ((s.seg k).link = .present)).length

/-- R173. -/
def readPartStatus (s : State) : State × Reply :=
  answer (b1 (partCode s.sys.part) ++ b1 (causeCode s.sys.cause) ++ fl s.sys.fresh ++ be4 s.sys.uptime ++ b1 s.loop.n ++
    b1 (sightedCount s) ++ portFields s.ports.o ++ portFields s.ports.e ++ portFields s.ports.c ++ incidentFields s.inc ++
    b1 (priorityCode s.brk.priority)) s

/-! ### READ SEGMENT (R165) -/

/-- R179: the six applied levels share one presence byte. -/
def appliedFields (v : Option (Six Nat)) : List Byte := optField 12 (v.map fun v => v.toList.flatMap b2)

/-- R165: the loop controller's record; acquired is sent as a flag, 1 for yes, and the reach as one byte without a presence byte
(DESIGN CHOICE, log 11). -/
def segFields (r : SegRec) : List Byte :=
  b1 (linkCode r.link) ++ b1 r.miss ++ optField 4 (r.serial.map be4) ++ fl r.acquired ++
  optField 1 (r.observed.map fun o => [modeCode o.mode]) ++ optField 1 (r.observed.map fun o => fl o.forced) ++
  optField 1 (r.observed.map fun o => [tempCode o.temp]) ++ optField 1 (r.observed.map fun o => [supplyCode o.supply]) ++
  b1 (reachCode r.reach) ++ [targetCode r.commanded] ++ b2 r.limit ++ b2 r.eff

/-- R12, R165: fold state and fold pair, 0 and 0 when WHOLE. -/
def foldFields : Fold → List Byte
  | .whole => b1 0 ++ b1 0 ++ b1 0
  | .folded a b => b1 1 ++ b1 a ++ b1 b

/-- R38, R165: the directive engine's unit record. The LEVELS slot is one byte without a presence byte, 0 for Empty, and the MODE slot
an optional field (DESIGN CHOICE, log 11). -/
def unitFields (u : UnitRec) : List Byte :=
  appliedFields u.applied ++ fl u.marked ++ optField 1 (u.inflight.map fun d => b1 (contentCode d.content)) ++
  optField 1 (u.inflight.map fun d => b1 (stepCode d.step)) ++ b1 (slotCode u.levelsSlot) ++
  optField 1 (u.modeSlot.map fun t => [targetCode t])

/-- R148, R165: the break-in selector's part. The owner is sent as the code of R180, 0 for NONE, and without a presence byte;
of the live break-in records LIVE_E comes before LIVE_O (DESIGN CHOICE, log 11). -/
def selectorFields (s : State) (k : SegId) : List Byte :=
  b1 (sourceCode (s.owner k)) ++ fl (bcGranted s k) ++ counted ((candidates s k).map fun x => b1 (sourceCode x)) ++
  liveEFields s.brk.liveE ++ liveOFields s.brk.liveO ++ b1 (priorityCode s.brk.priority)

/-- R165. -/
def readSegment (seg : Byte) (s : State) : State × Reply :=
  match segOf s seg with
  | none => refuse .badArgument s
  | some k =>
    answer (segFields (s.seg k) ++ foldFields s.loop.fold ++ b1 s.loop.derate ++ b2 s.loop.period ++
      unitFields (s.unit k) ++ b2 s.engine.rampStep ++ selectorFields s k) s

/-! ### READ ALLOCATION (R60) -/

def wantFields (w : Want) : List Byte := b2 w.f ++ b2 w.r

def carrierFields (e : CarrierEntry) (w : Want) : List Byte :=
  b2 e.floor ++ b2 e.request ++ fl e.suspended ++ wantFields w ++ b2 e.grant

def pointerCode : Carrier → Nat := carrierNumber

/-- R60: the segment as the allocator holds it, with effective limit `eff`; rescue activity is sent as a flag, 1 for in progress
(log 11). -/
def allocationFields (al : AllocRec) (eff : Nat) (a : AllocSeg) : List Byte :=
  let w := wantsOf al eff a
  b2 eff ++ b2 (carrierCap eff al.capPct) ++ b1 al.capPct ++ b1 (pointerCode a.ptr) ++ fl (levelFlag al.level) ++
  fl al.activity ++
  carrierFields a.c.c1 w.c.c1 ++ carrierFields a.c.c2 w.c.c2 ++ carrierFields a.c.c3 w.c.c3 ++ carrierFields a.c.c4 w.c.c4 ++
  b2 a.rs.floor ++ b2 a.rs.ifloor ++ b2 a.rs.qIdle ++ b2 a.rs.qActive ++ wantFields w.rs ++ b2 a.rs.grant ++
  b2 a.bc.floor ++ b2 a.bc.ifloor ++ b2 a.bc.request ++ wantFields w.bc ++ b2 a.bc.grant

/-- R60. -/
def readAllocation (seg : Byte) (s : State) : State × Reply :=
  match segOf s seg with
  | none => refuse .badArgument s
  | some k => answer (allocationFields s.alloc (s.seg k).eff (s.aseg k)) s

/-! ### READ ALERTS (R71) -/

def alertModeCode : AlertMode → Nat
  | .transparent => 0 | .latched => 1

def basisCode : Basis → Nat
  | .raw => 0 | .averaged => 1

/-- R71: one entry of a segment; the present condition is two flags, OVER and then UNDER (DESIGN CHOICE, log 11). -/
def alertFields (s : State) (k : SegId) (e : Entry) : List Byte :=
  let x := (s.meters k).get e
  b1 (alertModeCode x.mode) ++ b1 (basisCode x.basis) ++ fl x.overFlag ++ fl x.underFlag ++ fl x.isOver ++ fl x.isUnder ++
  optField 2 (x.raw.map b2) ++ optField 2 ((averaged s.meter.policy.n x.history).map b2) ++
  optField 2 ((s.unit k).applied.map fun v => b2 (v.get e)) ++ b1 x.settle ++
  match e.carrier? with
  | some c => b1 x.count ++ fl ((s.aseg k).c.get c).suspended
  | none => []

/-- R71: the clearing that a port's read makes in one segment. -/
def clearRead (p : Port) (k : SegId) (s : State) : State :=
  s.modMeters k fun v => Six.build fun e => if ownerPort e = p then (v.get e).readClear else v.get e

/-- R71. -/
def readAlerts (p : Port) (segs : SegSet) (s : State) : State × Reply :=
  if setOk s segs then
    (forSet segs (clearRead p) s,
      ⟨.ok, (setMembers segs).flatMap fun k => Entry.every.flatMap fun e => alertFields s k e⟩)
  else refuse .badArgument s

/-! ### READ ACCUMULATORS (R77) -/

/-- R77. -/
def readAccumulators (s : State) : State × Reply :=
  let e (a : EnergyAcc) : List Byte := be6 a.value ++ fl a.wrapped
  let t (a : AirtimeAcc) : List Byte := be4 a.value ++ fl a.wrapped
  answer (e s.meter.energy.c1 ++ e s.meter.energy.c2 ++ e s.meter.energy.c3 ++ e s.meter.energy.c4 ++
    t s.meter.airtime.t1 ++ t s.meter.airtime.t2) s

/-! ### READ TALK (R103) -/

/-- R94: the TOT expiry of a channel; none while no limit is in force. -/
def totExpiryOf (s : State) (c : Chan) : Option Word :=
  match (s.chan c).totStart, limitInForce s.talk with
  | some st, some l => some (after st (l * 1000))
  | _, _ => none

/-- R103: one channel. -/
def talkFields (s : State) (c : Chan) : List Byte :=
  let t := s.chan c
  b1 (floorCode t.floor) ++ b1 (sideCode t.pending) ++ optField 1 (t.hangSide.map fun d => b1 (sideCode (some d))) ++
  b1 (keyCode t.key) ++ optField 1 (t.voted.map segField) ++ optField 4 (t.totStart.map be4) ++
  optField 4 ((totExpiryOf s c).map be4) ++ optField 4 (t.hangExpiry.map be4) ++ b2 ((limitInForce s.talk).getD 0) ++
  be3 t.coverage ++ be3 t.barred ++ be3 t.relay ++ be3 (eligibleSet s c)

def uplinkFields (u : UplinkRec) : List Byte := fl u.carrier ++ [u.quality.zeroExtend 8]

/-- R103: one segment. -/
def uplinkTableFields (s : State) (k : SegId) : List Byte :=
  uplinkFields (s.upl k).t1 ++ uplinkFields (s.upl k).t2 ++ optField 1 ((s.talk.seq[k]).map fun q => [q])

/-- R103. -/
def readTalk (chans : Byte) (s : State) : State × Reply :=
  if 1 ≤ chans.toNat ∧ chans.toNat ≤ 3 then
    answer ((if chans.getLsbD 0 then talkFields s .t1 else []) ++ (if chans.getLsbD 1 then talkFields s .t2 else []) ++
      b2 s.talk.hangMs ++ b2 s.talk.totS ++ b2 s.talk.itotS ++
      ((List.finRange 24).filter fun k => decide (k.val < s.loop.n)).flatMap (uplinkTableFields s)) s
  else refuse .badArgument s

/-! ### READ PLAYOUT (R133) -/

def kindCode : PlayKind → Nat
  | .play => 0 | .check => 1

/-- R133: kind, mode, playlist and zone set, after one presence byte for the program (log 11). -/
def programFields : Option Program → List Byte
  | some p =>
    b1 1 ++ b1 (kindCode p.kind) ++ fl p.repeats ++ counted (p.playlist.map fun i => [idByte i]) ++
    optField 3 (match p.kind with | .play => some (be3 p.zone) | .check => none)
  | none => b1 0 ++ b1 0 ++ b1 0 ++ b1 0 ++ optField 3 none

/-- R133: one channel; whether P1 is held by INCIDENT is one part-wide flag, sent in the record of every channel (DESIGN CHOICE,
log 11). -/
def playFields (s : State) (c : PChan) : List Byte :=
  let r := s.pchan c
  b1 (playStateCode r.state) ++
  optField 1 (match r.owner with | .none => none | w => some (b1 (playOwnerCode w))) ++ fl r.finish ++
  fl s.play.p1Held ++ programFields r.program ++
  optField 1 (r.cur.map fun q => b1 (q.index + 1)) ++ optField 1 (r.message.map fun i => [idByte i]) ++
  optField 1 (r.message.map fun i => b1 (msgStateCode (s.msg i).content)) ++ optField 4 (r.cur.map fun q => b4 q.pos) ++
  optField 2 (match r.state, r.cur with | .checking, some q => some (be2 q.sum) | _, _ => none)

/-- R133. -/
def readPlayout (chans : Byte) (s : State) : State × Reply :=
  if 1 ≤ chans.toNat ∧ chans.toNat ≤ 15 then
    answer ((if chans.getLsbD 0 then playFields s .p1 else []) ++ (if chans.getLsbD 1 then playFields s .p2 else []) ++
      (if chans.getLsbD 2 then playFields s .p3 else []) ++ (if chans.getLsbD 3 then playFields s .p4 else []) ++
      counted (s.play.rotation.map fun c => b1 (pchanCode c))) s
  else refuse .badArgument s

/-! ### The rows -/

def execReadPartStatus (p : Port) (s : State) : Host.Outcome State Fault Refusal :=
  .next (portCommand (.readPartStatus p) readPartStatus s)

def execReadSegment (p : Port) (seg : Byte) (s : State) : Host.Outcome State Fault Refusal :=
  .next (portCommand (.readSegment p seg) (readSegment seg) s)

def execReadAllocation (p : Port) (seg : Byte) (s : State) : Host.Outcome State Fault Refusal :=
  .next (portCommand (.readAllocation p seg) (readAllocation seg) s)

def execReadAlerts (p : Port) (segs : SegSet) (s : State) : Host.Outcome State Fault Refusal :=
  .next (portCommand (.readAlerts p segs) (readAlerts p segs) s)

def execReadAccumulators (p : Port) (s : State) : Host.Outcome State Fault Refusal :=
  .next (portCommand (.readAccumulators p) readAccumulators s)

def execReadTalk (p : Port) (chans : Byte) (s : State) : Host.Outcome State Fault Refusal :=
  .next (portCommand (.readTalk p chans) (readTalk chans) s)

def execReadPlayout (p : Port) (chans : Byte) (s : State) : Host.Outcome State Fault Refusal :=
  .next (portCommand (.readPlayout p chans) (readPlayout chans) s)

end Sys2Proof.Machine
end

