-- ==== Sys2Proof/Machine/Frames.lean ====
section
/-! DEFINITION. A chip-select period by its bytes (R161 to R163), and the rows FETCH and FRAME_ERROR. A period whose bytes are
a command's frame is that command, whatever row it is written as (log 9). -/

namespace Sys2Proof.Machine

/-- R163: the meaning of the command that a frame spells; no change for a row that is no command. -/
def takeCommand (i : Instr) (s : State) : Host.Outcome State Fault Refusal :=
  match i with
  | .readPartStatus p => execReadPartStatus p s
  | .readEvents p => execReadEvents p s
  | .serviceArm p => execServiceArm p s
  | .serviceConfirm p => execServiceConfirm p s
  | .configureService p period => execConfigureService p period s
  | .setSegmentCount p count => execSetSegmentCount p count s
  | .setLimit p seg limit => execSetLimit p seg limit s
  | .setDerate p percent => execSetDerate p percent s
  | .setFloors p segs floors => execSetFloors p segs floors s
  | .setIncidentFloors p segs rs bc => execSetIncidentFloors p segs rs bc s
  | .setCarrierCap p percent => execSetCarrierCap p percent s
  | .setRampStep p step => execSetRampStep p step s
  | .setSurveyPeriod p ms => execSetSurveyPeriod p ms s
  | .setMeterPolicy p n tol settle persist => execSetMeterPolicy p n tol settle persist s
  | .setFireSense p sense => execSetFireSense p sense s
  | .setPlayoutPriority p mode => execSetPlayoutPriority p mode s
  | .commitSetup p => execCommitSetup p s
  | .setUnitMode p seg mode => execSetUnitMode p seg mode s
  | .setBroadcastRequest p segs request => execSetBroadcastRequest p segs request s
  | .resetPart p => execResetPart p s
  | .setRescueRequest p segs qIdle qActive => execSetRescueRequest p segs qIdle qActive s
  | .setCoverage p chan segs => execSetCoverage p chan segs s
  | .setTalkTimers p hang tot incidentTot => execSetTalkTimers p hang tot incidentTot s
  | .key p chan priority => execKey p chan priority s
  | .unkey p chan => execUnkey p chan s
  | .readTalk p chans => execReadTalk p chans s
  | .setCarrierRequest p operator segs request => execSetCarrierRequest p operator segs request s
  | .readSegment p seg => execReadSegment p seg s
  | .readAllocation p seg => execReadAllocation p seg s
  | .readAlerts p segs => execReadAlerts p segs s
  | .setAlertMode p segs entry mode basis => execSetAlertMode p segs entry mode basis s
  | .readAccumulators p => execReadAccumulators p s
  | .resetAccumulators p accs => execResetAccumulators p accs s
  | .declareIncident p => execDeclareIncident p s
  | .clearIncident p claim => execClearIncident p claim s
  | .setIncidentMessage p id => execSetIncidentMessage p id s
  | .startBreakIn p zone feed => execStartBreakIn p zone feed s
  | .stopBreakIn p => execStopBreakIn p s
  | .openMessage p id length tag => execOpenMessage p id length tag s
  | .writeChunk p id offset chunk => execWriteChunk p id offset chunk s
  | .closeMessage p id checksum => execCloseMessage p id checksum s
  | .deleteMessage p id => execDeleteMessage p id s
  | .readDirectory p first count => execReadDirectory p first count s
  | .readChunk p id offset length => execReadChunk p id offset length s
  | .programPlayout p chan kind mode zone playlist => execProgramPlayout p chan kind mode zone playlist s
  | .startPlayout p chan => execStartPlayout p chan s
  | .stopPlayout p chan => execStopPlayout p chan s
  | .readPlayout p chans => execReadPlayout p chans s
  | _ => .next s

/-- R161: a fetch shifts the holding record out and leaves it EMPTY. -/
def fetchPeriod (p : Port) (bytes : List Byte) (s : State) : State :=
  s.modPort p fun q => { q.shift bytes with holding := .none }

/-- R162, R163: a frame that is not taken; the answer echoes its first byte. -/
def refusedPeriod (p : Port) (bytes : List Byte) (st : Status) (echo : Byte) (s : State) : State :=
  (s.modPort p fun q => q.shift bytes).hold p echo (.plain st)

/-- R161 to R163: a period on a port, by the bytes shifted in. -/
def chipSelect (p : Port) (bytes : List Byte) (s : State) : Host.Outcome State Fault Refusal :=
  if s.sys.held then .next s
  else
    match readPeriod p bytes with
    | .fetched => .next (fetchPeriod p bytes s)
    | .badFrame first => .next (refusedPeriod p bytes .frameError first s)
    | .unknown code => .next (refusedPeriod p bytes .badArgument code s)
    | .command i => takeCommand i s

/-- FETCH (R161). -/
def execFetch (p : Port) (bytes : List Byte) (s : State) : Host.Outcome State Fault Refusal := chipSelect p bytes s

/-- FRAME_ERROR (R162, R163). -/
def execFrameError (p : Port) (bytes : List Byte) (s : State) : Host.Outcome State Fault Refusal := chipSelect p bytes s

end Sys2Proof.Machine
end

