-- ==== Sys2Proof/Machine/Dispatch.lean ====
section
/-! DEFINITION. One arm for each row of spec/opcode_table.json. -/

namespace Sys2Proof.Machine

def exec (i : Instr) (s : State) : Host.Outcome State Fault Refusal :=
  match i with
  | .fetch p bytes => Sys2Proof.Machine.execFetch p bytes s
  | .frameError p bytes => Sys2Proof.Machine.execFrameError p bytes s
  | .readPartStatus p => Sys2Proof.Machine.execReadPartStatus p s
  | .readEvents p => Sys2Proof.Machine.execReadEvents p s
  | .serviceArm p => Sys2Proof.Machine.execServiceArm p s
  | .serviceConfirm p => Sys2Proof.Machine.execServiceConfirm p s
  | .configureService p period => Sys2Proof.Machine.execConfigureService p period s
  | .setSegmentCount p count => Sys2Proof.Machine.execSetSegmentCount p count s
  | .setLimit p seg limit => Sys2Proof.Machine.execSetLimit p seg limit s
  | .setDerate p percent => Sys2Proof.Machine.execSetDerate p percent s
  | .setFloors p segs floors => Sys2Proof.Machine.execSetFloors p segs floors s
  | .setIncidentFloors p segs rs bc => Sys2Proof.Machine.execSetIncidentFloors p segs rs bc s
  | .setCarrierCap p percent => Sys2Proof.Machine.execSetCarrierCap p percent s
  | .setRampStep p step => Sys2Proof.Machine.execSetRampStep p step s
  | .setSurveyPeriod p ms => Sys2Proof.Machine.execSetSurveyPeriod p ms s
  | .setMeterPolicy p n tol settle persist => Sys2Proof.Machine.execSetMeterPolicy p n tol settle persist s
  | .setFireSense p sense => Sys2Proof.Machine.execSetFireSense p sense s
  | .setPlayoutPriority p mode => Sys2Proof.Machine.execSetPlayoutPriority p mode s
  | .commitSetup p => Sys2Proof.Machine.execCommitSetup p s
  | .setUnitMode p seg mode => Sys2Proof.Machine.execSetUnitMode p seg mode s
  | .setBroadcastRequest p segs request => Sys2Proof.Machine.execSetBroadcastRequest p segs request s
  | .resetPart p => Sys2Proof.Machine.execResetPart p s
  | .setRescueRequest p segs qIdle qActive => Sys2Proof.Machine.execSetRescueRequest p segs qIdle qActive s
  | .setCoverage p chan segs => Sys2Proof.Machine.execSetCoverage p chan segs s
  | .setTalkTimers p hang tot incidentTot => Sys2Proof.Machine.execSetTalkTimers p hang tot incidentTot s
  | .key p chan priority => Sys2Proof.Machine.execKey p chan priority s
  | .unkey p chan => Sys2Proof.Machine.execUnkey p chan s
  | .readTalk p chans => Sys2Proof.Machine.execReadTalk p chans s
  | .setCarrierRequest p operator segs request => Sys2Proof.Machine.execSetCarrierRequest p operator segs request s
  | .readSegment p seg => Sys2Proof.Machine.execReadSegment p seg s
  | .readAllocation p seg => Sys2Proof.Machine.execReadAllocation p seg s
  | .readAlerts p segs => Sys2Proof.Machine.execReadAlerts p segs s
  | .setAlertMode p segs entry mode basis => Sys2Proof.Machine.execSetAlertMode p segs entry mode basis s
  | .readAccumulators p => Sys2Proof.Machine.execReadAccumulators p s
  | .resetAccumulators p accs => Sys2Proof.Machine.execResetAccumulators p accs s
  | .declareIncident p => Sys2Proof.Machine.execDeclareIncident p s
  | .clearIncident p claim => Sys2Proof.Machine.execClearIncident p claim s
  | .setIncidentMessage p id => Sys2Proof.Machine.execSetIncidentMessage p id s
  | .startBreakIn p zone feed => Sys2Proof.Machine.execStartBreakIn p zone feed s
  | .stopBreakIn p => Sys2Proof.Machine.execStopBreakIn p s
  | .openMessage p id length tag => Sys2Proof.Machine.execOpenMessage p id length tag s
  | .writeChunk p id offset chunk => Sys2Proof.Machine.execWriteChunk p id offset chunk s
  | .closeMessage p id checksum => Sys2Proof.Machine.execCloseMessage p id checksum s
  | .deleteMessage p id => Sys2Proof.Machine.execDeleteMessage p id s
  | .readDirectory p first count => Sys2Proof.Machine.execReadDirectory p first count s
  | .readChunk p id offset length => Sys2Proof.Machine.execReadChunk p id offset length s
  | .programPlayout p chan kind mode zone playlist => Sys2Proof.Machine.execProgramPlayout p chan kind mode zone playlist s
  | .startPlayout p chan => Sys2Proof.Machine.execStartPlayout p chan s
  | .stopPlayout p chan => Sys2Proof.Machine.execStopPlayout p chan s
  | .readPlayout p chans => Sys2Proof.Machine.execReadPlayout p chans s
  | .surveyRound => Sys2Proof.Machine.execSurveyRound s
  | .surveyArrival at_ frame => Sys2Proof.Machine.execSurveyArrival at_ frame s
  | .surveyTimeout origin => Sys2Proof.Machine.execSurveyTimeout origin s
  | .uplinkNotice at_ frame => Sys2Proof.Machine.execUplinkNotice at_ frame s
  | .directiveIssue seg => Sys2Proof.Machine.execDirectiveIssue seg s
  | .directiveReply at_ frame => Sys2Proof.Machine.execDirectiveReply at_ frame s
  | .replyTimeout seg => Sys2Proof.Machine.execReplyTimeout seg s
  | .rouseWaitExpiry seg => Sys2Proof.Machine.execRouseWaitExpiry seg s
  | .hangExpiry chan => Sys2Proof.Machine.execHangExpiry chan s
  | .totExpiry chan => Sys2Proof.Machine.execTotExpiry chan s
  | .airtimeMark => Sys2Proof.Machine.execAirtimeMark s
  | .messageEnd chan => Sys2Proof.Machine.execMessageEnd chan s
  | .checkMessageEnd chan => Sys2Proof.Machine.execCheckMessageEnd chan s
  | .fireLineChange asserted => Sys2Proof.Machine.execFireLineChange asserted s
  | .fireFilterExpiry => Sys2Proof.Machine.execFireFilterExpiry s
  | .portLapse p => Sys2Proof.Machine.execPortLapse p s
  | .powerOnReset => Sys2Proof.Machine.execPowerOnReset s
  | .lineReset => Sys2Proof.Machine.execLineReset s
  | .resetEnd => Sys2Proof.Machine.execResetEnd s
  | .unitSupplyApplied pos serial temp supply => Sys2Proof.Machine.execUnitSupplyApplied pos serial temp supply s
  | .unitTemperatureChange pos temp => Sys2Proof.Machine.execUnitTemperatureChange pos temp s
  | .unitSupplyChange pos supply => Sys2Proof.Machine.execUnitSupplyChange pos supply s
  | .unitSurveyPass pos frame measured => Sys2Proof.Machine.execUnitSurveyPass pos frame measured s
  | .unitDirectiveTaken pos at_ frame => Sys2Proof.Machine.execUnitDirectiveTaken pos at_ frame s
  | .unitUplinkChange pos chan carrier quality => Sys2Proof.Machine.execUnitUplinkChange pos chan carrier quality s
  | .loopLinkChange span up => Sys2Proof.Machine.execLoopLinkChange span up s

end Sys2Proof.Machine
end

