-- ==== Sys2Proof/Machine/Time.lean ====
section
/-! DEFINITION. The part's own time (log 1, 3, 4): which of its rows have fallen due, and what one millisecond does. The idle
step of Step.lean uses these. -/

namespace Sys2Proof.Machine

/-! ### What has fallen due -/

/-- A row that is due when a condition holds. -/
def dueIf (b : Bool) (i : Instr) : List Instr := if b then [i] else []

/-- R9, R10: the survey round and the two surveys. -/
def loopRows (s : State) : List Instr :=
  dueIf (roundDue s) .surveyRound ++ dueIf (surveyDue s .left) (.surveyTimeout .left) ++
  dueIf (surveyDue s .right) (.surveyTimeout .right)

/-- R26, R29, R33: the rows of one segment. -/
def engineRows (s : State) (k : SegId) : List Instr :=
  dueIf (issueDue s k) (.directiveIssue k) ++ dueIf (windowClosed s.sys.uptime (s.unit k)) (.replyTimeout k) ++
  dueIf (waitEnded s.sys.uptime (s.unit k)) (.rouseWaitExpiry k)

/-- R93, R94: the rows of one talk channel. -/
def talkRows (s : State) (c : Chan) : List Instr := dueIf (hangDue s c) (.hangExpiry c) ++ dueIf (totDue s c) (.totExpiry c)

/-- R127, R128: the rows of one playout channel. -/
def playRows (s : State) (c : PChan) : List Instr :=
  dueIf (endDue s .playing c) (.messageEnd c) ++ dueIf (endDue s .checking c) (.checkMessageEnd c)

/-- R75, R154, R168. -/
def otherRows (s : State) : List Instr :=
  dueIf (markDue s) .airtimeMark ++ dueIf (fireDue s) .fireFilterExpiry ++ dueIf (lapseDue s .o) (.portLapse .o) ++
  dueIf (lapseDue s .e) (.portLapse .e) ++ dueIf (lapseDue s .c) (.portLapse .c)

/-- Every row of the part's own that has fallen due; none while it is held in reset. -/
def dueRows (s : State) : List Instr :=
  if s.sys.held then []
  else
    loopRows s ++ (List.finRange 24).flatMap (engineRows s) ++ [Chan.t1, .t2].flatMap (talkRows s) ++
    PChan.every.flatMap (playRows s) ++ otherRows s

/-! ### One millisecond -/

/-- R24, R29: a quiet time that is reached has passed. -/
def UnitRec.settleQuiet (now : Word) (u : UnitRec) : UnitRec :=
  if quietPassed now u then { u with quiet := none } else u

/-- R173, R120: the counters and the playout channels go on; the loop is clear of the frames of the last millisecond. -/
def tick (s : State) : State :=
  if s.sys.held then { s with plant.clock := s.plant.clock + 1, wire := [] }
  else
    let now := s.sys.uptime + 1
    { s with sys.uptime := now, plant.clock := s.plant.clock + 1, wire := [],
             play.chans := s.play.chans.map (readMs s),
             engine.units := vall s.engine.units (UnitRec.settleQuiet now) }

/-- The idle step: one of the rows due is put into the queue, or a millisecond passes. Where several are due, the free value
`Config.pick` names the one taken first (log 2). -/
def idle (s : State) : State :=
  match dueRows s with
  | [] => tick s
  | [i] => { s with pending := [i] }
  | i :: is =>
    { s with pending := [((i :: is)[Config.pick s.draws % (i :: is).length]?).getD i], draws := s.draws + 1 }

end Sys2Proof.Machine
end

