-- ==== Sys2Proof/WellFormed.lean ====
section
/-! DEFINITION. When a command is one that its row describes. Operand values out of range are NOT ill-formed: the part
answers them with a status code. Ill-formed is only what its row cannot be. -/

namespace Sys2Proof

/-- R161: a fetch shifts in 0 to 3 whole bytes.
R162: FRAME_ERROR has 4 or more, and is no frame of a command (log 9).
R178: a chunk has 1 to 256 bytes and a playlist 1 to 8 identifiers, or the frame is not that command's.
R5: a serial is never 0. -/
def Instr.wellFormed : Instr → Bool
  | .fetch _ bytes => bytes.length ≤ 3
  | .frameError p bytes =>
    match readPeriod p bytes with
    | .badFrame _ => true
    | .unknown _ => true
    | .fetched => false
    | .command _ => false
  | .writeChunk _ _ _ chunk => chunkLengthOk chunk
  | .programPlayout _ _ _ _ _ playlist => playlistLengthOk playlist
  | .unitSupplyApplied _ serial _ _ => serial != 0
  | _ => true

end Sys2Proof
end

