-- ==== Sys2Proof/Safety.lean ====
section
/-! DEFINITION. The words that the statements of Sys2Proof/Certificates use: when a command is handed to its block, what its
period leaves on its port, what the end of an event may change, when a timed row is due, what a survey evaluation does, and the
properties that every step keeps. -/

namespace Sys2Proof.Machine

/-! ### A command and its answer -/

/-- R163, R174: the command is well-formed, the part is not held in reset, and the command passes the checks of the port
interface. -/
def Ready (i : Instr) (s : State) : Prop :=
  i.wellFormed = true ∧ s.sys.held = false ∧
  match commandFields i with
  | some (p, _, _) => admissionFailure (admissionOf i) p (s.port p).lapsed s.sys.part = none
  | none => False

/-- R164: the permission table: code; ports O, E and C; taken while LAPSED. -/
def permissionTable : List (Byte × Admission) :=
  [(0x01, ⟨.both, .both, .both, true⟩), (0x02, ⟨.both, .both, .both, true⟩), (0x03, ⟨.both, .both, .both, true⟩),
   (0x04, ⟨.both, .both, .both, true⟩), (0x05, ⟨.both, .both, .both, false⟩)] ++
  [(0x10, ⟨.setup, .never, .never, false⟩), (0x11, ⟨.both, .never, .never, false⟩), (0x12, ⟨.both, .never, .never, false⟩),
   (0x13, ⟨.both, .never, .never, false⟩), (0x14, ⟨.both, .never, .never, false⟩), (0x15, ⟨.both, .never, .never, false⟩),
   (0x16, ⟨.both, .never, .never, false⟩), (0x17, ⟨.both, .never, .never, false⟩), (0x18, ⟨.both, .never, .never, false⟩),
   (0x19, ⟨.setup, .never, .never, false⟩), (0x1a, ⟨.setup, .never, .never, false⟩), (0x1b, ⟨.setup, .never, .never, false⟩),
   (0x1c, ⟨.both, .never, .never, false⟩), (0x1d, ⟨.both, .never, .never, false⟩), (0x1e, ⟨.both, .never, .never, false⟩)] ++
  [(0x20, ⟨.never, .run, .never, false⟩), (0x21, ⟨.never, .run, .never, false⟩), (0x22, ⟨.never, .run, .never, false⟩),
   (0x23, ⟨.never, .run, .never, false⟩), (0x24, ⟨.never, .run, .never, false⟩), (0x25, ⟨.both, .both, .both, true⟩),
   (0x28, ⟨.never, .never, .run, false⟩)] ++
  [(0x30, ⟨.both, .both, .both, true⟩), (0x31, ⟨.both, .both, .both, true⟩), (0x32, ⟨.both, .both, .both, true⟩),
   (0x33, ⟨.both, .run, .run, false⟩), (0x34, ⟨.both, .both, .both, true⟩), (0x35, ⟨.both, .never, .never, false⟩),
   (0x38, ⟨.both, .run, .never, false⟩), (0x39, ⟨.both, .run, .never, false⟩), (0x3a, ⟨.both, .never, .never, false⟩)] ++
  [(0x40, ⟨.both, .run, .never, false⟩), (0x41, ⟨.both, .run, .never, false⟩), (0x48, ⟨.both, .never, .never, false⟩),
   (0x49, ⟨.both, .never, .never, false⟩), (0x4a, ⟨.both, .never, .never, false⟩), (0x4b, ⟨.both, .never, .never, false⟩),
   (0x4c, ⟨.both, .both, .never, true⟩), (0x4d, ⟨.both, .both, .never, true⟩), (0x50, ⟨.both, .run, .never, false⟩),
   (0x51, ⟨.both, .run, .never, false⟩), (0x52, ⟨.both, .run, .never, false⟩), (0x53, ⟨.both, .both, .both, true⟩)]

/-- R161: the state with the command's period shifted through its port, and this answer in the holding record. -/
def served (i : Instr) (st : Status) (payload : List Byte) (s : State) : State :=
  match commandFields i with
  | some (p, code, bytes) => (s.modPort p fun q => q.shift (commandFrame code bytes)).hold p code ⟨st, payload⟩
  | none => s

/-- The entries of every segment of a set, written by `f`. -/
def writeSet (m : SegSet) (f : AllocSeg → AllocSeg) (s : State) : State :=
  { s with alloc.segs := Vector.ofFn fun k : SegId => if inSet m k then f s.alloc.segs[k] else s.alloc.segs[k] }

/-! ### What the end of an event may change -/

/-- A segment record but for its effective limit. -/
def SegRec.settings (r : SegRec) : SegRec := { r with eff := 0 }
/-- A unit record but for its LEVELS slot. -/
def UnitRec.settings (u : UnitRec) : UnitRec := { u with levelsSlot := .empty }
/-- The entries of a segment but for grants and rotation pointer. -/
def AllocSeg.settings (a : AllocSeg) : AllocSeg := { a.withGrants zeroLevels with ptr := .c1 }
/-- A talk channel record but for its relay set. -/
def TalkRec.settings (t : TalkRec) : TalkRec := { t with relay := 0 }
/-- A port record but for its event queue. -/
def PortRec.settings (q : PortRec) : PortRec := { q with queue := [], overflow := false }

/-- From `s` to `t` nothing changes but what effective limits, grant rounds, rescue activity, relay sets, LEVELS requests,
segment owners, the holding, resumption and end of playout channels, and events write (R21, R52, R53, R47, R84, R25, R144). -/
structure Undisturbed (s t : State) : Prop where
  sys : t.sys = s.sys
  store : t.store = s.store
  inc : t.inc = s.inc
  plant : t.plant = s.plant
  wire : t.wire = s.wire
  lastMark : t.lastMark = s.lastMark
  draws : t.draws = s.draws
  pending : t.pending = s.pending
  meter : t.meter = s.meter
  loop : { t.loop with segs := s.loop.segs } = s.loop
  seg : ∀ k, (t.seg k).settings = (s.seg k).settings
  ramp : t.engine.rampStep = s.engine.rampStep
  unit : ∀ k, (t.unit k).settings = (s.unit k).settings
  cap : t.alloc.capPct = s.alloc.capPct
  level : t.alloc.level = s.alloc.level
  aseg : ∀ k, (t.aseg k).settings = (s.aseg k).settings
  talk : { t.talk with chans := s.talk.chans } = s.talk
  chan : ∀ c, (t.chan c).settings = (s.chan c).settings
  port : ∀ p, (t.port p).settings = (s.port p).settings
  brk : { t.brk with owners := s.brk.owners } = s.brk
  program : ∀ c, (t.pchan c).program = (s.pchan c).program
  held : t.play.p1Held = s.play.p1Held
  rotation : t.play.rotation = s.play.rotation

/-- The command ends in a next state that differs from "`w` with this answer served" by no more than the end of an event may
change. -/
def Answers (i : Instr) (s : State) (st : Status) (payload : List Byte) (w : State) : Prop :=
  ∃ t, exec i s = .next t ∧ Undisturbed (served i st payload w) t

/-- The row ends in a next state that differs from `w` by no more than the end of an event may change. -/
def Becomes (i : Instr) (s w : State) : Prop := ∃ t, exec i s = .next t ∧ Undisturbed w t

/-- The block refuses the command with this code: nothing changes but the port's record and pins (R163, R177). -/
def Refuses (i : Instr) (s : State) (st : Status) : Prop := exec i s = .next (served i st [] s)

/-- R48, R52, R54: in RUN one grant round, on the inputs of `w`, gives grants and pointer in the segments 1 to N that `P`
names; the other allocation entries stay. -/
def RoundsAt (w t : State) (P : SegId → Prop) : Prop :=
  ∀ k, (P k ∧ w.sys.part = .run ∧ k.val < w.loop.n →
      t.aseg k = { (w.aseg k).withGrants (w.roundResult k).1 with ptr := (w.roundResult k).2 }) ∧
    (¬ (P k ∧ w.sys.part = .run ∧ k.val < w.loop.n) → t.aseg k = w.aseg k)

/-- R54: an effective floor or request of the segment is not what it was under `old`. -/
def WantsChanged (old : AllocRec) (w : State) (k : SegId) : Prop :=
  wantsOf old (w.seg k).eff old.segs[k] ≠ wantsOf w.alloc (w.seg k).eff (w.aseg k)

/-- From `w` to `t` only the event queues change. -/
def OnlyEvents (w t : State) : Prop := { t with ports := w.ports } = w ∧ ∀ p, (t.port p).settings = (w.port p).settings

/-! ### The part's own time -/

/-- The rows that stand for a moment of the part's own time. -/
def isTimed : Instr → Bool
  | .surveyRound | .surveyTimeout _ | .directiveIssue _ | .replyTimeout _ | .rouseWaitExpiry _ | .hangExpiry _ | .totExpiry _
  | .airtimeMark | .messageEnd _ | .checkMessageEnd _ | .fireFilterExpiry | .portLapse _ => true
  | _ => false

/-- A moment is reached: it lies less than half the range of the uptime counter back (log 25). -/
def MomentReached (s : State) (x : Option Word) : Prop := ∃ w, x = some w ∧ (s.sys.uptime - w).toNat < 2147483648

/-- A channel in this state has read its message: the position has reached the byte length (R120). -/
def MessageOver (s : State) (c : PChan) (st : PlayState) : Prop :=
  (s.pchan c).state = st ∧ ∃ q, (s.pchan c).cur = some q ∧
    (∀ i, (s.pchan c).message = some i → (s.msg i).content.length ≤ q.pos)

/-- When each timed row falls due: R9, R10, R26, R29, R33, R93, R94, R75, R127, R128, R154 and R168. -/
def TimerDue (s : State) : Instr → Prop
  | .surveyRound => s.loop.timerPeriod ≤ (s.sys.uptime - s.loop.timerStart).toNat
  | .surveyTimeout d => ∃ sent, s.loop.surveys.side d = .inFlight sent ∧ 40 ≤ (s.sys.uptime - sent).toNat
  | .directiveIssue k =>
    s.sys.part = .run ∧ (s.seg k).link = .present ∧ (s.unit k).inflight = none ∧
    ((s.unit k).quiet = none ∨ MomentReached s (s.unit k).quiet) ∧
    ((s.unit k).levelsSlot = .zeroReset ∨ (s.unit k).levelsSlot = .levels ∧ (s.unit k).applied.isSome = true ∨
      ∃ m, (s.unit k).modeSlot = some m ∧ modeHeldBack (s.seg k) = false ∧
        (m = .active ∨ (s.unit k).applied = some (.all 0)))
  | .replyTimeout k => ∃ d, (s.unit k).inflight = some d ∧ MomentReached s d.window
  | .rouseWaitExpiry k => ∃ d, (s.unit k).inflight = some d ∧ d.step = .rouseWait ∧ MomentReached s d.waitUntil
  | .hangExpiry c => (s.chan c).floor = .hang ∧ MomentReached s (s.chan c).hangExpiry
  | .totExpiry c => ∃ start, (s.chan c).totStart = some start ∧
    ((s.talk.level = .normal ∧ s.talk.totS * 1000 ≤ (s.sys.uptime - start).toNat) ∨
      (s.talk.level = .incident ∧ s.talk.itotS ≠ 0 ∧ s.talk.itotS * 1000 ≤ (s.sys.uptime - start).toNat))
  | .airtimeMark => s.sys.uptime.toNat % 100 = 0 ∧ s.lastMark ≠ some s.sys.uptime
  | .messageEnd c => MessageOver s c .playing
  | .checkMessageEnd c => MessageOver s c .checking
  | .fireFilterExpiry =>
    s.inc.filtered ≠ (if s.inc.raw then .asserted else .deasserted) ∧ 50 ≤ (s.sys.uptime - s.inc.changedAt).toNat
  | .portLapse p => (s.port p).lapsed = false ∧ MomentReached s (s.port p).expiry
  | _ => False

/-! ### The floor tables of a talk channel -/

/-- R93: the channel leaves its floor on this side. -/
def floorHang (now : Word) (hangMs : Nat) (side : TalkSide) (t : TalkRec) : TalkRec :=
  { t with floor := if hangMs = 0 then .idle else .hang, voted := none, pending := none,
           hangSide := if hangMs = 0 then none else some side, totStart := none,
           hangExpiry := if hangMs = 0 then none else some (after now hangMs) }

/-- R88, R94: the inbound side takes the floor. -/
def floorIn (now : Word) (vote : Option SegId) (pending : Option TalkSide) (t : TalkRec) : TalkRec :=
  { t with floor := .inbound, voted := vote, pending := pending, hangSide := none, totStart := some now, hangExpiry := none }

/-- R90, R94: the outbound side takes the floor. -/
def floorOut (now : Word) (pending : Option TalkSide) (t : TalkRec) : TalkRec :=
  { t with floor := .outbound, voted := none, pending := pending, hangSide := none, totStart := some now,
           hangExpiry := none }

/-- R88, R89, R83: a channel with or without an inbound claim; `vote` and `kept` are the vote on entry and the revised vote. -/
def floorTable (now : Word) (hangMs : Nat) (claim : Bool) (vote kept : Option SegId) (t : TalkRec) : TalkRec :=
  match t.floor, claim with
  | .idle, true => floorIn now vote none t
  | .idle, false => t
  | .inbound, true => { t with voted := kept }
  | .inbound, false => if t.pending = some .outbound then floorOut now none t else floorHang now hangMs .inbound t
  | .outbound, _ => { t with pending := if claim then some .inbound else none }
  | .hang, _ =>
    if t.hangSide = some .outbound then { t with pending := if claim then some .inbound else none }
    else if claim then floorIn now vote t.pending t else t

/-- R92: a channel leaves OUTBOUND. -/
def floorEnd (now : Word) (hangMs : Nat) (vote : Option SegId) (t : TalkRec) : TalkRec :=
  if t.pending = some .inbound then floorIn now vote none t else floorHang now hangMs .outbound t

/-- R90 to R92: floor state, pending side and key state, as the answers to KEY and UNKEY carry them. -/
def talkReply (t : TalkRec) : List Byte := b1 (floorCode t.floor) ++ b1 (sideCode t.pending) ++ b1 (keyCode t.key)

/-- R21: E is what the record gives, in every segment 1 to N. -/
def LimitsRight (s : State) : Prop :=
  ∀ k : SegId, k.val < s.loop.n → (s.seg k).eff = limitOf (s.seg k) (s.unit k).marked s.loop.derate

/-- R6, R28: the frame of a directive for unit k, out of a loop port. -/
def directiveOut (s : State) (k : SegId) (d : Side) (body : DirectiveBody) : WireFrame :=
  ⟨.head d, encodeDirective ⟨BitVec.ofNat 8 (match d with | .left => k.val + 1 | .right => s.loop.n - k.val),
    ((s.seg k).serial).getD 0, body⟩⟩

/-! ### A survey evaluation -/

/-- R16: in RUN a round that has seen this here acquires the unit. -/
def acquires (s : State) (k : SegId) (seen : Option SurveyEntry) : Bool :=
  match seen with
  | some e => decide (s.sys.part = .run) && !((s.seg k).acquired && decide ((s.seg k).serial = some e.serial))
  | none => false

/-- R37, R15 numbers 4, 7 and 9: the unit is lost, or another one stands here. -/
def loses (s : State) (k : SegId) (seen : Option SurveyEntry) : Bool :=
  match (s.seg k).link, seen with
  | .present, some e => decide ((s.seg k).serial ≠ some e.serial)
  | .missing, some e => decide ((s.seg k).serial ≠ some e.serial)
  | .missing, none => decide (2 ≤ (s.seg k).miss)
  | _, _ => false

/-- R36: the unit seen before is seen to have become DORMANT, or to have left OVERHEAT (log 27). -/
def zeroes (s : State) (k : SegId) (seen : Option SurveyEntry) : Bool :=
  match (s.seg k).observed, seen with
  | some o, some e =>
    decide ((s.seg k).link = .present ∨ (s.seg k).link = .missing) && decide ((s.seg k).serial = some e.serial) &&
    decide (o.mode ≠ .dormant ∧ e.mode = .dormant ∨ o.mode = .overheat ∧ e.mode ≠ .overheat)
  | _, _ => false

/-- R63: an entry with the measured level that the round carries for it, if any. -/
def MeterEntry.carried (x : Entry) (seen : Option SurveyEntry) (m : MeterEntry) : MeterEntry :=
  match seen.bind (·.measured) with
  | some v =>
    { m with raw := some (v.get x).toNat, history := (m.history ++ [(v.get x).toNat]).drop (m.history.length - 63) }
  | none => m

/-- What the evaluation does to the loop controller's record of a segment (R15, R16, R21), with its uplink records (R79, R81). -/
structure RecordEvaluated (seen : Option SurveyEntry) (reach : Reach) (k : SegId) (s t : State) : Prop where
  /-- Every row of R15 for a seen position, and the acquisition of R16; an unassigned temperature code is some class (log 42). -/
  sighted : ∀ e, seen = some e → ∃ temp, (∀ c, e.temp = some c → temp = c) ∧ t.seg k = { s.seg k with
    link := .present, miss := 0, serial := some e.serial, observed := some ⟨e.mode, e.forced, temp, e.supply⟩,
    acquired := decide (s.sys.part = .run) || (s.seg k).acquired && decide ((s.seg k).serial = some e.serial),
    reach := reach, eff := (t.seg k).eff }
  /-- Every row of R15 for an unseen position. -/
  missed : seen = none →
    ((s.seg k).link = .unseen ∨ (s.seg k).link = .lost → t.seg k = { s.seg k with reach := reach, eff := (t.seg k).eff }) ∧
    ((s.seg k).link = .present →
      t.seg k = { s.seg k with reach := reach, eff := (t.seg k).eff, link := .missing, miss := 1 }) ∧
    ((s.seg k).link = .missing → (s.seg k).miss = 1 →
      t.seg k = { s.seg k with reach := reach, eff := (t.seg k).eff, miss := 2 }) ∧
    ((s.seg k).link = .missing → (s.seg k).miss = 2 → t.seg k = { s.seg k with
      reach := reach, eff := (t.seg k).eff, link := .lost, observed := none, acquired := false, miss := 0 })
  limit : (t.seg k).eff = limitOf (t.seg k) (t.unit k).marked s.loop.derate
  /-- By each channel's own presence bit (log 44). -/
  uplinkSeen : ∀ e, seen = some e → t.upl k = e.uplink.map fun u => u.getD .cleared
  uplinkGone : seen = none → t.upl k = if (s.seg k).link = .present then .all .cleared else s.upl k
  noticeSeq : t.talk.seq[k] = if acquires s k seen then none else s.talk.seq[k]

/-- What the evaluation does to the metering records of a segment (R16, R63, R65, R66, R72). -/
structure MeterEvaluated (seen : Option SurveyEntry) (k : SegId) (s t : State) : Prop where
  /-- R16: an acquisition leaves neither raw level nor history, those of its own round included (DEDUCED, log 14); an entry whose
  applied level was known is suspended. -/
  acquired : acquires s k seen = true → ∀ x,
    ((t.meters k).get x).raw = none ∧ ((t.meters k).get x).history = [] ∧
    ((s.unit k).applied.isSome = true → ((t.meters k).get x).settle = 0 ∧ ((t.meters k).get x).isOver = false ∧
      ((t.meters k).get x).isUnder = false ∧ ((t.meters k).get x).count = 0)
  /-- In RUN an acquired segment whose entry carries measured levels has each entry compared after its level is recorded; the
  carrier entries that this suspends are those that `compareEntry` suspends. -/
  compared : s.sys.part = .run → acquires s k seen = false → (seen.bind (·.measured)).isSome = true → zeroes s k seen = false →
    (s.unit k).marked = false → (s.unit k).inflight = none →
    let w := s.modMeters k fun v => Six.build fun x => (v.get x).carried x seen
    (∀ x, (t.meters k).get x = ((compareEntry k w x).meters k).get x) ∧
    ∀ c : Carrier, ((t.aseg k).c.get c).suspended = (((compareEntry k w c.entry).aseg k).c.get c).suspended
  /-- Elsewhere the level is recorded, and a change of the applied levels starts a holdoff or suspends the entry. -/
  notCompared : acquires s k seen = false → s.sys.part = .setup ∨ (seen.bind (·.measured)).isSome = false →
    ∀ x, (t.meters k).get x = (((s.meters k).get x).carried x seen).appliedChange s.meter.policy.settle
      ((s.unit k).applied.map fun v => v.get x) ((t.unit k).applied.map fun v => v.get x)

/-- What the evaluation does to the unit record of a segment (R20, R25, R29, R35, R36, R37). -/
structure UnitEvaluated (seen : Option SurveyEntry) (k : SegId) (s t : State) : Prop where
  setup : s.sys.part = .setup →
    let u : UnitRec := if loses s k seen then { s.unit k with inflight := none, levelsSlot := .empty, modeSlot := none }
      else s.unit k
    t.unit k = if zeroes s k seen then { u with applied := some (.all 0) } else u
  /-- R37, R25: a loss ends the directive in flight and empties both slots; the grant round of its E then queues a LEVELS where the
  applied levels are known and not 0. One that another unit replaces has the ZERO-RESET of the acquisition. -/
  dropped : s.sys.part = .run → loses s k seen = true →
    (seen = none → t.unit k = { s.unit k with inflight := none, levelsSlot := (t.unit k).levelsSlot, modeSlot := none } ∧
      ((s.seg k).eff ≠ 0 → (t.aseg k).grants = .all 0 ∧ (t.unit k).levelsSlot ≠ .zeroReset ∧
        ((t.unit k).levelsSlot = .levels ↔
          (s.unit k).marked = false ∧ ∃ v, (s.unit k).applied = some v ∧ v ≠ .all 0)) ∧
      ((s.seg k).eff = 0 → t.alloc.activity = s.alloc.activity → (t.unit k).levelsSlot = .empty)) ∧
    (seen.isSome = true → (t.unit k).inflight = none ∧ (t.unit k).levelsSlot = .zeroReset ∧ (t.unit k).marked = false ∧
      (t.unit k).applied = none)
  /-- An unmarked unit with nothing in flight: acquisition, the evaluation check of R25 and the reconciliation of R20. -/
  calm : s.sys.part = .run → (s.unit k).inflight = none → (s.unit k).marked = false →
    let asked := (t.seg k).link = .present ∧ ∃ o, (t.seg k).observed = some o ∧
      o.mode ≠ unitModeOf (t.seg k).commanded ∧ o.mode ≠ .overheat ∧ heldDormant o = false
    (t.unit k).inflight = none ∧ (t.unit k).marked = false ∧ (t.unit k).quiet = (s.unit k).quiet ∧
    (t.unit k).applied = (if acquires s k seen then none else if zeroes s k seen then some (.all 0) else (s.unit k).applied) ∧
    (acquires s k seen = true → (t.unit k).levelsSlot = .zeroReset) ∧
    ((t.seg k).link = .present → (t.unit k).applied = none → (s.unit k).levelsSlot = .empty →
      (t.unit k).levelsSlot = .zeroReset) ∧
    ((t.seg k).link = .present → ∀ v, (t.unit k).applied = some v → v ≠ (t.aseg k).grants →
      (t.unit k).levelsSlot ≠ .empty) ∧
    (t.unit k).modeSlot =
      if asked then some (t.seg k).commanded else if loses s k seen then none else (s.unit k).modeSlot
  /-- R35: a marked unit with nothing in flight that is seen again, its quiet time past, is probed. -/
  probed : s.sys.part = .run → (s.unit k).inflight = none → (s.unit k).marked = true → acquires s k seen = false →
    ∀ e, seen = some e → quietPassed s.sys.uptime (s.unit k) = true →
    (e.mode = .dormant → (t.unit k).marked = false ∧ (t.unit k).applied = some (.all 0) ∧ (t.unit k).inflight = none) ∧
    (e.mode ≠ .dormant → (t.unit k).marked = true ∧
      (t.unit k).inflight = some ⟨.probe, false, .main, 1, preferredSide s.loop.n k (t.seg k).reach, none,
        some (s.sys.uptime + 10), none, false, .noReply⟩ ∧
      directiveOut t k (preferredSide s.loop.n k (t.seg k).reach) (.levels (.all 0)) ∈ t.wire)
  /-- R29: a paused directive goes on at the return of the same unit, on the side of the new reach; attempt 3 needs both sides
  (DEDUCED, log 17), and one that had begun keeps its side (log 38). -/
  resumed : s.sys.part = .run → (s.seg k).link = .missing → ∀ e, seen = some e → (s.seg k).serial = some e.serial →
    ∀ d, (s.unit k).inflight = some d → ∀ n, d.paused = some n →
    (n ≠ 3 ∨ (t.seg k).reach = .both →
      let last := if d.attempt = 3 then d.side.other else d.side
      let side := attemptSide s.loop.n k (t.seg k).reach n last
      (t.unit k).inflight = some { d with
        attempt := n, side := side, paused := none, awake := false, step := if d.rouse then .rouseWait else .main,
        window := if d.rouse then none else some (s.sys.uptime + 10),
        waitUntil := if d.rouse then some (s.sys.uptime + 10) else none } ∧
      directiveOut t k side (if d.rouse then .rouse else d.content.body) ∈ t.wire) ∧
    (n = 3 → (t.seg k).reach ≠ .both → ∀ d', (t.unit k).inflight = some d' → d'.content = .probe)

/-- R11, R12, R15 to R17, R20, R21, R25, R47, R54, R63, R74, R81: what the evaluation of a round whose surveys ended so has made
of `s`. -/
structure Evaluated (l r : SurveyOutcome) (s t : State) : Prop where
  loop : t.loop = { s.loop with surveys := .all .none, fold := (sighting s.loop.n l r).fold,
                                mismatch := (sighting s.loop.n l r).mismatch, segs := t.loop.segs }
  record : ∀ k : SegId, k.val < s.loop.n →
    RecordEvaluated ((sighting s.loop.n l r).seen k) ((sighting s.loop.n l r).reach k) k s t
  meters : ∀ k : SegId, k.val < s.loop.n → MeterEvaluated ((sighting s.loop.n l r).seen k) k s t
  unit : ∀ k : SegId, k.val < s.loop.n → UnitEvaluated ((sighting s.loop.n l r).seen k) k s t
  /-- Segments above N stay. -/
  beyond : ∀ k : SegId, s.loop.n ≤ k.val →
    t.seg k = s.seg k ∧ t.meters k = s.meters k ∧ t.unit k = s.unit k ∧ t.aseg k = s.aseg k ∧ t.upl k = s.upl k
  /-- R88, R89, R83: each floor follows the claim that the new records give, with the segments released that lost their carrier. -/
  floors : ∀ c, let w : State := { t with talk.chans := s.talk.chans }.modChan c fun ch =>
      { ch with barred := ch.barred &&& ~~~(setOf fun k => decide (k.val < s.loop.n) && ((s.upl k).get c).carrier &&
        (acquires s k ((sighting s.loop.n l r).seen k) || !((t.upl k).get c).carrier)) }
    (t.chan c).settings = (floorTable s.sys.uptime s.talk.hangMs (eligibleSet w c ≠ 0) (bestVote w c) (revote w c)
      (w.chan c)).settings
  talk : { t.talk with chans := s.talk.chans, uplink := s.talk.uplink, seq := s.talk.seq } = s.talk
  activity : t.alloc.activity = (decide ((t.chan .t1).floor ≠ .idle) || decide ((t.chan .t2).floor ≠ .idle))
  /-- R54: where neither rescue activity nor a suspension nor a mark changes, a segment has a round exactly where its E changes. -/
  grants : ∀ k : SegId, k.val < s.loop.n → s.sys.part = .run → t.alloc.activity = s.alloc.activity →
    (s.unit k).inflight = none → (s.unit k).marked = false →
    (∀ c, ((t.aseg k).c.get c).suspended = ((s.aseg k).c.get c).suspended) →
    ((t.seg k).eff = (s.seg k).eff → t.aseg k = s.aseg k) ∧
    ((t.seg k).eff ≠ (s.seg k).eff →
      let x := grantRound (t.seg k).eff (wantsOf s.alloc (t.seg k).eff (s.aseg k)) (s.aseg k).ptr
      t.aseg k = { (s.aseg k).withGrants x.1 with ptr := x.2 })
  quietAlloc : s.sys.part = .setup → ∀ k, t.aseg k = s.aseg k
  energy : ∀ c, (t.meter.energy.get c).value = (s.meter.energy.get c).value +
    if s.sys.part = .run then BitVec.ofNat 48
      ((((List.finRange 24).filter fun k => decide (k.val < s.loop.n)).map fun k => ((s.aseg k).c.get c).grant).sum *
        (s.loop.timerPeriod / 10)) else 0
  /-- Directives go out in RUN alone. -/
  wire : ∃ sent, t.wire = s.wire ++ sent ∧ (s.sys.part = .setup → sent = [])
  airtime : t.meter.airtime = s.meter.airtime
  policy : t.meter.policy = s.meter.policy
  sys : t.sys = s.sys
  store : t.store = s.store
  inc : t.inc = s.inc
  plant : t.plant = s.plant

/-! ### Properties that every step keeps -/

/-- R105: the message memory is in canonical form (log 10). -/
def MemoryCanonical (s : State) : Prop := Memory.wf s.store.mem = true

/-- R170: an event queue holds at most 32 records. -/
def QueuesBounded (s : State) : Prop := ∀ p, (s.port p).queue.length ≤ 32

/-- R150: the level is INCIDENT exactly when the claim set is not empty. -/
def LevelFollowsClaims (s : State) : Prop :=
  s.inc.level = .incident ↔ s.inc.claims.ops = true ∨ s.inc.claims.rescue = true ∨ s.inc.claims.line = true

/-- R142: every segment has the owner that its candidates and its broadcast grant give it. -/
def OwnersRight (s : State) : Prop := ∀ k, s.owner k = ownerNow s k

/-- R84: a relay set is the segments of the coverage set whose RS grant is above 0. -/
def RelaysRight (s : State) : Prop :=
  ∀ c k, inSet (s.chan c).relay k = true ↔ inSet (s.chan c).coverage k = true ∧ 0 < (s.aseg k).rs.grant

/-- R48, R55: the grants of a segment never exceed E; in SETUP every grant is 0. -/
def GrantsBounded (s : State) : Prop :=
  (∀ k : SegId, k.val < s.loop.n → (s.aseg k).grants.total ≤ (s.seg k).eff) ∧
  (s.sys.part = .setup → ∀ k, (s.aseg k).grants = zeroLevels)

/-- R87, R101: KEYED exactly in OUTBOUND or with pending outbound, and only while port E is LIVE; no side is pending in IDLE,
and the hang side is not pending in HANG (R86). -/
def KeysRight (s : State) : Prop :=
  ∀ c, ((s.chan c).key = .keyed ↔ (s.chan c).floor = .outbound ∨ (s.chan c).pending = some .outbound) ∧
    ((s.chan c).key = .keyed → s.ports.e.lapsed = false) ∧
    ((s.chan c).floor = .idle → (s.chan c).pending = none) ∧
    ((s.chan c).floor = .hang → (s.chan c).hangSide = some .outbound → (s.chan c).pending ≠ some .outbound)

/-- R9, R14, R22, R27, R44, R73, R98: settings stay in their ranges. -/
def SettingsInRange (s : State) : Prop :=
  s.loop.n ≤ 24 ∧ (s.sys.part = .run → 1 ≤ s.loop.n) ∧
  50 ≤ s.loop.period ∧ s.loop.period ≤ 1000 ∧ s.loop.period % 10 = 0 ∧
  25 ≤ s.loop.derate ∧ s.loop.derate ≤ 100 ∧ (∀ k, (s.seg k).limit ≤ 8000) ∧
  50 ≤ s.engine.rampStep ∧ s.engine.rampStep ≤ 2000 ∧ s.alloc.capPct ≤ 100 ∧
  (s.meter.policy.n = 1 ∨ s.meter.policy.n = 4 ∨ s.meter.policy.n = 16 ∨ s.meter.policy.n = 64) ∧
  s.meter.policy.tol ≤ 50 ∧ s.meter.policy.settle ≤ 15 ∧ s.meter.policy.persist ≤ 15 ∧
  s.talk.hangMs ≤ 5000 ∧ s.talk.hangMs % 100 = 0 ∧ 10 ≤ s.talk.totS ∧ s.talk.totS ≤ 600 ∧ s.talk.itotS ≤ 600

/-- R105, R106: the runs of the messages lie in the 1024 blocks, one block at least each, and do not overlap. -/
def RunsApart (s : State) : Prop :=
  (∀ i m, (s.msg i).content.body? = some m → 1 ≤ m.blocks ∧ m.first + m.blocks ≤ Config.blockCount) ∧
  ∀ i j m m', i ≠ j → (s.msg i).content.body? = some m → (s.msg j).content.body? = some m' →
    m.first + m.blocks ≤ m'.first ∨ m'.first + m'.blocks ≤ m.first

end Sys2Proof.Machine
end

