-- ==== Sys2Proof/Certificates/Slice0/Obligations.lean ====
section
/-! DEFINITION. The statements about the T840, for the provers. The words they use stand in Sys2Proof/Safety.lean. -/

open Sys2Proof Sys2Proof.Machine

/-! ### Steps and periods -/

/-- A step takes the command at the front of the queue and runs it on the state with the queue's rest; and (MODEL'S CHOICE, log 30,
from R163) no row stops the machine. -/
def Obligations.StepTakesFront : Prop :=
  (∀ (c : Instr) (s : State),
    step { s with pending := c :: s.pending } = exec c s ∧
    ∀ rest, s.pending = c :: rest → step s = exec c { s with pending := rest }) ∧
  ∀ (i : Instr) (s : State), ∃ t, exec i s = .next t

/-- MODEL'S CHOICE (log 1, 2, 3, 4) over the rules that time the part's own rows: when each of them is due, that one which is not
due changes nothing, and what the idle step does: it queues a row that is due (`Config.pick` names it where several are), or lets
a millisecond pass, in which the playout channels read on (R120) and quiet times pass (R24). -/
def Obligations.IdleStep : Prop :=
  (∀ (s : State) (i : Instr), i ∈ dueRows s ↔ s.sys.held = false ∧ TimerDue s i) ∧
  (∀ (s : State) (i : Instr), isTimed i = true → i ∉ dueRows s → exec i s = .next s) ∧
  ∀ s : State, s.pending = [] →
    ∃ t, step s = .next t ∧
      (dueRows s ≠ [] → ∃ i ∈ dueRows s, t.pending = [i] ∧ { t with pending := [], draws := s.draws } = s) ∧
      (dueRows s = [] →
        { t with sys := s.sys, plant := s.plant, play := s.play, engine := s.engine, wire := s.wire } = s ∧
        t.sys = { s.sys with uptime := if s.sys.held then s.sys.uptime else s.sys.uptime + 1 } ∧
        t.plant = { s.plant with clock := s.plant.clock + 1 } ∧ t.wire = [] ∧
        { t.engine with units := s.engine.units } = s.engine ∧
        (∀ k, t.unit k = { s.unit k with
          quiet := if s.sys.held = false ∧ quietPassed (s.sys.uptime + 1) (s.unit k) = true then none
            else (s.unit k).quiet }) ∧
        { t.play with chans := s.play.chans } = s.play ∧
        ∀ c, let r := s.pchan c
          (s.sys.held = true ∨ r.state = .idle ∨ r.state = .held ∨ r.message = none → t.pchan c = r) ∧
          ∀ i, r.message = some i →
            ((s.msg i).content.isClosed = false → t.pchan c = r) ∧
            ∀ q, r.cur = some q → ∀ m declared damaged, (s.msg i).content = .closed m declared damaged →
              let n (units : Nat) : Nat := min ((q.frac + units) / 125) (m.length - q.pos)
              let moved (units : Nat) : Cursor := { q with pos := q.pos + n units, frac := q.frac + units - 125 * n units }
              (s.sys.held = false → r.state = .playing → t.pchan c = { r with cur := some (moved 2000) }) ∧
              (s.sys.held = false → r.state = .checking → t.pchan c = { r with
                cur := some { moved 131072 with
                  sum := q.sum + checksum (memLoad s.store.mem m.first q.pos (n 131072)) } }))

/-- R162: when a frame is refused with FRAME_ERROR, and what the refusal leaves. -/
def Obligations.FrameErrors : Prop :=
  (∀ (code : Byte) (payload : List Byte),
    commandFrame code payload = [code] ++ be2 (BitVec.ofNat 16 payload.length) ++ payload ++
      [- byteSum ([code] ++ be2 (BitVec.ofNat 16 payload.length) ++ payload)] ∧
    byteSum (commandFrame code payload) = 0) ∧
  ∀ (p : Port) (bytes : List Byte) (s : State), s.sys.held = false → 4 ≤ bytes.length →
    let size := (bytes.getD 1 0).toNat * 256 + (bytes.getD 2 0).toNat
    (bytes.length ≠ 4 + size ∨ 264 < size ∨ byteSum bytes ≠ 0 →
      exec (.frameError p bytes) s =
        .next ((s.modPort p fun q => q.shift bytes).hold p (bytes.headD 0) (.plain .frameError))) ∧
    (bytes.length = 4 + size ∧ size ≤ 264 ∧ byteSum bytes = 0 →
      readPeriod p bytes = .unknown (bytes.headD 0) ∨ ∃ i, readPeriod p bytes = .command i)

/-- R161, R163: a fetch empties the holding record and shifts its bytes out; a frame of no command is answered BAD_ARGUMENT;
MODEL'S CHOICE (log 9): a period whose bytes are a command's frame is that command. -/
def Obligations.PeriodByItsBytes : Prop :=
  ∀ (p : Port) (bytes : List Byte) (s : State), s.sys.held = false →
    (bytes.length ≤ 3 →
      exec (.fetch p bytes) s =
        .next (s.modPort p fun q => { q with holding := ⟨.empty, 0, []⟩, rx := bytes, tx := q.holding.bytes.take bytes.length })) ∧
    (∀ code, readPeriod p bytes = .unknown code →
      exec (.frameError p bytes) s = .next ((s.modPort p fun q => q.shift bytes).hold p code (.plain .badArgument))) ∧
    ∀ i, readPeriod p bytes = .command i → exec (.frameError p bytes) s = exec i s

/-- Section 12.1 (R177): the bytes of a response, of EMPTY and of the example frame; what a period shifts out. -/
def Obligations.ResponseFrames : Prop :=
  (∀ r : Response,
    r.bytes = [r.status.code, r.echo] ++ be2 (BitVec.ofNat 16 r.payload.length) ++ r.payload ++
      [- byteSum ([r.status.code, r.echo] ++ be2 (BitVec.ofNat 16 r.payload.length) ++ r.payload)] ∧
    byteSum r.bytes = 0) ∧
  Response.none.bytes = [0x02, 0x00, 0x00, 0x00, 0xfe] ∧ commandFrame 0x12 [70] = [0x12, 0x00, 0x01, 0x46, 0xa7] ∧
  [Status.ok, .converted, .empty, .frameError, .notPermitted, .notReady, .badArgument, .busy, .inUse, .exists_, .notFound,
    .noSpace, .badSequence, .incomplete, .lapsed, .alreadySet, .noArm, .timedOut, .incident, .lineActive].map Status.code =
    (List.range 20).map (BitVec.ofNat 8) ∧
  ∀ (q : PortRec) (bytes : List Byte),
    (q.shift bytes).tx.length = bytes.length ∧
    ∀ n, n < bytes.length → (q.shift bytes).tx.getD n 0 = q.holding.bytes.getD n 0xff

/-- R164: the permission table, row by row. R163, R169: the checks of the port interface, in their order; a command refused there
changes nothing but its port's record and pins. R174: a part held in reset takes no frames. -/
def Obligations.PortChecks : Prop :=
  ((permissionTable.map (·.1)).Nodup ∧
    ∀ (i : Instr) (p : Port) (code : Byte) (payload : List Byte), commandFields i = some (p, code, payload) →
      (code, admissionOf i) ∈ permissionTable) ∧
  ∀ (i : Instr) (p : Port) (code : Byte) (payload : List Byte) (s : State),
    commandFields i = some (p, code, payload) → i.wellFormed = true →
    (s.sys.held = true → exec i s = .next s) ∧
    (s.sys.held = false →
      ((admissionOf i).port p = .never → Refuses i s .notPermitted) ∧
      ((admissionOf i).port p ≠ .never → (s.port p).lapsed = true → (admissionOf i).lapsed = false → Refuses i s .lapsed) ∧
      ((admissionOf i).port p ≠ .never → ((s.port p).lapsed = true → (admissionOf i).lapsed = true) →
        ((admissionOf i).port p = .setup ∧ s.sys.part = .run ∨ (admissionOf i).port p = .run ∧ s.sys.part = .setup) →
        Refuses i s .notReady))

/-! ### Reads -/

/-- R165, R173, R60: READ PART STATUS, READ SEGMENT and READ ALLOCATION report and change nothing (layout: log 11). -/
def Obligations.StatusReads : Prop :=
  (∀ (p : Port) (s : State), s.sys.held = false →
    exec (.readPartStatus p) s = .next (served (.readPartStatus p) .ok
      (b1 (partCode s.sys.part) ++ b1 (causeCode s.sys.cause) ++ fl s.sys.fresh ++ be4 s.sys.uptime ++ b1 s.loop.n ++
        b1 ((List.finRange 24).countP fun k => decide (k.val < s.loop.n) && decide ((s.seg k).link = .present)) ++
        portFields s.ports.o ++ portFields s.ports.e ++ portFields s.ports.c ++ incidentFields s.inc ++
        b1 (priorityCode s.brk.priority)) s)) ∧
  ∀ (p : Port) (seg : Byte) (s : State), s.sys.held = false →
    (seg.toNat = 0 ∨ s.loop.n < seg.toNat →
      Refuses (.readSegment p seg) s .badArgument ∧ Refuses (.readAllocation p seg) s .badArgument) ∧
    ∀ k : SegId, seg.toNat = k.val + 1 → k.val < s.loop.n →
      exec (.readSegment p seg) s = .next (served (.readSegment p seg) .ok
        (segFields (s.seg k) ++ foldFields s.loop.fold ++ b1 s.loop.derate ++ b2 s.loop.period ++ unitFields (s.unit k) ++
          b2 s.engine.rampStep ++ selectorFields s k) s) ∧
      exec (.readAllocation p seg) s =
        .next (served (.readAllocation p seg) .ok (allocationFields s.alloc (s.seg k).eff (s.aseg k)) s)

/-- R103, R114, R133: READ TALK, READ PLAYOUT and READ DIRECTORY report and change nothing (layout: log 11). -/
def Obligations.ChannelAndStoreReads : Prop :=
  (∀ (p : Port) (chans : Byte) (s : State), s.sys.held = false →
    (chans = 0 ∨ 3 < chans.toNat → Refuses (.readTalk p chans) s .badArgument) ∧
    (chans = 0 ∨ 15 < chans.toNat → Refuses (.readPlayout p chans) s .badArgument) ∧
    (1 ≤ chans.toNat → chans.toNat ≤ 3 →
      exec (.readTalk p chans) s = .next (served (.readTalk p chans) .ok
        ((if chans.getLsbD 0 then talkFields s .t1 else []) ++ (if chans.getLsbD 1 then talkFields s .t2 else []) ++
          b2 s.talk.hangMs ++ b2 s.talk.totS ++ b2 s.talk.itotS ++
          ((List.finRange 24).filter fun k => decide (k.val < s.loop.n)).flatMap (uplinkTableFields s)) s)) ∧
    (1 ≤ chans.toNat → chans.toNat ≤ 15 →
      exec (.readPlayout p chans) s = .next (served (.readPlayout p chans) .ok
        ((if chans.getLsbD 0 then playFields s .p1 else []) ++ (if chans.getLsbD 1 then playFields s .p2 else []) ++
          (if chans.getLsbD 2 then playFields s .p3 else []) ++ (if chans.getLsbD 3 then playFields s .p4 else []) ++
          counted (s.play.rotation.map fun c => b1 (pchanCode c))) s))) ∧
  ∀ (p : Port) (first count : Byte) (s : State), p ≠ .c → s.sys.held = false →
    (first.toNat = 0 ∨ 64 < first.toNat ∨ count.toNat = 0 ∨ 16 < count.toNat ∨ 65 < first.toNat + count.toNat →
      Refuses (.readDirectory p first count) s .badArgument) ∧
    (1 ≤ first.toNat → first.toNat ≤ 64 → 1 ≤ count.toNat → count.toNat ≤ 16 → first.toNat + count.toNat ≤ 65 →
      exec (.readDirectory p first count) s = .next (served (.readDirectory p first count) .ok
        ((((List.finRange 64).filter fun i : MsgId =>
            decide (first.toNat ≤ i.val + 1) && decide (i.val + 1 < first.toNat + count.toNat)).flatMap fun i =>
              directoryFields i (s.msg i)) ++
          b2 (freeBlocks (heldRuns s.store.dir)) ++ b2 (longestFree (heldRuns s.store.dir))) s))

/-- R77: READ ACCUMULATORS and RESET ACCUMULATORS. -/
def Obligations.Accumulators : Prop :=
  (∀ (p : Port) (s : State), s.sys.held = false →
    exec (.readAccumulators p) s = .next (served (.readAccumulators p) .ok
      ((s.meter.energy.toList.flatMap fun a => be6 a.value ++ fl a.wrapped) ++
        be4 s.meter.airtime.t1.value ++ fl s.meter.airtime.t1.wrapped ++
        be4 s.meter.airtime.t2.value ++ fl s.meter.airtime.t2.wrapped) s)) ∧
  ∀ (accs : Byte) (s : State), s.sys.held = false → s.ports.o.lapsed = false →
    (accs = 0 ∨ 63 < accs.toNat → Refuses (.resetAccumulators .o accs) s .badArgument) ∧
    (1 ≤ accs.toNat → accs.toNat ≤ 63 →
      ∃ t, exec (.resetAccumulators .o accs) s = .next (served (.resetAccumulators .o accs) .ok [] t) ∧
        { t with meter := s.meter } = s ∧ { t.meter with energy := s.meter.energy, airtime := s.meter.airtime } = s.meter ∧
        (∀ c : Carrier, t.meter.energy.get c =
          if accs.getLsbD (carrierNumber c - 1) then ⟨0, false⟩ else s.meter.energy.get c) ∧
        ∀ c : Chan, t.meter.airtime.get c =
          if accs.getLsbD (chanCode c + 3) then ⟨0, false⟩ else s.meter.airtime.get c)

/-- R71: READ ALERTS reports the named segments, then clears the latched flags of the reader's entries whose condition is
false. -/
def Obligations.AlertReads : Prop :=
  ∀ (p : Port) (segs : SegSet) (s : State), s.sys.held = false →
    (setOk s segs = false → Refuses (.readAlerts p segs) s .badArgument) ∧
    (setOk s segs = true →
      ∃ t, exec (.readAlerts p segs) s = .next (served (.readAlerts p segs) .ok
          ((setMembers segs).flatMap fun k => Entry.every.flatMap fun e => alertFields s k e) t) ∧
        { t with meter := s.meter } = s ∧ { t.meter with recs := s.meter.recs } = s.meter ∧
        ∀ k e, (t.meters k).get e =
          if inSet segs k = true ∧ ownerPort e = p ∧ ((s.meters k).get e).mode = .latched then
            { (s.meters k).get e with
              overFlag := ((s.meters k).get e).overFlag && ((s.meters k).get e).isOver,
              underFlag := ((s.meters k).get e).underFlag && ((s.meters k).get e).isUnder }
          else (s.meters k).get e)

/-- R171: READ EVENTS serves and removes up to 8 records, oldest first, and reports and clears the overflow flag. -/
def Obligations.EventReads : Prop :=
  ∀ (p : Port) (s : State), s.sys.held = false →
    exec (.readEvents p) s = .next (served (.readEvents p) .ok
      (b1 (min 8 (s.port p).queue.length) ++ ((s.port p).queue.take 8).flatMap EventRec.bytes ++
        b1 ((s.port p).queue.length - 8) ++ fl (s.port p).overflow)
      (s.modPort p fun q => { q with queue := q.queue.drop 8, overflow := false }))

/-- R115: READ CHUNK. -/
def Obligations.ChunkReads : Prop :=
  ∀ (p : Port) (id : Byte) (offset : Word) (length : Half) (s : State), p ≠ .c → s.sys.held = false →
    (id.toNat = 0 ∨ 64 < id.toNat ∨ length.toNat = 0 ∨ 256 < length.toNat →
      Refuses (.readChunk p id offset length) s .badArgument) ∧
    ∀ i : MsgId, id.toNat = i.val + 1 → 1 ≤ length.toNat → length.toNat ≤ 256 →
      ((s.msg i).content = .empty → Refuses (.readChunk p id offset length) s .notFound) ∧
      ∀ m extent, ((s.msg i).content = .loading m extent ∨
          ∃ declared damaged, (s.msg i).content = .closed m declared damaged ∧ extent = m.length) →
        (extent < offset.toNat + length.toNat → Refuses (.readChunk p id offset length) s .badArgument) ∧
        (offset.toNat + length.toNat ≤ extent →
          exec (.readChunk p id offset length) s = .next (served (.readChunk p id offset length) .ok
            ([id] ++ be4 offset ++ b1 (msgStateCode (s.msg i).content) ++
              (List.range length.toNat).map fun j => memRead s.store.mem (msgAddr m.first (offset.toNat + j))) s))

/-! ### Service supervision and lapse -/

/-- R166, R167, R169: CONFIGURE SERVICE, SERVICE ARM and SERVICE CONFIRM. -/
def Obligations.ServiceCommands : Prop :=
  ∀ (p : Port) (s : State), s.sys.held = false →
    ((s.port p).service = none →
      exec (.serviceArm p) s = .next (served (.serviceArm p) .ok [] s) ∧
      exec (.serviceConfirm p) s = .next (served (.serviceConfirm p) .ok [] s)) ∧
    (∀ d, (s.port p).service = some d →
      exec (.serviceArm p) s = .next (served (.serviceArm p) .ok [] (s.modPort p fun q => { q with arm := true })) ∧
      ((s.port p).arm = false → Refuses (.serviceConfirm p) s .noArm) ∧
      ((s.port p).arm = true → (s.port p).lapsed = false →
        exec (.serviceConfirm p) s = .next (served (.serviceConfirm p) .ok []
          (s.modPort p fun q => { q with arm := false, expiry := some (s.sys.uptime + BitVec.ofNat 32 (d.seconds * 1000)) }))) ∧
      ((s.port p).arm = true → (s.port p).lapsed = true →
        exec (.serviceConfirm p) s = .next (served (.serviceConfirm p) .ok []
          ((s.modPort p fun q =>
              { q with lapsed := false, arm := false, expiry := some (s.sys.uptime + BitVec.ofNat 32 (d.seconds * 1000)) }).raise
            (toPortAndO p) .portRestored (BitVec.ofNat 8 (portCode p)) 0 0)))) ∧
    ∀ period : Byte, (s.port p).lapsed = false →
      ((s.port p).configured = true → Refuses (.configureService p period) s .alreadySet) ∧
      ((s.port p).configured = false → period ∉ [1, 4, 16, 64] → Refuses (.configureService p period) s .badArgument) ∧
      ∀ d : Period, (s.port p).configured = false → period.toNat = d.seconds →
        exec (.configureService p period) s = .next (served (.configureService p period) .ok []
          (s.modPort p fun q =>
            { q with service := some d, configured := true, arm := false,
                     expiry := some (s.sys.uptime + BitVec.ofNat 32 (d.seconds * 1000)) }))

/-- R168: the lapse of a LIVE port whose timer expiry is reached, and what it tears down (R59, R101, R129, R138). -/
def Obligations.PortLapses : Prop :=
  ∀ (p : Port) (s : State), .portLapse p ∈ dueRows s →
    ∃ t, exec (.portLapse p) s = .next t ∧
      (t.port p).settings = { (s.port p).settings with lapsed := true, arm := false, expiry := none } ∧
      (∀ q, q ≠ p → (t.port q).settings = (s.port q).settings) ∧
      t.sys = s.sys ∧ t.inc = s.inc ∧ t.store = s.store ∧ t.plant = s.plant ∧ t.meter = s.meter ∧
      (p = .o → t.brk.liveO = none ∧ t.brk.liveE = s.brk.liveE) ∧
      (p = .e → t.brk.liveE = none ∧ t.brk.liveO = s.brk.liveO ∧ (∀ c, (t.chan c).key = .unkeyed) ∧
        (KeysRight s → ∀ c, (t.chan c).floor ≠ .outbound)) ∧
      (p ≠ .c → ∀ c prog, (s.pchan c).owner = portOwner p → (s.pchan c).program = some prog → prog.repeats = true →
        ((s.pchan c).state = .held → (t.pchan c).state = .idle) ∧
        ((s.pchan c).state ≠ .idle → (t.pchan c).state = .idle ∨ (t.pchan c).finish = true)) ∧
      (p = .c → t.brk.liveE = s.brk.liveE ∧ t.brk.liveO = s.brk.liveO ∧
        ∀ k e, ((t.aseg k).c.get e).floor = ((s.aseg k).c.get e).floor ∧
          ((t.aseg k).c.get e).suspended = ((s.aseg k).c.get e).suspended ∧
          ((t.aseg k).c.get e).request =
            if k.val < s.loop.n then ((s.aseg k).c.get e).floor else ((s.aseg k).c.get e).request)

/-! ### Settings of the loop, the engine and the monitor -/

/-- R14: SET SEGMENT COUNT, with what R36, R63, R81 and R97 add. MODEL'S CHOICES: all 24 records keep limit and commanded mode
(log 35), and no LOOP_FOLD is raised (log 40). -/
def Obligations.SegmentCount : Prop :=
  ∀ (p : Port) (count : Byte) (s : State), Ready (.setSegmentCount p count) s →
    (count.toNat = 0 ∨ 24 < count.toNat → Refuses (.setSegmentCount p count) s .badArgument) ∧
    (1 ≤ count.toNat → count.toNat ≤ 24 →
      ∃ t, exec (.setSegmentCount p count) s = .next t ∧ (t.port p).holding = ⟨.ok, 0x10, []⟩ ∧
        t.loop = { s.loop with n := count.toNat, surveys := .all .none, fold := .whole, mismatch := false, segs := t.loop.segs } ∧
        (∀ k, t.seg k =
          { s.seg k with link := .unseen, miss := 0, serial := none, acquired := false, observed := none, reach := .none,
                         eff := 0 }) ∧
        (∀ k, t.unit k = { s.unit k with applied := none }) ∧
        (∀ q, ∀ r ∈ (t.port q).queue, r ∉ (s.port q).queue → r.kind ≠ .loopFold) ∧
        (∀ k, t.upl k = .all .cleared ∧ t.talk.seq[k] = none) ∧
        (∀ c, (t.chan c).barred = 0 ∧ (t.chan c).coverage = (s.chan c).coverage ∧ (t.chan c).floor ≠ .inbound) ∧
        (∀ k e, ((t.meters k).get e).raw = none ∧ ((t.meters k).get e).history = []) ∧
        t.sys = s.sys ∧ t.store = s.store ∧ t.play = s.play ∧ t.brk = s.brk ∧ t.inc = s.inc ∧ t.plant = s.plant ∧
        { t.alloc with activity := s.alloc.activity } = s.alloc ∧ ∀ q, q ≠ p → (t.port q).settings = (s.port q).settings)

/-- R21, R22, R54: the effective limit, SET LIMIT and SET DERATE. -/
def Obligations.LimitAndDerate : Prop :=
  (∀ (r : SegRec) (marked : Bool) (derate : Nat),
    (r.link = .lost ∨ r.link = .unseen ∨ marked = true ∨ r.commanded ≠ .active → limitOf r marked derate = 0) ∧
    ∀ o, r.observed = some o →
      (o.mode ≠ .active ∨ o.temp = .hot → limitOf r marked derate = 0) ∧
      (r.link = .present ∨ r.link = .missing → marked = false → r.commanded = .active → o.mode = .active →
        (o.temp = .warm → limitOf r marked derate = r.limit * derate / 100) ∧
        (o.temp = .normal → limitOf r marked derate = r.limit))) ∧
  (∀ (p : Port) (seg : Byte) (limit : Half) (s : State), Ready (.setLimit p seg limit) s →
    (seg.toNat = 0 ∨ s.loop.n < seg.toNat ∨ 8000 < limit.toNat → Refuses (.setLimit p seg limit) s .badArgument) ∧
    ∀ k : SegId, seg.toNat = k.val + 1 → k.val < s.loop.n → limit.toNat ≤ 8000 →
      let e := limitOf { s.seg k with limit := limit.toNat } (s.unit k).marked s.loop.derate
      let w := served (.setLimit p seg limit) .ok [] (s.modSeg k fun r => { r with limit := limit.toNat, eff := e })
      ∃ t, exec (.setLimit p seg limit) s = .next t ∧ Undisturbed w t ∧ (∀ j, t.seg j = w.seg j) ∧
        RoundsAt w t fun j => j = k ∧ e ≠ (s.seg k).eff) ∧
  ∀ (p : Port) (percent : Byte) (s : State), Ready (.setDerate p percent) s →
    (percent.toNat < 25 ∨ 100 < percent.toNat → Refuses (.setDerate p percent) s .badArgument) ∧
    (25 ≤ percent.toNat → percent.toNat ≤ 100 →
      let e (j : SegId) : Nat :=
        if j.val < s.loop.n then limitOf (s.seg j) (s.unit j).marked percent.toNat else (s.seg j).eff
      let w := served (.setDerate p percent) .ok []
        { s with loop := { s.loop with derate := percent.toNat, segs := Vector.ofFn fun j => { s.seg j with eff := e j } } }
      ∃ t, exec (.setDerate p percent) s = .next t ∧ Undisturbed w t ∧ (∀ j, t.seg j = { s.seg j with eff := e j }) ∧
        RoundsAt w t fun j => e j ≠ (s.seg j).eff)

/-- R9, R27, R141, R157: SET SURVEY PERIOD, SET RAMP STEP, SET PLAYOUT PRIORITY and SET INCIDENT MESSAGE. MODEL'S CHOICE (log 11):
the answer of SET INCIDENT MESSAGE is a presence byte and the state. -/
def Obligations.PlainSettings : Prop :=
  (∀ (p : Port) (ms : Half) (s : State), Ready (.setSurveyPeriod p ms) s →
    (ms.toNat < 50 ∨ 1000 < ms.toNat ∨ ms.toNat % 10 ≠ 0 → Refuses (.setSurveyPeriod p ms) s .badArgument) ∧
    (50 ≤ ms.toNat → ms.toNat ≤ 1000 → ms.toNat % 10 = 0 → exec (.setSurveyPeriod p ms) s =
      .next (served (.setSurveyPeriod p ms) .ok [] { s with loop.period := ms.toNat }))) ∧
  (∀ (p : Port) (x : Half) (s : State), Ready (.setRampStep p x) s →
    (x.toNat < 50 ∨ 2000 < x.toNat → Refuses (.setRampStep p x) s .badArgument) ∧
    (50 ≤ x.toNat → x.toNat ≤ 2000 → exec (.setRampStep p x) s =
      .next (served (.setRampStep p x) .ok [] { s with engine.rampStep := x.toNat }))) ∧
  (∀ (p : Port) (mode : Byte) (s : State), Ready (.setPlayoutPriority p mode) s →
    (2 ≤ mode.toNat → Refuses (.setPlayoutPriority p mode) s .badArgument) ∧
    (mode = 0 → exec (.setPlayoutPriority p mode) s =
      .next (served (.setPlayoutPriority p mode) .ok [] { s with brk.priority := .fixed })) ∧
    (mode = 1 → exec (.setPlayoutPriority p mode) s =
      .next (served (.setPlayoutPriority p mode) .ok [] { s with brk.priority := .rotating }))) ∧
  ∀ (p : Port) (id : Byte) (s : State), Ready (.setIncidentMessage p id) s →
    (64 < id.toNat → Refuses (.setIncidentMessage p id) s .badArgument) ∧
    (id = 0 → exec (.setIncidentMessage p id) s =
      .next (served (.setIncidentMessage p id) .ok [0, 0] { s with inc.message := none })) ∧
    ∀ i : MsgId, id.toNat = i.val + 1 → exec (.setIncidentMessage p id) s =
      .next (served (.setIncidentMessage p id) .ok ([1] ++ b1 (msgStateCode (s.msg i).content)) { s with inc.message := some i })

/-- R19, R20, R21, R31, R54: SET UNIT MODE. A changed mode reconciles every segment 1 to N in RUN. MODEL'S READINGS: when a MODE is
already queued or in flight (`hasMode`, log 16), and that nothing is asked for before an acquisition (log 37). -/
def Obligations.UnitModeCommand : Prop :=
  ∀ (p : Port) (seg mode : Byte) (s : State), Ready (.setUnitMode p seg mode) s →
    (seg.toNat = 0 ∨ s.loop.n < seg.toNat ∨ 2 < mode.toNat → Refuses (.setUnitMode p seg mode) s .badArgument) ∧
    ∀ (k : SegId) (m : TargetMode), seg.toNat = k.val + 1 → k.val < s.loop.n → mode = targetCode m →
      let converted := m = .dormant ∧ inSet (liveClaims s) k = true
      let st := if converted then Status.converted else .ok
      let m' := if converted then TargetMode.standby else m
      (s.loop.level = .incident → m ≠ .active → Refuses (.setUnitMode p seg mode) s .incident) ∧
      ((s.loop.level = .normal ∨ m = .active) → (s.seg k).commanded = m ∨ (s.seg k).commanded = m' →
        exec (.setUnitMode p seg mode) s = .next (served (.setUnitMode p seg mode) st [] s)) ∧
      ((s.loop.level = .normal ∨ m = .active) → (s.seg k).commanded ≠ m → (s.seg k).commanded ≠ m' →
        let r := { s.seg k with commanded := m', eff := limitOf { s.seg k with commanded := m' } (s.unit k).marked s.loop.derate }
        let segOf (j : SegId) : SegRec := if j = k then r else s.seg j
        let asked (j : SegId) : Prop := s.sys.part = .run ∧ j.val < s.loop.n ∧ (segOf j).link = .present ∧
          (segOf j).acquired = true ∧ ∃ o, (segOf j).observed = some o ∧
            o.mode ≠ unitModeOf (segOf j).commanded ∧ o.mode ≠ .overheat ∧ heldDormant o = false
        ∃ t, exec (.setUnitMode p seg mode) s = .next t ∧
          Undisturbed (served (.setUnitMode p seg mode) st []
            { s.modSeg k (fun _ => r) with
              engine.units := Vector.ofFn fun j => { s.unit j with modeSlot := (t.unit j).modeSlot } }) t ∧
          (∀ j, t.seg j = segOf j) ∧
          (∀ j, (t.unit j).modeSlot =
            if asked j ∧ (s.unit j).marked = false ∧ (s.unit j).hasMode (segOf j).commanded = false then
              some (segOf j).commanded
            else (s.unit j).modeSlot) ∧
          RoundsAt (s.modSeg k fun _ => r) t fun j => j = k ∧ r.eff ≠ (s.seg k).eff)

/-! ### Settings of the allocator and the monitor -/

/-- R40, R41, R42, R54, R25, R31: SET FLOORS, SET INCIDENT FLOORS, SET BROADCAST REQUEST and SET RESCUE REQUEST. A PRESENT
segment that awaits its acquisition gets no LEVELS request (log 37). -/
def Obligations.AllocationWrites : Prop :=
  let writes (i : Instr) (segs : SegSet) (values : List Half) (f : AllocSeg → AllocSeg) (s : State) : Prop :=
    (setOk s segs = false ∨ (∃ v ∈ values, 8000 < v.toNat) → Refuses i s .badArgument) ∧
    (setOk s segs = true → (∀ v ∈ values, v.toNat ≤ 8000) →
      let w := served i .ok [] (writeSet segs f s)
      ∃ t, exec i s = .next t ∧ Undisturbed w t ∧ t.loop = s.loop ∧ RoundsAt w t (WantsChanged s.alloc w) ∧
        ∀ k, (s.unit k).levelsSlot = .empty → ((t.unit k).levelsSlot = .levels ↔
          k.val < s.loop.n ∧ s.sys.part = .run ∧ WantsChanged s.alloc w k ∧ ((s.seg k).acquired = true ∨ (s.seg k).link ≠ .present) ∧
          (s.unit k).marked = false ∧ (s.unit k).levelsClear = true ∧ (s.unit k).behind (t.aseg k).grants = true))
  (∀ p segs f s, Ready (.setFloors p segs f) s →
    writes (.setFloors p segs f) segs f.toList (fun a =>
      { a with c := ⟨{ a.c.c1 with floor := f.c1.toNat }, { a.c.c2 with floor := f.c2.toNat },
                     { a.c.c3 with floor := f.c3.toNat }, { a.c.c4 with floor := f.c4.toNat }⟩,
               rs := { a.rs with floor := f.rs.toNat }, bc := { a.bc with floor := f.bc.toNat } }) s) ∧
  (∀ p segs rs bc s, Ready (.setIncidentFloors p segs rs bc) s →
    writes (.setIncidentFloors p segs rs bc) segs [rs, bc] (fun a =>
      { a with rs := { a.rs with ifloor := rs.toNat }, bc := { a.bc with ifloor := bc.toNat } }) s) ∧
  (∀ p segs q s, Ready (.setBroadcastRequest p segs q) s →
    writes (.setBroadcastRequest p segs q) segs [q] (fun a => { a with bc := { a.bc with request := q.toNat } }) s) ∧
  ∀ p segs x y s, Ready (.setRescueRequest p segs x y) s →
    writes (.setRescueRequest p segs x y) segs [x, y] (fun a =>
      { a with rs := { a.rs with qIdle := x.toNat, qActive := y.toNat } }) s

/-- R43, R44, R54, R58: SET CARRIER CAP and SET CARRIER REQUEST, which resumes a suspended entry. -/
def Obligations.CarrierCommands : Prop :=
  (∀ (p : Port) (percent : Byte) (s : State), Ready (.setCarrierCap p percent) s →
    (100 < percent.toNat → Refuses (.setCarrierCap p percent) s .badArgument) ∧
    (percent.toNat ≤ 100 →
      let w := served (.setCarrierCap p percent) .ok [] { s with alloc.capPct := percent.toNat }
      ∃ t, exec (.setCarrierCap p percent) s = .next t ∧ Undisturbed w t ∧ t.loop = s.loop ∧
        RoundsAt w t (WantsChanged s.alloc w))) ∧
  ∀ (p : Port) (operator : Byte) (segs : SegSet) (q : Half) (s : State), Ready (.setCarrierRequest p operator segs q) s →
    (operator.toNat = 0 ∨ 4 < operator.toNat ∨ setOk s segs = false ∨ 8000 < q.toNat →
      Refuses (.setCarrierRequest p operator segs q) s .badArgument) ∧
    ∀ c : Carrier, operator.toNat = carrierNumber c → setOk s segs = true → q.toNat ≤ 8000 →
      let write (a : AllocSeg) : AllocSeg := { a with c := a.c.set c { a.c.get c with request := q.toNat, suspended := false } }
      ∃ t, exec (.setCarrierRequest p operator segs q) s = .next t ∧
        (∀ k e, (t.meters k).get e =
          if inSet segs k = true ∧ ((s.aseg k).c.get c).suspended = true ∧ e = c.entry then
            { (s.meters k).get e with count := 0 }
          else (s.meters k).get e) ∧
        Undisturbed (served (.setCarrierRequest p operator segs q) .ok []
          { writeSet segs write s with meter.recs := t.meter.recs }) t ∧ t.loop = s.loop ∧
        RoundsAt (served (.setCarrierRequest p operator segs q) .ok [] (writeSet segs write s)) t fun k =>
          inSet segs k = true ∧ ((s.aseg k).c.get c).suspended = true ∨ WantsChanged s.alloc (writeSet segs write s) k

/-- R70, R73: SET ALERT MODE and SET METER POLICY. -/
def Obligations.MonitorSettings : Prop :=
  (∀ (p : Port) (segs : SegSet) (entry mode basis : Byte) (s : State), Ready (.setAlertMode p segs entry mode basis) s →
    (5 < entry.toNat ∨ 1 < mode.toNat ∨ 1 < basis.toNat → Refuses (.setAlertMode p segs entry mode basis) s .badArgument) ∧
    ∀ e : Entry, entry = entryCode e → mode.toNat ≤ 1 → basis.toNat ≤ 1 →
      (ownerPort e ≠ p → Refuses (.setAlertMode p segs entry mode basis) s .notPermitted) ∧
      (ownerPort e = p → setOk s segs = false → Refuses (.setAlertMode p segs entry mode basis) s .badArgument) ∧
      (ownerPort e = p → setOk s segs = true →
        ∃ t, exec (.setAlertMode p segs entry mode basis) s = .next t ∧
          OnlyEvents (served (.setAlertMode p segs entry mode basis) .ok []
            { s with meter := { s.meter with recs := t.meter.recs } }) t ∧
          ∀ k x, (t.meters k).get x =
            if inSet segs k = true ∧ x = e then
              { (s.meters k).get x with
                mode := if mode = 1 then .latched else .transparent,
                basis := if basis = 1 then .averaged else .raw,
                overFlag := if ((s.meters k).get x).mode = .latched ∧ mode = 0 then ((s.meters k).get x).isOver
                  else ((s.meters k).get x).overFlag,
                underFlag := if ((s.meters k).get x).mode = .latched ∧ mode = 0 then ((s.meters k).get x).isUnder
                  else ((s.meters k).get x).underFlag }
            else (s.meters k).get x)) ∧
  ∀ (p : Port) (n tol settle persist : Byte) (s : State), Ready (.setMeterPolicy p n tol settle persist) s →
    (n ∉ [1, 4, 16, 64] ∨ 50 < tol.toNat ∨ 15 < settle.toNat ∨ 15 < persist.toNat →
      Refuses (.setMeterPolicy p n tol settle persist) s .badArgument) ∧
    (n ∈ [1, 4, 16, 64] → tol.toNat ≤ 50 → settle.toNat ≤ 15 → persist.toNat ≤ 15 →
      ∃ t, exec (.setMeterPolicy p n tol settle persist) s =
          .next (served (.setMeterPolicy p n tol settle persist) .ok [] t) ∧
        { t with meter := s.meter } = s ∧
        t.meter.policy = ⟨n.toNat, tol.toNat, settle.toNat, persist.toNat⟩ ∧ t.meter.energy = s.meter.energy ∧
        t.meter.airtime = s.meter.airtime ∧
        ∀ k e, (t.meters k).get e =
          { (s.meters k).get e with
            settle := min ((s.meters k).get e).settle settle.toNat,
            count := if persist = 0 then 0 else ((s.meters k).get e).count })

/-- R64: the averaged level of an entry. Besides, R65 to R69 and R72: what a round with measured levels makes of an entry
whose applied level is known. -/
def Obligations.LevelComparisons : Prop :=
  (∀ n, averaged n [] = none) ∧
  (∀ (n : Nat) (h : List Nat), h ≠ [] →
    averaged n h = some ((h.reverse.take (min n h.length)).sum / min n h.length)) ∧
  averaged 4 [1280, 1310, 1300, 1290] = some 1295 ∧ averaged 4 [1280, 1310] = some 1295 ∧
  ∀ (k : SegId) (e : Entry) (s : State) (v : Six Nat), (s.unit k).applied = some v →
    let x := (s.meters k).get e
    let y := ((compareEntry k s e).meters k).get e
    let tol := v.get e * s.meter.policy.tol / 100
    (0 < x.settle → y = { x with settle := x.settle - 1 }) ∧
    ∀ m, x.settle = 0 → (x.basis = .raw → x.raw = some m) →
      (x.basis = .averaged → averaged s.meter.policy.n x.history = some m) →
      let high := v.get e + tol + 5 < m
      let low := 20 ≤ v.get e ∧ m < v.get e - tol
      (y.isOver = true ↔ high) ∧ (y.isUnder = true ↔ low) ∧
      (x.mode = .transparent → (y.overFlag = true ↔ high) ∧ (y.underFlag = true ↔ low)) ∧
      (x.mode = .latched → (y.overFlag = true ↔ x.overFlag = true ∨ high) ∧ (y.underFlag = true ↔ x.underFlag = true ∨ low)) ∧
      ∀ c : Carrier, e = c.entry →
        let limit := s.meter.policy.persist
        let was := ((s.aseg k).c.get c).suspended
        let now := (((compareEntry k s e).aseg k).c.get c).suspended
        (was = true ∨ limit = 0 ∨ ¬ high → y.count = 0 ∧ now = was) ∧
        (was = false → 0 < limit → high → x.count + 1 < limit → y.count = x.count + 1 ∧ now = false) ∧
        (was = false → 0 < limit → high → limit ≤ x.count + 1 → y.count = 0 ∧ now = true)

/-! ### The FIRE line and the incident -/

/-- R154 to R156, R158: FIRE_LINE_CHANGE, FIRE_FILTER_EXPIRY and SET FIRE SENSE on the filter, the arm and the LINE claim (the arm
in the LEVEL sense: the model's choice, log 20). -/
def Obligations.FireLine : Prop :=
  (∀ (x : Bool) (s : State),
    exec (.fireLineChange x) s = .next (if s.inc.raw = x then s else { s with inc.raw := x, inc.changedAt := s.sys.uptime })) ∧
  (∀ s : State, .fireFilterExpiry ∈ dueRows s →
    ∃ t, exec .fireFilterExpiry s = .next t ∧ t.inc.filtered = heldLevel s.inc.raw ∧ t.inc.raw = s.inc.raw ∧
      t.inc.changedAt = s.inc.changedAt ∧ t.inc.sense = s.inc.sense ∧ t.inc.message = s.inc.message ∧
      t.inc.claims.ops = s.inc.claims.ops ∧ t.inc.claims.rescue = s.inc.claims.rescue ∧
      (s.inc.filtered = .unsettled → s.inc.raw = true → t.inc.claims.line = true ∧ t.inc.arm = false) ∧
      (s.inc.filtered = .unsettled → s.inc.raw = false → t.inc.claims.line = s.inc.claims.line ∧ t.inc.arm = true) ∧
      (s.inc.filtered ≠ .unsettled → s.inc.sense = .level → t.inc.claims.line = s.inc.raw ∧ t.inc.arm = s.inc.arm) ∧
      (s.inc.filtered ≠ .unsettled → s.inc.sense = .edge → s.inc.raw = true →
        t.inc.claims.line = (s.inc.claims.line || s.inc.arm) ∧ t.inc.arm = false) ∧
      (s.inc.filtered ≠ .unsettled → s.inc.sense = .edge → s.inc.raw = false →
        t.inc.claims.line = s.inc.claims.line ∧ t.inc.arm = true)) ∧
  ∀ (p : Port) (sense : Byte) (s : State), Ready (.setFireSense p sense) s →
    (1 < sense.toNat → Refuses (.setFireSense p sense) s .badArgument) ∧
    ∀ x : FireSense, sense.toNat = senseCode x →
      (s.inc.sense = x → exec (.setFireSense p sense) s =
        .next (served (.setFireSense p sense) .ok [sense, BitVec.ofNat 8 (claimsCode s.inc.claims)] s)) ∧
      (s.inc.sense ≠ x →
        ∃ t, exec (.setFireSense p sense) s = .next t ∧
          (t.port p).holding = ⟨.ok, 0x19, [sense, BitVec.ofNat 8 (claimsCode t.inc.claims)]⟩ ∧
          { t.inc with claims := s.inc.claims, level := s.inc.level, arm := s.inc.arm, sense := s.inc.sense } = s.inc ∧
          t.inc.sense = x ∧ t.inc.claims.ops = s.inc.claims.ops ∧ t.inc.claims.rescue = s.inc.claims.rescue ∧
          t.inc.claims.line =
            (if x = .level ∧ s.inc.filtered ≠ .unsettled then decide (s.inc.filtered = .asserted) else s.inc.claims.line) ∧
          t.inc.arm =
            if x = .edge ∧ s.inc.filtered ≠ .unsettled then decide (s.inc.filtered = .deasserted) else s.inc.arm)

/-- R150, R152, R153: DECLARE INCIDENT and CLEAR INCIDENT on the claim set, with their answers. MODEL'S CHOICE (log 11): the level is
answered as 0 for NORMAL and 1 for INCIDENT. -/
def Obligations.ClaimCommands : Prop :=
  (∀ (p : Port) (s : State), Ready (.declareIncident p) s →
    ∃ t, exec (.declareIncident p) s = .next t ∧
      t.inc.claims = (if p = .e then { s.inc.claims with rescue := true } else { s.inc.claims with ops := true }) ∧
      (t.port p).holding =
        ⟨.ok, 0x38, b1 (claimsCode t.inc.claims) ++ [if t.inc.level = .incident then 1 else 0]⟩ ∧
      { t.inc with claims := s.inc.claims, level := s.inc.level } = s.inc ∧
      ((if p = .e then s.inc.claims.rescue else s.inc.claims.ops) = true →
        t = served (.declareIncident p) .ok (b1 (claimsCode s.inc.claims) ++ [if s.inc.level = .incident then 1 else 0]) s)) ∧
  ∀ (p : Port) (claim : Byte) (s : State), Ready (.clearIncident p claim) s →
    (2 < claim.toNat → Refuses (.clearIncident p claim) s .badArgument) ∧
    ∀ x : Claim, claim = claimCode x →
      ((p = .e ∧ x ≠ .rescue ∨ p = .o ∧ x = .rescue) → Refuses (.clearIncident p claim) s .notPermitted) ∧
      (p = .o → x = .line → s.inc.filtered = .asserted →
        exec (.clearIncident p claim) s = .next (served (.clearIncident p claim) .lineActive
          (b1 (claimsCode s.inc.claims) ++ [if s.inc.level = .incident then 1 else 0]) s)) ∧
      ((p = .e ∧ x = .rescue ∨ p = .o ∧ (x = .ops ∨ x = .line ∧ s.inc.filtered ≠ .asserted)) →
        ∃ t, exec (.clearIncident p claim) s = .next t ∧ t.inc.claims = s.inc.claims.set x false ∧
          (t.port p).holding =
            ⟨.ok, 0x39, b1 (claimsCode t.inc.claims) ++ [if t.inc.level = .incident then 1 else 0]⟩ ∧
          { t.inc with claims := s.inc.claims, level := s.inc.level } = s.inc ∧
          (s.inc.claims.get x = false → t = served (.clearIncident p claim) .ok
            (b1 (claimsCode s.inc.claims) ++ [if s.inc.level = .incident then 1 else 0]) s))

/-- R151, R56, R19, R94, R130, R131: what a DECLARE does at an onset, and a CLEAR at the return to NORMAL. -/
def Obligations.OnsetAndReturn : Prop :=
  (∀ (p : Port) (s : State), Ready (.declareIncident p) s → s.inc.claims = ⟨false, false, false⟩ → s.inc.level = .normal →
    ∃ t, exec (.declareIncident p) s = .next t ∧ t.inc.level = .incident ∧ t.alloc.level = .incident ∧
      t.loop.level = .incident ∧ t.talk.level = .incident ∧ (∀ k, (t.seg k).commanded = .active) ∧ LimitsRight t ∧
      t.sys = s.sys ∧ t.meter = s.meter ∧ t.plant = s.plant ∧
      (∀ i, s.inc.message = some i → (s.msg i).content.ready = true →
        t.play.p1Held = true ∧ (t.pchan .p1).owner = .incident ∧
        (t.pchan .p1).program = some ⟨.play, true, [i], BitVec.allOnes 24⟩ ∧
        ((t.pchan .p1).state = .playing ∨ (t.pchan .p1).state = .held) ∧
        ∀ j, (t.msg j).content = (s.msg j).content) ∧
      ((∀ i, s.inc.message = some i → (s.msg i).content.ready = false) →
        t.play.p1Held = s.play.p1Held ∧ (t.pchan .p1).program = (s.pchan .p1).program ∧ t.store = s.store)) ∧
  ∀ (p : Port) (claim : Byte) (x : Claim) (s : State), Ready (.clearIncident p claim) s → claim = claimCode x →
    mayClear p x = true → (x = .line → s.inc.filtered ≠ .asserted) → s.inc.level = .incident →
    s.inc.claims = (⟨false, false, false⟩ : Claims).set x true →
    ∃ t, exec (.clearIncident p claim) s = .next t ∧ t.inc.level = .normal ∧ t.alloc.level = .normal ∧
      t.loop.level = .normal ∧ t.talk.level = .normal ∧ (∀ k, (t.seg k).commanded = (s.seg k).commanded) ∧
      t.sys = s.sys ∧ t.meter = s.meter ∧ t.plant = s.plant ∧ t.store = s.store ∧ t.play.p1Held = false ∧
      (s.play.p1Held = true → (t.pchan .p1).state = .idle ∧ (t.pchan .p1).owner = .none ∧
        (t.pchan .p1).program = (s.pchan .p1).program)

/-! ### Commit and resets -/

/-- R160, R16, R21, R55: COMMIT SETUP. -/
def Obligations.CommitCommand : Prop :=
  ∀ (p : Port) (s : State), Ready (.commitSetup p) s →
    (s.loop.n = 0 → Refuses (.commitSetup p) s .badArgument) ∧
    (s.loop.n ≠ 0 →
      ∃ t, exec (.commitSetup p) s = .next t ∧ (t.port p).holding = ⟨.ok, 0x1b, []⟩ ∧
        t.sys = { s.sys with part := .run, fresh := false } ∧ t.loop = { s.loop with segs := t.loop.segs } ∧
        (∀ k : SegId, k.val < s.loop.n → (s.seg k).link = .present →
          (t.seg k).acquired = true ∧ (t.unit k).applied = none ∧ (t.unit k).marked = false ∧
          (t.unit k).levelsSlot = .zeroReset ∧ t.upl k = .all .cleared ∧ t.talk.seq[k] = none ∧
          ∀ e, ((t.meters k).get e).history = []) ∧
        (∀ k : SegId, ¬ (k.val < s.loop.n ∧ (s.seg k).link = .present) →
          { t.seg k with eff := (s.seg k).eff } = s.seg k ∧ (t.unit k).applied = (s.unit k).applied ∧
          (t.unit k).marked = (s.unit k).marked ∧ t.upl k = s.upl k) ∧
        LimitsRight t ∧ (∀ k : SegId, k.val < s.loop.n → (t.aseg k).grants.total ≤ (t.seg k).eff) ∧
        t.store = s.store ∧ t.inc = s.inc ∧ t.plant = s.plant ∧ t.meter.policy = s.meter.policy ∧
        t.meter.energy = s.meter.energy ∧ t.meter.airtime = s.meter.airtime)

/-- R174, R175 and the reset tables R23, R38, R61, R78, R104, R118, R134, R149, R158: RESET PART, POWER_ON_RESET, LINE_RESET
and RESET_END. The reset values themselves are those of `State.reset`. -/
def Obligations.Resets : Prop :=
  (let warm (cause : ResetCause) (held : Bool) (s t : State) : Prop :=
    { t with sys := State.reset.sys, meter := State.reset.meter, store := State.reset.store, inc := State.reset.inc,
             plant := State.reset.plant, draws := State.reset.draws, pending := State.reset.pending } = State.reset ∧
    t.sys = { part := .setup, cause := cause, fresh := s.sys.fresh, uptime := 0, held := held } ∧
    t.meter = { State.reset.meter with energy := s.meter.energy, airtime := s.meter.airtime } ∧
    t.store.mem = s.store.mem ∧
    (∀ i, (t.msg i).uses = 0 ∧
      (t.msg i).content = if (s.msg i).content.isClosed = true then (s.msg i).content else .empty) ∧
    t.inc = { State.reset.inc with raw := s.inc.raw } ∧ t.plant = s.plant ∧ t.draws = s.draws ∧ t.pending = s.pending
  (∀ (p : Port) (s : State), Ready (.resetPart p) s → ∃ t, exec (.resetPart p) s = .next t ∧ warm .command false s t) ∧
  (∀ s : State, exec .powerOnReset s = .next
    { State.reset with sys := { State.reset.sys with held := true }, inc := { State.reset.inc with raw := s.inc.raw },
                       plant := s.plant, draws := s.draws, pending := s.pending }) ∧
  (∀ s : State, ¬ (s.sys.held = true ∧ s.sys.cause = .powerOn) → ∃ t, exec .lineReset s = .next t ∧ warm .line true s t) ∧
  (∀ s : State, s.sys.held = true → s.sys.cause = .powerOn → exec .lineReset s = .next s) ∧
  ∀ s : State, exec .resetEnd s = .next { s with sys := { s.sys with held := false } }) ∧
  ∀ (s : State) (p : Port) (k : SegId) (c : Chan), s.sys.held = true →
    s.attention p = false ∧ insertPath s k = .road ∧ dispatchPath s c = .nothing ∧ downlinkPath s c k = .nothing

/-! ### Talk channels -/

/-- R98, R99, R94, R84: SET TALK TIMERS and SET COVERAGE. -/
def Obligations.TalkSettings : Prop :=
  (∀ (p : Port) (hang tot itot : Half) (s : State), Ready (.setTalkTimers p hang tot itot) s →
    (5000 < hang.toNat ∨ hang.toNat % 100 ≠ 0 ∨ tot.toNat < 10 ∨ 600 < tot.toNat ∨ 600 < itot.toNat →
      Refuses (.setTalkTimers p hang tot itot) s .badArgument) ∧
    (hang.toNat ≤ 5000 → hang.toNat % 100 = 0 → 10 ≤ tot.toNat → tot.toNat ≤ 600 → itot.toNat ≤ 600 →
      let w : State := { s with talk.hangMs := hang.toNat, talk.totS := tot.toNat, talk.itotS := itot.toNat }
      (∃ t, exec (.setTalkTimers p hang tot itot) s = .next t ∧ (t.port p).holding = ⟨.ok, 0x22, []⟩ ∧
        t.talk.hangMs = hang.toNat ∧ t.talk.totS = tot.toNat ∧ t.talk.itotS = itot.toNat ∧
        ((∀ c, (s.chan c).totStart.isSome = true → (s.chan c).floor = .inbound ∨ (s.chan c).floor = .outbound) →
          limitInForce w.talk ≠ limitInForce s.talk → totDue t .t1 = false ∧ totDue t .t2 = false)) ∧
      (limitInForce w.talk = limitInForce s.talk ∨ totDue w .t1 = false ∧ totDue w .t2 = false →
        Answers (.setTalkTimers p hang tot itot) s .ok [] w))) ∧
  ∀ (p : Port) (chan : Byte) (segs : SegSet) (s : State), Ready (.setCoverage p chan segs) s →
    (chan.toNat = 0 ∨ 2 < chan.toNat ∨ setOk s segs = false → Refuses (.setCoverage p chan segs) s .badArgument) ∧
    ∀ c : Chan, chan.toNat = chanCode c → setOk s segs = true →
      let w := s.modChan c fun r => { r with coverage := segs }
      ∃ t, exec (.setCoverage p chan segs) s = .next t ∧
        Undisturbed (served (.setCoverage p chan segs) .ok []
          (w.modChan c (floorTable s.sys.uptime s.talk.hangMs (eligibleSet w c ≠ 0) (bestVote w c) (revote w c)))) t ∧
        ∀ k, inSet (t.chan c).relay k = true ↔ inSet segs k = true ∧ 0 < (t.aseg k).rs.grant

/-- R90, R91: KEY without and with priority. MODEL'S CHOICE (log 12): the payload of TIMED_OUT. -/
def Obligations.KeyCommand : Prop :=
  ∀ (p : Port) (chan prio : Byte) (s : State), Ready (.key p chan prio) s →
    (chan.toNat = 0 ∨ 2 < chan.toNat ∨ 1 < prio.toNat → Refuses (.key p chan prio) s .badArgument) ∧
    ∀ c : Chan, chan.toNat = chanCode c → prio.toNat ≤ 1 →
      let r := s.chan c
      let gives (r' : TalkRec) : Prop := Answers (.key p chan prio) s .ok (talkReply r') (s.modChan c fun _ => r')
      let out (pending : Option TalkSide) (r : TalkRec) : TalkRec := { floorOut s.sys.uptime pending r with key := .keyed }
      let carriers : SegSet := setOf fun k => inSet r.coverage k && ((s.upl k).get c).carrier
      let barred : TalkRec := { r with barred := r.barred ||| carriers }
      (r.key = .stuck → exec (.key p chan prio) s = .next (served (.key p chan prio) .timedOut (talkReply r) s)) ∧
      (r.key ≠ .stuck → prio = 0 →
        (r.floor = .idle → gives (out none r)) ∧
        (r.floor = .inbound → gives { r with pending := some .outbound, key := .keyed }) ∧
        (r.floor = .outbound → gives r) ∧
        (r.floor = .hang → r.hangSide = some .outbound → gives (out r.pending r)) ∧
        (r.floor = .hang → r.hangSide ≠ some .outbound → gives { r with pending := some .outbound, key := .keyed })) ∧
      (r.key ≠ .stuck → prio = 1 →
        (r.floor = .inbound → gives (out none barred)) ∧
        (r.floor = .outbound → r.pending = some .inbound → gives { barred with pending := none, key := .keyed }) ∧
        (r.floor = .outbound → r.pending ≠ some .inbound → gives { r with pending := none, key := .keyed }) ∧
        (r.floor = .idle ∨ r.floor = .hang → r.pending = some .inbound → gives (out none barred)) ∧
        (r.floor = .idle ∨ r.floor = .hang → r.pending ≠ some .inbound → gives (out none r)))

/-- R92: UNKEY. -/
def Obligations.UnkeyCommand : Prop :=
  ∀ (p : Port) (chan : Byte) (s : State), Ready (.unkey p chan) s →
    (chan.toNat = 0 ∨ 2 < chan.toNat → Refuses (.unkey p chan) s .badArgument) ∧
    ∀ c : Chan, chan.toNat = chanCode c →
      let r := s.chan c
      let gives (r' : TalkRec) : Prop := Answers (.unkey p chan) s .ok (talkReply r') (s.modChan c fun _ => r')
      (r.key = .keyed → r.floor = .outbound →
        gives { floorEnd s.sys.uptime s.talk.hangMs (bestVote s c) r with key := .unkeyed }) ∧
      (r.key = .keyed → r.floor ≠ .outbound → gives { r with key := .unkeyed, pending := none }) ∧
      (r.key = .stuck → gives { r with key := .unkeyed }) ∧
      (r.key = .unkeyed → gives r)

/-- R18, R80, R82, R83, R88, R89, R97: eligibility, the vote, and an uplink notice. MODEL'S READINGS: the floor reacts to the set as it
stands (log 23), and which record a serial in two of them means (log 33). -/
def Obligations.NoticeTaken : Prop :=
  (∀ (s : State) (c : Chan) (k : SegId), inSet (eligibleSet s c) k = true ↔
    k.val < s.loop.n ∧ (s.seg k).link = .present ∧ inSet (s.chan c).coverage k = true ∧ ((s.upl k).get c).carrier = true ∧
    3 ≤ ((s.upl k).get c).quality.toNat ∧ inSet (s.chan c).barred k = false) ∧
  (∀ (s : State) (c : Chan), (bestVote s c = none ↔ eligibleSet s c = 0) ∧
    ∀ v, bestVote s c = some v → inSet (eligibleSet s c) v = true ∧
      ∀ k, inSet (eligibleSet s c) k = true → qualityAt s c k ≤ qualityAt s c v ∧ (qualityAt s c k = qualityAt s c v → v ≤ k)) ∧
  (∀ (s : State) (c : Chan) (v : SegId), (s.chan c).voted = some v →
    let stays := inSet (eligibleSet s c) v = true ∧
      ∀ k, inSet (eligibleSet s c) k = true → qualityAt s c k < qualityAt s c v + 2
    (stays → revote s c = some v) ∧ (¬ stays → revote s c = bestVote s c)) ∧
  ∀ (x : Side) (frame : List Byte) (s : State), s.sys.held = false →
    ((decodeNotice frame = none ∨ ∃ f, decodeNotice frame = some f ∧ noticeSegment s f.serial = none) →
      exec (.uplinkNotice x frame) s = .next s) ∧
    ∀ f k, decodeNotice frame = some f → noticeSegment s f.serial = some k →
      (k.val < s.loop.n ∧ (s.seg k).link = .present ∧ (s.seg k).serial = some f.serial) ∧
      (s.talk.seq[k] = some f.seq → exec (.uplinkNotice x frame) s = .next s) ∧
      (s.talk.seq[k] ≠ some f.seq →
        let released : SegSet := if ((s.upl k).get f.chan).carrier && !f.uplink.carrier then setOf fun j => j = k else 0
        let w : State :=
          { s with talk.uplink := vupd s.talk.uplink k fun u => u.set f.chan f.uplink,
                   talk.seq := vupd s.talk.seq k fun _ => some f.seq }
        let w := w.modChan f.chan fun r => { r with barred := r.barred &&& ~~~released }
        Becomes (.uplinkNotice x frame) s
          (w.modChan f.chan
            (floorTable s.sys.uptime s.talk.hangMs (eligibleSet w f.chan ≠ 0) (bestVote w f.chan) (revote w f.chan))))

/-- R93, R95, R96, R75, R76: a hang expiry, a TOT expiry and a 100 ms mark, each when it is due. -/
def Obligations.TalkTimersRun : Prop :=
  (∀ (c : Chan) (s : State),
    let r := s.chan c
    let barred : TalkRec := { r with barred := r.barred ||| eligibleSet s c }
    (.hangExpiry c ∈ dueRows s →
      (r.pending = some .outbound → Becomes (.hangExpiry c) s (s.modChan c fun _ => floorOut s.sys.uptime none r)) ∧
      (r.pending = some .inbound → Becomes (.hangExpiry c) s (s.modChan c fun _ => floorIn s.sys.uptime (bestVote s c) none r)) ∧
      (r.pending = none → Becomes (.hangExpiry c) s
        (s.modChan c fun _ => { r with floor := .idle, voted := none, hangSide := none, totStart := none, hangExpiry := none }))) ∧
    (.totExpiry c ∈ dueRows s →
      (r.floor = .inbound → r.pending = some .outbound →
        Becomes (.totExpiry c) s (s.modChan c fun _ => floorOut s.sys.uptime none barred)) ∧
      (r.floor = .inbound → r.pending ≠ some .outbound →
        Becomes (.totExpiry c) s (s.modChan c fun _ => floorHang s.sys.uptime s.talk.hangMs .inbound barred)) ∧
      (r.floor = .outbound → Becomes (.totExpiry c) s
        (s.modChan c fun _ => { floorEnd s.sys.uptime s.talk.hangMs (bestVote s c) r with key := .stuck })))) ∧
  ∀ s : State, .airtimeMark ∈ dueRows s →
    ∃ t, exec .airtimeMark s = .next t ∧
      OnlyEvents { s with lastMark := some s.sys.uptime, meter := { s.meter with airtime := t.meter.airtime } } t ∧
      ∀ c, (t.meter.airtime.get c).value = (s.meter.airtime.get c).value + (if (s.chan c).floor = .idle then 0 else 1) ∧
        (t.meter.airtime.get c).wrapped = ((s.meter.airtime.get c).wrapped ||
          decide ((s.chan c).floor ≠ .idle) && decide ((s.meter.airtime.get c).value = 0xffffffff#32))

/-! ### Break-in -/

/-- R135 to R137, R139, R140, R142, R143: the ranking and the owners, START BREAK-IN and STOP BREAK-IN. MODEL'S CHOICE (log 11): the
bytes of a live record in the answers (ON as 0, the feed as one byte without a presence byte). -/
def Obligations.BreakInCommands : Prop :=
  (∀ s : State, ranking s = [.liveE, .liveO] ++ (if (s.pchan .p1).owner = PlayOwner.incident then [Source.p1] else []) ++
    ((match s.brk.priority with | .fixed => [PChan.p1, .p2, .p3, .p4] | .rotating => s.play.rotation).filter fun c : PChan =>
      !(decide (c = PChan.p1) && decide ((s.pchan .p1).owner = PlayOwner.incident))).map sourceOf) ∧
  (∀ (s : State) (k : SegId), ownerNow s k =
    if k.val < s.loop.n ∧ 0 < (s.aseg k).bc.grant then
      ((ranking s).find? fun x => match sourceZone s x with | some z => inSet z k | none => false).getD .none
    else .none) ∧
  (∀ (p : Port) (zone : SegSet) (feed : Byte) (s : State), Ready (.startBreakIn p zone feed) s →
    (setOk s zone = false ∨ p = .o ∧ feed ≠ 0 ∨ p = .e ∧ feed ∉ [1, 2, 3] →
      Refuses (.startBreakIn p zone feed) s .badArgument) ∧
    (setOk s zone = true → p = .o → feed = 0 →
      ∃ t, exec (.startBreakIn p zone feed) s = .next t ∧
        Undisturbed (served (.startBreakIn p zone feed) .ok ([0] ++ be3 zone ++ be3 (ownedBy t.brk.owners .liveO))
          { s with brk.liveO := some zone }) t ∧ (OwnersRight s → OwnersRight t)) ∧
    ∀ f : Feed, setOk s zone = true → p = .e → feed.toNat = feedCode (some f) →
      ∃ t, exec (.startBreakIn p zone feed) s = .next t ∧
        Undisturbed (served (.startBreakIn p zone feed) .ok ([0] ++ be3 zone ++ [feed] ++ be3 (ownedBy t.brk.owners .liveE))
          { s with brk.liveE := some ⟨zone, f⟩ }) t ∧ (OwnersRight s → OwnersRight t)) ∧
  ∀ (p : Port) (s : State), Ready (.stopBreakIn p) s →
    ∃ t, exec (.stopBreakIn p) s = .next t ∧
      (p = .o → Undisturbed (served (.stopBreakIn p) .ok (be3 (ownedBy s.brk.owners .liveO)) { s with brk.liveO := none }) t) ∧
      (p = .e → Undisturbed (served (.stopBreakIn p) .ok (be3 (ownedBy s.brk.owners .liveE)) { s with brk.liveE := none }) t) ∧
      (OwnersRight s → OwnersRight t)

/-! ### The message store -/

/-- R107, R108, R116: OPEN MESSAGE takes the lowest run of free blocks that is long enough. -/
def Obligations.OpenCommand : Prop :=
  ∀ (p : Port) (id : Byte) (length : Word) (tag : Byte) (s : State), Ready (.openMessage p id length tag) s →
    (id.toNat = 0 ∨ 64 < id.toNat ∨ length = 0 ∨ 1048576 < length.toNat ∨ 15 < tag.toNat →
      Refuses (.openMessage p id length tag) s .badArgument) ∧
    ∀ i : MsgId, id.toNat = i.val + 1 → 1 ≤ length.toNat → length.toNat ≤ 1048576 → tag.toNat ≤ 15 →
      let c := (length.toNat + 4095) / 4096
      let fits (x : Nat) : Prop := x + c ≤ 1024 ∧
        ∀ j m, (s.msg j).content.body? = some m → x + c ≤ m.first ∨ m.first + m.blocks ≤ x
      ((s.msg i).content ≠ .empty → Refuses (.openMessage p id length tag) s .exists_) ∧
      ((s.msg i).content = .empty → (∀ x, ¬ fits x) → Refuses (.openMessage p id length tag) s .noSpace) ∧
      ∀ x, (s.msg i).content = .empty → fits x → (∀ y, y < x → ¬ fits y) →
        let u := s.modMsg i fun r => { r with content := .loading ⟨x, c, length.toNat, tag.extractLsb' 0 4, 0⟩ 0 }
        exec (.openMessage p id length tag) s = .next (served (.openMessage p id length tag) .ok
          ([id] ++ b2 x ++ b2 c ++ b2 (freeBlocks (heldRuns u.store.dir)))
          (u.raise toO .messageState id 0x0101 0))

/-- R109, R105: WRITE CHUNK, its checks in order, the bytes it stores and those it leaves. MODEL'S CHOICE (log 12): BAD_SEQUENCE for
a closed record has no payload. -/
def Obligations.ChunkWrites : Prop :=
  ∀ (p : Port) (id : Byte) (offset : Word) (chunk : List Byte) (s : State), Ready (.writeChunk p id offset chunk) s →
    (id.toNat = 0 ∨ 64 < id.toNat → Refuses (.writeChunk p id offset chunk) s .badArgument) ∧
    ∀ i : MsgId, id.toNat = i.val + 1 →
      ((s.msg i).content = .empty → Refuses (.writeChunk p id offset chunk) s .notFound) ∧
      ((s.msg i).content.isClosed = true → Refuses (.writeChunk p id offset chunk) s .badSequence) ∧
      ∀ m next, (s.msg i).content = .loading m next →
        (offset.toNat ≠ next → exec (.writeChunk p id offset chunk) s =
          .next (served (.writeChunk p id offset chunk) .badSequence (b4 next) s)) ∧
        (offset.toNat = next → m.length < next + chunk.length → Refuses (.writeChunk p id offset chunk) s .badArgument) ∧
        (offset.toNat = next → chunk.length ≠ 256 → next + chunk.length ≠ m.length →
          Refuses (.writeChunk p id offset chunk) s .badArgument) ∧
        (offset.toNat = next → next + chunk.length ≤ m.length → chunk.length = 256 ∨ next + chunk.length = m.length →
          ∃ mem, exec (.writeChunk p id offset chunk) s =
              .next (served (.writeChunk p id offset chunk) .ok ([id] ++ b4 (next + chunk.length))
                { s.modMsg i (fun r => { r with
                    content := .loading { m with computed := m.computed + checksum chunk } (next + chunk.length) }) with
                  store.mem := mem }) ∧
            (MemoryCanonical s →
              (∀ n, n < chunk.length → memRead mem (msgAddr m.first (next + n)) = chunk.getD n 0) ∧
              ∀ a, (∀ n, n < chunk.length → a ≠ msgAddr m.first (next + n)) → memRead mem a = memRead s.store.mem a))

/-- R110, R116: CLOSE MESSAGE and DELETE MESSAGE. MODEL'S CHOICE (log 11): the computed checksum stands before the declared one in
the answer. -/
def Obligations.CloseAndDelete : Prop :=
  (∀ (p : Port) (id : Byte) (declared : Half) (s : State), Ready (.closeMessage p id declared) s →
    (id.toNat = 0 ∨ 64 < id.toNat → Refuses (.closeMessage p id declared) s .badArgument) ∧
    ∀ i : MsgId, id.toNat = i.val + 1 →
      ((s.msg i).content = .empty → Refuses (.closeMessage p id declared) s .notFound) ∧
      ((s.msg i).content.isClosed = true → Refuses (.closeMessage p id declared) s .badSequence) ∧
      ∀ m next, (s.msg i).content = .loading m next →
        (next < m.length → exec (.closeMessage p id declared) s =
          .next (served (.closeMessage p id declared) .incomplete (b4 next) s)) ∧
        (m.length ≤ next →
          let code : Byte := if m.computed = declared then 2 else 3
          exec (.closeMessage p id declared) s = .next (served (.closeMessage p id declared) .ok
            ([code] ++ be2 m.computed ++ be2 declared)
            ((s.modMsg i fun r => { r with content := .closed m declared (decide (m.computed ≠ declared)) }).raise toO
              .messageState id (hiLo code 2) m.computed)))) ∧
  ∀ (p : Port) (id : Byte) (s : State), Ready (.deleteMessage p id) s →
    (id.toNat = 0 ∨ 64 < id.toNat → Refuses (.deleteMessage p id) s .badArgument) ∧
    ∀ i : MsgId, id.toNat = i.val + 1 →
      ((s.msg i).content = .empty → Refuses (.deleteMessage p id) s .notFound) ∧
      ((s.msg i).content ≠ .empty → (s.msg i).uses ≠ 0 → Refuses (.deleteMessage p id) s .inUse) ∧
      ((s.msg i).content ≠ .empty → (s.msg i).uses = 0 →
        exec (.deleteMessage p id) s = .next (served (.deleteMessage p id) .ok []
          ((s.modMsg i fun r => { r with content := .empty }).raise toO .messageState id 0x0003 0)))

/-! ### Playout -/

/-- R122, R111: PROGRAM PLAYOUT and the use counts. -/
def Obligations.ProgramCommand : Prop :=
  ∀ (p : Port) (chan kind mode : Byte) (zone : SegSet) (list : List Byte) (s : State),
    Ready (.programPlayout p chan kind mode zone list) s →
    let i : Instr := .programPlayout p chan kind mode zone list
    let bad := chan.toNat = 0 ∨ 4 < chan.toNat ∨ 1 < kind.toNat ∨ 1 < mode.toNat ∨ (∃ b ∈ list, b.toNat = 0 ∨ 64 < b.toNat) ∨
      kind = 0 ∧ setOk s zone = false ∨ kind = 1 ∧ zone ≠ 0
    (bad → Refuses i s .badArgument) ∧
    ∀ c : PChan, chan.toNat = pchanCode c → ¬ bad →
      (c = .p1 → s.play.p1Held = true → Refuses i s .inUse) ∧
      ((c = .p1 → s.play.p1Held = false) → (s.pchan c).state ≠ .idle → Refuses i s .busy) ∧
      ((c = .p1 → s.play.p1Held = false) → (s.pchan c).state = .idle →
        ∃ prog dir, exec i s = .next (served i .ok [] { s.modPchan c (fun r => { r with program := some prog }) with store.dir := dir }) ∧
          prog.kind = (if kind = 0 then .play else .check) ∧ prog.repeats = decide (mode = 1) ∧ prog.zone = zone ∧
          prog.playlist.map idByte = list ∧
          ∀ j : MsgId, dir[j].content = (s.msg j).content ∧
            dir[j].uses =
              if j ∈ prog.playlist ∧ ¬ programNames (s.pchan c).program j = true then (s.msg j).uses + 1
              else if programNames (s.pchan c).program j = true ∧ j ∉ prog.playlist then (s.msg j).uses - 1
              else (s.msg j).uses)

/-- R123, R124, R131: START PLAYOUT and STOP PLAYOUT. -/
def Obligations.StartAndStop : Prop :=
  (∀ (p : Port) (chan : Byte) (s : State), Ready (.startPlayout p chan) s →
    (chan.toNat = 0 ∨ 4 < chan.toNat → Refuses (.startPlayout p chan) s .badArgument) ∧
    ∀ c : PChan, chan.toNat = pchanCode c →
      (c = .p1 → s.play.p1Held = true → Refuses (.startPlayout p chan) s .inUse) ∧
      ((c = .p1 → s.play.p1Held = false) → (s.pchan c).state ≠ .idle → Refuses (.startPlayout p chan) s .busy) ∧
      ((c = .p1 → s.play.p1Held = false) → (s.pchan c).state = .idle →
        ((s.pchan c).program = none → Refuses (.startPlayout p chan) s .notReady) ∧
        ∀ prog first, (s.pchan c).program = some prog → prog.playlist.head? = some first →
          ((∃ j ∈ prog.playlist, (s.msg j).content.isClosed = false) ∨ (s.msg first).content.ready = false →
            Refuses (.startPlayout p chan) s .notReady) ∧
          ((∀ j ∈ prog.playlist, (s.msg j).content.isClosed = true) → (s.msg first).content.ready = true →
            ∃ t, exec (.startPlayout p chan) s = .next t ∧
              (t.port p).holding = ⟨.ok, 0x51, b1 (playStateCode (t.pchan c).state)⟩ ∧
              (t.pchan c).owner = portOwner p ∧ (t.pchan c).finish = false ∧ (t.pchan c).program = some prog ∧
              (t.pchan c).cur = some ⟨0, 0, 0, 0⟩ ∧
              (prog.kind = .check → (t.pchan c).state = .checking ∧ t.brk = s.brk ∧
                ∀ d, d ≠ c → t.pchan d = s.pchan d) ∧
              (prog.kind = .play → (t.pchan c).state =
                if ownedBy t.brk.owners (sourceOf c) = 0 then .held else .playing) ∧
              t.sys = s.sys ∧ t.store = s.store ∧ t.loop = s.loop ∧ t.alloc = s.alloc ∧ t.talk = s.talk ∧ t.inc = s.inc ∧
              t.play.rotation = s.play.rotation ∧ t.play.p1Held = s.play.p1Held ∧ t.meter = s.meter))) ∧
  ∀ (p : Port) (chan : Byte) (s : State), Ready (.stopPlayout p chan) s →
    (chan.toNat = 0 ∨ 4 < chan.toNat → Refuses (.stopPlayout p chan) s .badArgument) ∧
    ∀ c : PChan, chan.toNat = pchanCode c →
      (p = .e → (s.pchan c).owner ≠ .e → Refuses (.stopPlayout p chan) s .notPermitted) ∧
      (p = .o ∨ (s.pchan c).owner = .e → (s.pchan c).state = .idle →
        exec (.stopPlayout p chan) s = .next (served (.stopPlayout p chan) .ok [] s)) ∧
      (p = .o ∨ (s.pchan c).owner = .e → (s.pchan c).state ≠ .idle →
        ∃ t, exec (.stopPlayout p chan) s = .next t ∧ Undisturbed (served (.stopPlayout p chan) .ok [] s) t ∧
          t.alloc = s.alloc ∧ t.loop = s.loop ∧
          t.pchan c = { s.pchan c with
            state := .idle, cur := none, finish := false,
            owner := if c = .p1 ∧ s.play.p1Held = true then .incident else .none })

/-- R120, R121, R125, R127, R128, R112: the message ends of a PLAY and of a CHECK channel, when they are due. The next message
begins at the moment of the end: the time beyond it is already the next message's (log 4). -/
def Obligations.MessageEnds : Prop :=
  ∀ (c : PChan) (s : State) (prog : Program) (q : Cursor),
    (s.pchan c).program = some prog → (s.pchan c).cur = some q → q.index < prog.playlist.length →
    let last := q.index + 1 = prog.playlist.length
    let next := if last then 0 else q.index + 1
    let ended (t : State) : Prop := (t.pchan c).state = .idle ∧ (t.pchan c).cur = none ∧ (t.pchan c).finish = false ∧
      (t.pchan c).owner = if c = .p1 ∧ s.play.p1Held = true then .incident else .none
    let early (m : MsgBody) : Nat := min (q.frac / 125) m.length
    (.messageEnd c ∈ dueRows s →
      ∃ t, exec (.messageEnd c) s = .next t ∧ t.play.rotation = (s.play.rotation.filter fun x => x ≠ c) ++ [c] ∧
        t.store = s.store ∧ t.sys = s.sys ∧ t.alloc = s.alloc ∧ t.talk = s.talk ∧ t.inc = s.inc ∧
        (t.pchan c).program = some prog ∧
        ((s.pchan c).finish = true → ended t) ∧ ((s.pchan c).finish = false → last → prog.repeats = false → ended t) ∧
        ((s.pchan c).finish = false → (last → prog.repeats = true) →
          (messageReady s prog.playlist[next]? = false → ended t) ∧
          ∀ id, prog.playlist[next]? = some id → ∀ m declared, (s.msg id).content = .closed m declared false →
            (t.pchan c).state = .playing ∧ (t.pchan c).cur = some ⟨next, early m, q.frac - 125 * early m, 0⟩ ∨
            (t.pchan c).state = .held ∧ (t.pchan c).cur = some ⟨next, 0, 0, 0⟩)) ∧
    (.checkMessageEnd c ∈ dueRows s →
      ∀ id, prog.playlist[q.index]? = some id → ∀ m declared damaged, (s.msg id).content = .closed m declared damaged →
        ∃ t, exec (.checkMessageEnd c) s = .next t ∧ t.play.rotation = s.play.rotation ∧ t.brk = s.brk ∧
          t.sys = s.sys ∧ t.alloc = s.alloc ∧ t.talk = s.talk ∧ t.inc = s.inc ∧ (t.pchan c).program = some prog ∧
          (∀ j, t.msg j = if j = id ∧ q.sum ≠ declared then
            { s.msg id with content := .closed { m with computed := q.sum } declared true } else s.msg j) ∧
          t.store.mem = s.store.mem ∧
          ((s.pchan c).finish = true → ended t) ∧ ((s.pchan c).finish = false → last → prog.repeats = false → ended t) ∧
          ((s.pchan c).finish = false → (last → prog.repeats = true) →
            (messageReady t prog.playlist[next]? = false → ended t) ∧
            ∀ id', prog.playlist[next]? = some id' → ∀ m' declared', (t.msg id').content = .closed m' declared' false →
              (t.pchan c).state = .checking ∧ (t.pchan c).cur = some ⟨next, early m', q.frac - 125 * early m',
                checksum (memLoad s.store.mem m'.first 0 (early m'))⟩))

/-! ### Surveys -/

/-- R9, R10: the start of a survey round, and how a survey ends; the round that this completes is evaluated (`Evaluated`; the order of
the blocks: the model's choice, log 13). MODEL'S CHOICE (log 3): a timeout that is not due changes nothing. MODEL'S READINGS: an
acquisition clears the levels of its own round (log 14), pauses (log 17, 38), mismatch and crossed positions (log 21, 43), the zeroing of
applied levels (log 27), requests before an acquisition (log 37), uplink presence (log 44), rescue activity compared over the event (log 39), the unassigned temperature code (log 42, a free value). -/
def Obligations.SurveyRounds : Prop :=
  (∀ s : State, .surveyRound ∈ dueRows s →
    let left := portLinkUp s.plant .left
    let right := portLinkUp s.plant .right
    let sent (d : Side) : WireFrame := ⟨.head d, encodeSurvey ⟨d, decide (s.sys.part = .setup), s.loop.round + 1, []⟩⟩
    let w : State :=
      { s with loop.round := s.loop.round + 1, loop.timerStart := s.sys.uptime, loop.timerPeriod := s.loop.period,
               loop.surveys := ⟨if left then .inFlight s.sys.uptime else .ended .notSent,
                                if right then .inFlight s.sys.uptime else .ended .notSent⟩,
               wire := s.wire ++ (if left then [sent .left] else []) ++ (if right then [sent .right] else []) }
    ((left = true ∨ right = true) → exec .surveyRound s = .next w) ∧
    (left = false → right = false → ∃ t, exec .surveyRound s = .next t ∧ Evaluated .notSent .notSent w t)) ∧
  (∀ (port : Side) (frame : List Byte) (s : State), s.sys.held = false →
    ((decodeSurvey frame = none ∨ ∃ f, decodeSurvey frame = some f ∧
        (f.round ≠ s.loop.round ∨ (s.loop.surveys.side f.origin).inFlight? = false)) →
      exec (.surveyArrival port frame) s = .next s) ∧
    ∀ f at_, decodeSurvey frame = some f → f.round = s.loop.round → s.loop.surveys.side f.origin = .inFlight at_ →
      let o : SurveyOutcome := if port = f.origin then .returned f.entries else .crossed f.entries
      let w : State := { s with loop.surveys := s.loop.surveys.setSide f.origin (.ended o) }
      ((∀ x, s.loop.surveys.side f.origin.other ≠ .ended x) → exec (.surveyArrival port frame) s = .next w) ∧
      ∀ x, s.loop.surveys.side f.origin.other = .ended x →
        ∃ t, exec (.surveyArrival port frame) s = .next t ∧
          (f.origin = .left → Evaluated o x w t) ∧ (f.origin = .right → Evaluated x o w t)) ∧
  ∀ (d : Side) (s : State),
    (.surveyTimeout d ∉ dueRows s → exec (.surveyTimeout d) s = .next s) ∧
    (.surveyTimeout d ∈ dueRows s →
      let w : State := { s with loop.surveys := s.loop.surveys.setSide d (.ended .timedOut) }
      ((∀ x, s.loop.surveys.side d.other ≠ .ended x) → exec (.surveyTimeout d) s = .next w) ∧
      ∀ x, s.loop.surveys.side d.other = .ended x →
        ∃ t, exec (.surveyTimeout d) s = .next t ∧
          (d = .left → Evaluated .timedOut x w t) ∧ (d = .right → Evaluated x .timedOut w t))

/-- R11, R12: which entry stands for which position, the reach, the fold state and the mismatch condition. MODEL'S CHOICES: the counts of
the mismatch (log 21) and the positions of a right survey that alone crossed with too few entries (log 43). -/
def Obligations.Sightings : Prop :=
  ∀ (n : Nat) (l r : SurveyOutcome), n ≤ 24 →
    let g := sighting n l r
    let crossedOff (x : SurveyOutcome) : Prop := ∃ es, x = .crossed es ∧ es.length ≠ n
    let tooMany (x : SurveyOutcome) : Prop := ∃ es, x = .returned es ∧ n < es.length
    (∀ k, g.seen k = none → g.reach k = .none) ∧ (∀ k : SegId, n ≤ k.val → g.seen k = none) ∧
    (∀ es, l = .crossed es →
      g.fold = .whole ∧ (∀ k : SegId, k.val < n → g.seen k = es[k.val]?) ∧
      (∀ k, (g.seen k).isSome = true → g.reach k = .both) ∧
      (g.mismatch = true ↔ 0 < n ∧ (crossedOff l ∨ crossedOff r ∨ tooMany r))) ∧
    (∀ es, r = .crossed es → (∀ es', l ≠ .crossed es') →
      g.fold = .whole ∧ (∀ k : SegId, k.val < n → g.seen k = es[n - 1 - k.val]?) ∧
      (∀ k, (g.seen k).isSome = true → g.reach k = .both) ∧
      (g.mismatch = true ↔ 0 < n ∧ (crossedOff r ∨ tooMany l))) ∧
    ((∀ es, l ≠ .crossed es) → (∀ es, r ≠ .crossed es) →
      let a := min l.back.length n
      let b := n + 1 - min r.back.length n
      g.fold = .folded a (if b ≤ a then a + 1 else b) ∧
      (∀ k : SegId, k.val < a → g.seen k = l.back[k.val]? ∧ g.reach k = .left) ∧
      (∀ k : SegId, a ≤ k.val → k.val < n → g.seen k = r.back[n - 1 - k.val]? ∧
        ((g.seen k).isSome = true → g.reach k = .right)) ∧
      (g.mismatch = true ↔ 0 < n ∧ (tooMany l ∨ tooMany r ∨ b ≤ a)))

/-! ### Directives -/

/-- R26, R27, R28, R29, R33: DIRECTIVE_ISSUE. -/
def Obligations.DirectiveIssued : Prop :=
  ∀ (k : SegId) (s : State), s.sys.held = false → s.sys.part = .run → (s.seg k).link = .present →
    (s.unit k).inflight = none → quietPassed s.sys.uptime (s.unit k) = true →
    let u := s.unit k
    let d := preferredSide s.loop.n k (s.seg k).reach
    let close := s.sys.uptime + 10
    let sent (u' : UnitRec) (c : Content) (body : DirectiveBody) : Prop :=
      exec (.directiveIssue k) s = .next
        { s.modUnit k (fun _ => { u' with inflight := some ⟨c, false, .main, 1, d, none, some close, none, false, .noReply⟩,
                                          quiet := some close }) with
          wire := s.wire ++ [directiveOut s k d body] }
    let levels (v : Six Nat) : Prop :=
      ∃ c : Six Nat,
        (∀ e, c.get e = if ((s.aseg k).grants.get e) ≤ v.get e then (s.aseg k).grants.get e
          else min ((s.aseg k).grants.get e) (v.get e + s.engine.rampStep)) ∧
        (c = v → exec (.directiveIssue k) s = .next (s.modUnit k fun u => { u with levelsSlot := .empty })) ∧
        (c ≠ v → sent { u with levelsSlot := .empty } (.levels c) (.levels (c.map (BitVec.ofNat 16))))
    let mayGo (m : TargetMode) : Prop :=
      modeHeldBack (s.seg k) = false ∧ (m = .active ∨ u.applied = some (.all 0))
    (u.levelsSlot = .zeroReset → observedDormant (s.seg k) = false →
      sent { u with levelsSlot := .empty } .zeroReset (.levels (.all 0))) ∧
    (u.levelsSlot = .zeroReset → observedDormant (s.seg k) = true →
      exec (.directiveIssue k) s =
        .next ((s.modUnit k fun u => { u with levelsSlot := .empty }).setApplied k (some (.all 0)))) ∧
    (∀ m, u.levelsSlot ≠ .zeroReset → u.modeSlot = some m → mayGo m →
      (observedDormant (s.seg k) = false → sent { u with modeSlot := none } (.mode m) (.mode m)) ∧
      (observedDormant (s.seg k) = true → exec (.directiveIssue k) s = .next
        { s.modUnit k (fun u => { u with
            modeSlot := none,
            inflight := some ⟨.mode m, true, .rouseWait, 1, d, none, none, some (s.sys.uptime + 10), false, .noReply⟩ }) with
          wire := s.wire ++ [directiveOut s k d .rouse] })) ∧
    (∀ v, u.levelsSlot = .levels → u.applied = some v → (∀ m, u.modeSlot = some m → ¬ mayGo m) → levels v)

/-- R28 to R34: a reply frame; every row of the tables of R30 and R32. MODEL'S READINGS: replies that no
rule lists for a step (log 18), those that arrive before the first ROUSE of a directive converted while its segment is not PRESENT
(log 47), whose directive a serial in two records means (log 33), and a step that falls due while the segment is not PRESENT, which
pauses the directive (log 38). -/
def Obligations.RepliesTaken : Prop :=
  ∀ (x : Side) (frame : List Byte) (s : State), s.sys.held = false →
    ((decodeReply frame = none ∨ ∃ f, decodeReply frame = some f ∧ replySegment s f.serial = none) →
      exec (.directiveReply x frame) s = .next s) ∧
    ∀ f k d, decodeReply frame = some f → replySegment s f.serial = some k → (s.unit k).inflight = some d →
      let becomes := Becomes (.directiveReply x frame) s
      let done := s.modUnit k fun u => { u with inflight := none }
      let zeroed := done.setApplied k (some (.all 0))
      let failed (w : State) (reason : Nat) : Prop := exec (.directiveReply x frame) s = .next
        ((w.raise toO .directiveFailed (segByte k)
          (hiLo (BitVec.ofNat 8 (contentCode d.content)) (BitVec.ofNat 8 ((if d.rouse then 128 else 0) + reason)))
          ((((s.seg k).serial).getD 0).extractLsb' 0 16)).modUnit k fun u =>
            { u with inflight := none, levelsSlot := .empty, modeSlot := none })
      (∀ m, d.step = .main → f.outcome = .ack m →
        (∀ v, d.content = .levels v → m = .active ∨ m = .standby → becomes (done.setApplied k (some v))) ∧
        (∀ v, d.content = .levels v → m = .overheat → becomes zeroed) ∧
        (d.content = .zeroReset → becomes zeroed) ∧
        (d.content = .probe → becomes (zeroed.modUnit k fun u => { u with marked := false })) ∧
        (∀ t, d.content = .mode t → m = .active → becomes done) ∧
        (∀ t, d.content = .mode t → m ≠ .active → becomes zeroed)) ∧
      (f.outcome = .wrongUnit → ∃ t, exec (.directiveReply x frame) s = .next t ∧ t.unit k =
          { s.unit k with inflight := none, levelsSlot := .empty, modeSlot := none } ∧
        Undisturbed ((s.modUnit k fun u => { u with inflight := none, levelsSlot := .empty, modeSlot := none }).modSeg k
          fun r => { r with acquired := false }) t) ∧
      (f.outcome = .rating → d.step = .main ∨ d.step = .rouse2 → d.content ≠ .probe → failed s 1) ∧
      (f.outcome = .supplyLow → d.rouse = true ∨ d.step ≠ .main → d.step ≠ .rouse1 → d.content ≠ .probe → failed s 2) ∧
      (f.outcome = .supplyLow → d.rouse = false → d.step = .main → exec (.directiveReply x frame) s = .next s) ∧
      (f.outcome = .rating ∨ f.outcome = .asleep → d.step = .rouseWait → exec (.directiveReply x frame) s = .next s) ∧
      (f.outcome ≠ .wrongUnit → d.step = .rouse1 → exec (.directiveReply x frame) s = .next s) ∧
      (f.outcome = .rating → d.content = .probe → exec (.directiveReply x frame) s = .next s) ∧
      (f.outcome = .asleep → d.step = .main ∨ d.step = .rouse2 →
        (d.content = .zeroReset ∨ d.content = .mode .dormant → becomes zeroed) ∧
        (d.content = .probe → becomes (zeroed.modUnit k fun u => { u with marked := false })) ∧
        (d.content ≠ .probe → (s.seg k).commanded = .dormant ∨ supplyLowRecorded (s.seg k) = true → becomes zeroed) ∧
        (d.content ≠ .zeroReset → d.content ≠ .probe → d.content ≠ .mode .dormant → (s.seg k).commanded ≠ .dormant →
          supplyLowRecorded (s.seg k) = false → d.rouse = false →
          ∃ t d', exec (.directiveReply x frame) s = .next t ∧ (t.unit k).inflight = some d' ∧ d'.content = d.content ∧
            d'.rouse = true ∧ d'.attempt = 1 ∧ d'.window = none ∧ (t.unit k).applied = some (.all 0) ∧
            let side := preferredSide s.loop.n k (s.seg k).reach
            ((s.seg k).link = .present → d'.step = .rouseWait ∧ d'.paused = none ∧ d'.side = side ∧
              t.wire = s.wire ++ [directiveOut s k side .rouse]) ∧
            ((s.seg k).link ≠ .present → d'.step = .rouse1 ∧ d'.paused = some 1 ∧ t.wire = s.wire)) ∧
        (d.content ≠ .zeroReset → d.content ≠ .probe → d.content ≠ .mode .dormant → (s.seg k).commanded ≠ .dormant →
          supplyLowRecorded (s.seg k) = false → d.rouse = true →
          let r := s.seg k
          let goesOn (n : Nat) (side : Side) : Prop := ∃ t d', exec (.directiveReply x frame) s = .next t ∧
            (t.unit k).inflight = some d' ∧ d'.content = d.content ∧ d'.rouse = true ∧ d'.attempt = n ∧ d'.side = side ∧
            d'.paused = none ∧ d'.step = .rouseWait ∧ d'.reason = .asleep ∧ (t.unit k).applied = some (.all 0) ∧
            t.wire = s.wire ++ [directiveOut s k side .rouse]
          (d.attempt = 1 → r.link = .present →
            goesOn 2 (if reachIncludes r.reach d.side then d.side else preferredSide s.loop.n k r.reach)) ∧
          (d.attempt = 2 → r.link = .present → r.reach = .both → goesOn 3 d.side.other) ∧
          (d.attempt = 1 ∨ d.attempt = 2 → r.link ≠ .present →
            ∃ t d', exec (.directiveReply x frame) s = .next t ∧ (t.unit k).inflight = some d' ∧ d'.content = d.content ∧
              d'.rouse = true ∧ d'.attempt = d.attempt ∧ d'.paused = some (d.attempt + 1) ∧ d'.reason = .asleep ∧
              (t.unit k).applied = some (.all 0) ∧ t.wire = s.wire) ∧
          (d.attempt = 3 ∨ d.attempt = 2 ∧ r.link = .present ∧ r.reach ≠ .both → failed (s.setApplied k (some (.all 0))) 3))) ∧
      (∀ m, f.outcome = .ack m → d.step = .rouseWait →
        exec (.directiveReply x frame) s = .next (s.modUnit k fun u => { u with inflight := some { d with awake := true } })) ∧
      (∀ m, f.outcome = .ack m → d.step = .rouse2 → (s.seg k).link ≠ .present →
        exec (.directiveReply x frame) s = .next (s.modUnit k fun u => { u with
          inflight := some { d with paused := some (d.paused.getD d.attempt), window := none, waitUntil := none } })) ∧
      (∀ m, f.outcome = .ack m → d.step = .rouse2 → (s.seg k).link = .present →
        exec (.directiveReply x frame) s = .next
          { s.modUnit k (fun u => { u with
              inflight := some { d with step := .main, window := some (s.sys.uptime + 10), waitUntil := none, paused := none },
              quiet := some (s.sys.uptime + 10) }) with
            wire := s.wire ++ [directiveOut s k d.side d.content.body] })

/-- R28, R29, R33, R34, R35: the close of a reply window and the end of a rouse wait, when they are due. MODEL'S READINGS: an attempt
2 that ends while the segment is not PRESENT pauses with attempt 3 due, whatever the reach (log 17); where the step after a rouse wait
falls due then, the directive pauses with the attempt under way (log 38). -/
def Obligations.TimeoutsAndWaits : Prop :=
  (∀ (k : SegId) (s : State) (d : Directive), .replyTimeout k ∈ dueRows s → (s.unit k).inflight = some d →
    let r := s.seg k
    let goesOn (n : Nat) (side : Side) : Prop := ∃ t d', exec (.replyTimeout k) s = .next t ∧
      (t.unit k).inflight = some d' ∧ d'.content = d.content ∧ d'.rouse = d.rouse ∧ d'.attempt = n ∧ d'.side = side ∧
      d'.paused = none ∧ d'.step = (if d.rouse then .rouseWait else .main) ∧
      t.wire = s.wire ++ [directiveOut s k side (if d.rouse then .rouse else d.content.body)]
    (d.content = .probe → exec (.replyTimeout k) s = .next (s.modUnit k fun u => { u with inflight := none, quiet := none })) ∧
    (d.content ≠ .probe → d.attempt = 1 → r.link = .present →
      goesOn 2 (if reachIncludes r.reach d.side then d.side else preferredSide s.loop.n k r.reach)) ∧
    (d.content ≠ .probe → d.attempt = 2 → r.link = .present → r.reach = .both → goesOn 3 d.side.other) ∧
    (d.content ≠ .probe → d.attempt = 1 ∨ d.attempt = 2 → r.link ≠ .present →
      ∃ t d', exec (.replyTimeout k) s = .next t ∧ (t.unit k).inflight = some d' ∧ d'.content = d.content ∧
        d'.attempt = d.attempt ∧ d'.paused = some (d.attempt + 1) ∧ d'.window = none ∧ t.wire = s.wire) ∧
    (d.content ≠ .probe → d.attempt = 3 ∨ d.attempt = 2 ∧ r.link = .present ∧ r.reach ≠ .both →
      ∃ t, exec (.replyTimeout k) s = .next t ∧
        Undisturbed (s.modUnit k fun u =>
          { u with inflight := none, levelsSlot := .empty, modeSlot := none, marked := true, quiet := none }) t ∧
        (t.unit k).levelsSlot = .empty ∧ (t.seg k).eff = 0)) ∧
  ∀ (k : SegId) (s : State) (d : Directive), .rouseWaitExpiry k ∈ dueRows s → (s.unit k).inflight = some d →
    let step (n : DStep) (body : DirectiveBody) : Prop := exec (.rouseWaitExpiry k) s = .next
      { s.modUnit k (fun u => { u with
          inflight := some { d with step := n, window := some (s.sys.uptime + 10), waitUntil := none, paused := none },
          quiet := some (s.sys.uptime + 10) }) with
        wire := s.wire ++ [directiveOut s k d.side body] }
    ((s.seg k).link = .present → (d.awake = true → step .main d.content.body) ∧ (d.awake = false → step .rouse2 .rouse)) ∧
    ((s.seg k).link ≠ .present → exec (.rouseWaitExpiry k) s = .next (s.modUnit k fun u => { u with
      inflight := some { d with paused := some (d.paused.getD d.attempt), window := none, waitUntil := none } }))

/-! ### Line units -/

/-- R1, R2, R3, R8: what a unit transmits in each mode; supply, temperature, uplink and link changes of a line unit and its loop. -/
def Obligations.UnitChanges : Prop :=
  (∀ (k : SegId) (s : State), (s.lineUnit k = none → s.downlink k = .off) ∧
    ∀ u, s.lineUnit k = some u →
      (u.mode = .active → s.downlink k = .transmits u.levels) ∧ (u.mode = .standby → s.downlink k = .muted) ∧
      (u.mode = .dormant ∨ u.mode = .overheat → s.downlink k = .off)) ∧
  (∀ (k : SegId) (serial : Word) (temp : TempClass) (supply : Supply) (s : State),
    ∃ t u, exec (.unitSupplyApplied k serial temp supply) s = .next t ∧ t.lineUnit k = some u ∧
      u.serial = serial ∧ u.temp = temp ∧ u.supply = supply ∧ u.forced = decide (supply = .low) ∧ u.levels = .all 0 ∧
      u.rouse = none ∧ u.mode = (if supply = .low then .dormant else if temp = .hot then .overheat else .standby) ∧
      { t with plant.units := s.plant.units, wire := s.wire } = s ∧ (∀ j, j ≠ k → t.lineUnit j = s.lineUnit j)) ∧
  (∀ (k : SegId) (temp : TempClass) (s : State),
    (s.lineUnit k = none → exec (.unitTemperatureChange k temp) s = .next s) ∧
    ∀ u, s.lineUnit k = some u →
      ∃ t v, exec (.unitTemperatureChange k temp) s = .next t ∧ t.lineUnit k = some v ∧
        { t with plant.units := s.plant.units, wire := s.wire } = s ∧ (∀ j, j ≠ k → t.lineUnit j = s.lineUnit j) ∧
        (temp = .hot ∧ (u.mode = .active ∨ u.mode = .standby) → v = { u with temp := .hot, mode := .overheat }) ∧
        (temp = .hot ∧ (u.mode = .dormant ∨ u.mode = .overheat) → v = { u with temp := .hot }) ∧
        (temp ≠ .hot ∧ u.mode ≠ .overheat → v = { u with temp := temp }) ∧
        (temp ≠ .hot ∧ u.mode = .overheat →
          { v with seq := u.seq, refQ := u.refQ } = { u with temp := temp, mode := .standby, levels := .all 0 })) ∧
  (∀ (k : SegId) (supply : Supply) (s : State),
    (s.lineUnit k = none → exec (.unitSupplyChange k supply) s = .next s) ∧
    ∀ u, s.lineUnit k = some u → exec (.unitSupplyChange k supply) s = .next (s.modLineUnit k fun _ =>
      if supply = .ok then { u with supply := .ok }
      else if u.mode = .dormant then { u with supply := .low, forced := true }
      else { u with supply := .low, mode := .dormant, forced := true, levels := .all 0, rouse := none })) ∧
  (∀ (k : SegId) (c : Chan) (carrier : Bool) (q : BitVec 4) (s : State),
    let w : State := { s with plant.rf := vupd s.plant.rf k fun r => r.set c ⟨carrier, q⟩ }
    (s.lineUnit k = none → exec (.unitUplinkChange k c carrier q) s = .next w) ∧
    ∀ u, s.lineUnit k = some u →
      let old := (s.plant.rf[k]).get c
      let due := (u.mode = .active ∨ u.mode = .standby) ∧ (old.carrier ≠ carrier ∨
        ∃ ref, u.refQ.get c = some ref ∧ (ref.toNat + 2 ≤ q.toNat ∨ q.toNat + 2 ≤ ref.toNat))
      let notice := encodeNotice ⟨u.serial, u.seq + 1, c, ⟨carrier, q⟩⟩
      (¬ due → exec (.unitUplinkChange k c carrier q) s = .next w) ∧
      (due → exec (.unitUplinkChange k c carrier q) s = .next
        { w.modLineUnit k (fun u => { u with seq := u.seq + 1, refQ := u.refQ.set c (some q) }) with
          wire := s.wire ++ [⟨.unit k .left, notice⟩, ⟨.unit k .right, notice⟩] })) ∧
  ∀ (i : Fin 25) (up : Bool) (s : State),
    exec (.loopLinkChange i up) s = .next { s with plant.links := vupd s.plant.links i fun _ => up }

/-- R4, R5, R6, R7, R8: a survey that passes a unit, and a directive that a unit takes. MODEL'S CHOICES: the notices of a unit that
wakes (log 19), and a survey that carries 255 entries already (log 41). -/
def Obligations.UnitFrames : Prop :=
  (∀ (k : SegId) (frame : List Byte) (m : Six Half) (s : State),
    ((s.lineUnit k = none ∨ decodeSurvey frame = none) → exec (.unitSurveyPass k frame m) s = .next s) ∧
    ∀ u f, s.lineUnit k = some u → decodeSurvey frame = some f →
      ∃ t v, exec (.unitSurveyPass k frame m) s = .next t ∧ t.lineUnit k = some v ∧
        { t with plant.units := s.plant.units, wire := s.wire } = s ∧ (∀ j, j ≠ k → t.lineUnit j = s.lineUnit j) ∧
        (f.hold = false ∨ u.mode = .dormant ∨ u.mode = .overheat → v = u) ∧
        (f.hold = true → u.mode = .active → v = { u with mode := if u.temp = .hot then .overheat else .standby, levels := .all 0 }) ∧
        (f.hold = true → u.mode = .standby → v = { u with levels := .all 0 }) ∧
        let alive := v.mode = .active ∨ v.mode = .standby
        let entry : SurveyEntry :=
          ⟨v.serial, v.mode, v.forced, some v.temp, v.supply,
            ⟨if alive then some (s.plant.rf[k]).t1 else none, if alive then some (s.plant.rf[k]).t2 else none⟩,
            if v.mode = .active then some m else none⟩
        let out (d : Side) : WireFrame := ⟨.unit k d, encodeSurvey { f with entries := f.entries ++ [entry] }⟩
        (linkUp s.plant k f.origin.other = true → t.wire = s.wire ++ [out f.origin.other]) ∧
        (linkUp s.plant k f.origin.other = false → linkUp s.plant k f.origin = true → t.wire = s.wire ++ [out f.origin]) ∧
        (linkUp s.plant k f.origin.other = false → linkUp s.plant k f.origin = false → t.wire = s.wire)) ∧
  ∀ (k : SegId) (x : Side) (frame : List Byte) (s : State),
    ((s.lineUnit k = none ∨ decodeDirective frame = none ∨ ∃ f, decodeDirective frame = some f ∧ f.hops ≠ 1) →
      exec (.unitDirectiveTaken k x frame) s = .next s) ∧
    ∀ u f, s.lineUnit k = some u → decodeDirective frame = some f → f.hops = 1 →
      let answers (v : LineUnit) (o : ReplyOutcome) : Prop := exec (.unitDirectiveTaken k x frame) s = .next
        { s.modLineUnit k (fun _ => v) with wire := s.wire ++ [⟨.unit k x, encodeReply ⟨f.serial, o⟩⟩] }
      let gap := s.plant.clock - u.rouse.getD 0
      (u.serial ≠ f.serial → answers u .wrongUnit) ∧
      (u.serial = f.serial → f.body ≠ .rouse → u.mode = .dormant → answers u .asleep) ∧
      (∀ v, u.serial = f.serial → f.body = .levels v → u.mode ≠ .dormant →
        (8000 < (v.map (·.toNat)).total → answers u .rating) ∧
        ((v.map (·.toNat)).total ≤ 8000 → answers { u with levels := v } (.ack u.mode))) ∧
      (∀ m, u.serial = f.serial → f.body = .mode m → u.mode ≠ .dormant →
        (u.mode = .overheat ∨ u.mode = unitModeOf m → answers u (.ack u.mode)) ∧
        (u.mode ≠ .overheat → u.mode ≠ unitModeOf m →
          (m = .active → answers { u with mode := .active } (.ack .active)) ∧
          (m = .standby → u.temp ≠ .hot → answers { u with mode := .standby, levels := .all 0 } (.ack .standby)) ∧
          (m = .standby → u.temp = .hot → answers { u with mode := .overheat, levels := .all 0 } (.ack .overheat)) ∧
          (m = .dormant → answers { u with mode := .dormant, forced := false, levels := .all 0, rouse := none } (.ack .dormant)))) ∧
      (u.serial = f.serial → f.body = .rouse → u.mode ≠ .dormant → answers u (.ack u.mode)) ∧
      (u.serial = f.serial → f.body = .rouse → u.mode = .dormant → (u.rouse = none ∨ gap < 5 ∨ 50 < gap) →
        exec (.unitDirectiveTaken k x frame) s = .next (s.modLineUnit k fun _ => { u with rouse := some s.plant.clock })) ∧
      (u.serial = f.serial → f.body = .rouse → u.mode = .dormant → u.rouse.isSome = true → 5 ≤ gap → gap ≤ 50 →
        (u.supply = .low → answers { u with rouse := none } .supplyLow) ∧
        (u.supply = .ok → u.temp = .hot →
          answers { u with mode := .overheat, forced := false, levels := .all 0, rouse := none } (.ack .standby)) ∧
        (u.supply = .ok → u.temp ≠ .hot →
          let rf := s.plant.rf[k]
          let up (c : Chan) : Byte := if (rf.get c).carrier then 1 else 0
          let notices (seq : Byte) (c : Chan) : List WireFrame :=
            if (rf.get c).carrier then
              [⟨.unit k .left, encodeNotice ⟨u.serial, seq, c, rf.get c⟩⟩, ⟨.unit k .right, encodeNotice ⟨u.serial, seq, c, rf.get c⟩⟩]
            else []
          let quality (c : Chan) : Option (BitVec 4) := if (rf.get c).carrier then some (rf.get c).quality else none
          exec (.unitDirectiveTaken k x frame) s = .next
            { s.modLineUnit k (fun u => { u with
                mode := .standby, forced := false, levels := .all 0, rouse := none, seq := u.seq + up .t1 + up .t2,
                refQ := ⟨quality .t1, quality .t2⟩ }) with
              wire := s.wire ++ notices (u.seq + 1) .t1 ++ notices (u.seq + up .t1 + 1) .t2 ++
                [⟨.unit k x, encodeReply ⟨f.serial, .ack .standby⟩⟩] }))

/-! ### Grant rounds -/

/-- R45 to R51: the effective values of a segment, and what a grant round makes of them. -/
def Obligations.GrantRounds : Prop :=
  ([Carrier.c1, .c2, .c3, .c4].map nextCarrier = [.c2, .c3, .c4, .c1]) ∧
  (∀ (al : AllocRec) (eff : Nat) (a : AllocSeg),
    let w := wantsOf al eff a
    let cap := eff * al.capPct / 100
    (∀ c, (a.c.get c).suspended = true → w.c.get c = ⟨0, 0⟩) ∧
    (∀ c, (a.c.get c).suspended = false → al.level = .normal →
      w.c.get c = ⟨min (a.c.get c).floor (a.c.get c).request, (a.c.get c).request⟩) ∧
    (∀ c, (a.c.get c).suspended = false → al.level = .incident →
      w.c.get c = ⟨min (min (a.c.get c).floor cap) (min (a.c.get c).request cap), min (a.c.get c).request cap⟩) ∧
    w.rs.f = (if al.level = .incident then a.rs.ifloor else a.rs.floor) ∧
    w.rs.r = max (if al.activity then a.rs.qActive else a.rs.qIdle) w.rs.f ∧
    w.bc.f = (if al.level = .incident then a.bc.ifloor else a.bc.floor) ∧ w.bc.r = max a.bc.request w.bc.f ∧
    (al.level = .incident → ∀ c : Carrier, (grantRound eff w a.ptr).1.get c.entry ≤ cap)) ∧
  ∀ (eff : Nat) (w : Wants) (p : Carrier), w.rs.f ≤ w.rs.r → w.bc.f ≤ w.bc.r → (∀ c, (w.c.get c).f ≤ (w.c.get c).r) →
    let g := (grantRound eff w p).1
    let requests : Six Nat := ⟨w.c.c1.r, w.c.c2.r, w.c.c3.r, w.c.c4.r, w.rs.r, w.bc.r⟩
    g.total ≤ eff ∧ (∀ e, g.get e ≤ requests.get e) ∧ (requests.total ≤ eff → g = requests) ∧
    (eff ≤ requests.total → g.total = eff) ∧ min w.rs.f eff ≤ g.rs ∧ min w.bc.f (eff - min w.rs.f eff) ≤ g.bc ∧
    (w.rs.f + w.bc.f + (w.c.map (·.f)).total ≤ eff → ∀ c : Carrier, (w.c.get c).f ≤ g.get c.entry) ∧
    (requests.total ≤ eff → (grantRound eff w p).2 = p) ∧
    ((grantRound eff w p).2 = p ∨ (grantRound eff w p).2 = nextCarrier p) ∧
    -- R48 to R51 phase by phase; `before c` are the carriers that come before c in the rotation order.
    let order := [p, nextCarrier p, nextCarrier (nextCarrier p), nextCarrier (nextCarrier (nextCarrier p))]
    let before (c : Carrier) : List Carrier := order.takeWhile fun d => d ≠ c
    let rsFloor := min w.rs.f eff
    let bcFloor := min w.bc.f (eff - rsFloor)
    let a2 := eff - rsFloor - bcFloor
    let floor (c : Carrier) : Nat := min (w.c.get c).f (a2 - ((before c).map fun d => (w.c.get d).f).sum)
    let a3 := a2 - (order.map floor).sum
    let rsMore := min (w.rs.r - rsFloor) a3
    let bcMore := min (w.bc.r - bcFloor) (a3 - rsMore)
    let a5 := a3 - rsMore - bcMore
    let x (c : Carrier) : Nat := (w.c.get c).r - floor c
    let sum := (order.map x).sum
    let share (c : Carrier) : Nat := a5 * x c / sum
    let d := a5 - (order.map share).sum
    g.rs = rsFloor + rsMore ∧ g.bc = bcFloor + bcMore ∧
    (sum ≤ a5 → (∀ c : Carrier, g.get c.entry = floor c + x c) ∧ (grantRound eff w p).2 = p) ∧
    (a5 < sum →
      (∀ c : Carrier, g.get c.entry = floor c + share c +
        if 0 < x c ∧ ((before c).filter fun e => 0 < x e).length < d then 1 else 0) ∧
      (grantRound eff w p).2 = if 0 < d then nextCarrier p else p)

/-! ### Encodings -/

/-- R162, R177, R178: the frame of every well-formed command is read as that command, on the port it is sent on. -/
def Obligations.CommandFramesReadBack : Prop :=
  ∀ (i : Instr) (p : Port) (code : Byte) (payload : List Byte), commandFields i = some (p, code, payload) →
    i.wellFormed = true → readPeriod p (commandFrame code payload) = .command i

/-- R181: every loop frame is read back, with every field; and where one byte has changed it is no frame of its kind. -/
def Obligations.LoopFramesReadBack : Prop :=
  (∀ f : SurveyFrame, f.entries.length < 256 → decodeSurvey (encodeSurvey f) = some f) ∧
  (∀ f : DirectiveFrame, decodeDirective (encodeDirective f) = some f) ∧
  (∀ f : ReplyFrame, decodeReply (encodeReply f) = some f) ∧ (∀ f : NoticeFrame, decodeNotice (encodeNotice f) = some f) ∧
  ∀ (bytes : List Byte) (n : Nat) (b : Byte), n < bytes.length → bytes.getD n 0 ≠ b → byteSum bytes = 0 →
    decodeSurvey (bytes.set n b) = none ∧ decodeDirective (bytes.set n b) = none ∧ decodeReply (bytes.set n b) = none ∧
    decodeNotice (bytes.set n b) = none

/-! ### What every step keeps -/

/-- R105 (log 10): the message memory keeps its canonical form. -/
def Obligations.StepKeepsMemory : Prop :=
  ∀ s t : State, MemoryCanonical s → step s = .next t → MemoryCanonical t

/-- R170: no event queue comes to hold more than 32 records. -/
def Obligations.StepKeepsQueues : Prop := ∀ s t : State, QueuesBounded s → step s = .next t → QueuesBounded t

/-- R150: the level stays INCIDENT exactly while a claim is present. -/
def Obligations.StepKeepsLevel : Prop :=
  ∀ s t : State, LevelFollowsClaims s → step s = .next t → LevelFollowsClaims t

/-- R21: E stays what the segment's record gives. -/
def Obligations.StepKeepsLimits : Prop := ∀ s t : State, LimitsRight s → step s = .next t → LimitsRight t

/-- R48, R55: grants stay within E, and at 0 in SETUP. -/
def Obligations.StepKeepsGrants : Prop := ∀ s t : State, GrantsBounded s → step s = .next t → GrantsBounded t

/-- R142: every segment's owner stays its candidate of highest precedence, or none without a broadcast grant. -/
def Obligations.StepKeepsOwners : Prop :=
  ∀ s t : State, GrantsBounded s → OwnersRight s → step s = .next t → OwnersRight t

/-- R84: the relay sets stay the covered segments with a rescue grant. -/
def Obligations.StepKeepsRelays : Prop := ∀ s t : State, RelaysRight s → step s = .next t → RelaysRight t

/-- R87, R101: keys, floors and pending sides stay together, and a KEYED key implies a LIVE port E. -/
def Obligations.StepKeepsKeys : Prop := ∀ s t : State, KeysRight s → step s = .next t → KeysRight t

/-- R9, R14, R22, R27, R44, R73, R98: settings stay in their ranges. -/
def Obligations.StepKeepsSettings : Prop := ∀ s t : State, SettingsInRange s → step s = .next t → SettingsInRange t

/-- R105: the block runs of the messages stay inside the memory and apart. -/
def Obligations.StepKeepsRuns : Prop := ∀ s t : State, RunsApart s → step s = .next t → RunsApart t

/-- The machine right after reset meets every property above. -/
def Obligations.ResetMeetsAll : Prop :=
  MemoryCanonical State.reset ∧ QueuesBounded State.reset ∧ LevelFollowsClaims State.reset ∧ LimitsRight State.reset ∧
  GrantsBounded State.reset ∧ OwnersRight State.reset ∧ RelaysRight State.reset ∧ KeysRight State.reset ∧
  SettingsInRange State.reset ∧ RunsApart State.reset
end

