-- ==== Sys2Proof/Laws/PerInstr.lean ====
section
/-! SUPPORT. Family Period: the frame of a well-formed chip-select command is read back as that command (R162, R164, R177,
R178), one lemma for each row. -/

namespace Sys2Proof.Laws.Period

-- One theorem after another: 76 theorems at once can ask Lean for more threads than a memory limit has room for.
set_option Elab.async false

/-- R177, R178: the payload fits a frame, and with the code it spells the row again, with every operand. -/
def Statement (i : Instr) : Prop :=
  ∀ p code payload, commandFields i = some (p, code, payload) → i.wellFormed = true →
    payload.length ≤ 264 ∧ decodePayload p code.toNat payload = some i

theorem be2_join (x : Half) : x.extractLsb' 8 8 ++ x.extractLsb' 0 8 = x := by
  apply BitVec.eq_of_getLsbD_eq; intro i hi; rw [BitVec.getLsbD_append]
  simp only [BitVec.getLsbD_extractLsb']
  split <;> simp_all
  omega

theorem be3_join (x : SegSet) : x.extractLsb' 16 8 ++ x.extractLsb' 8 8 ++ x.extractLsb' 0 8 = x := by
  apply BitVec.eq_of_getLsbD_eq; intro i hi; simp only [BitVec.getLsbD_append, BitVec.getLsbD_extractLsb']
  rcases Nat.lt_or_ge i 8 with h | h
  · simp [h]
  · rcases Nat.lt_or_ge (i - 8) 8 with g | g
    · simp [show ¬ i < 8 by omega, g, show 8 + (i - 8) = i by omega]
    · simp [show ¬ i < 8 by omega, show ¬ i - 8 < 8 by omega, show 16 + (i - 8 - 8) = i by omega,
        show i - 8 - 8 < 8 by omega]

theorem be4_join (x : Word) :
    x.extractLsb' 24 8 ++ x.extractLsb' 16 8 ++ x.extractLsb' 8 8 ++ x.extractLsb' 0 8 = x := by
  apply BitVec.eq_of_getLsbD_eq; intro i hi; simp only [BitVec.getLsbD_append, BitVec.getLsbD_extractLsb']
  rcases Nat.lt_or_ge i 8 with h | h
  · simp [h]
  · rcases Nat.lt_or_ge i 16 with g | g
    · simp [show ¬ i < 8 by omega, show i - 8 < 8 by omega, show 8 + (i - 8) = i by omega]
    · rcases Nat.lt_or_ge i 24 with k | k
      · simp [show ¬ i < 8 by omega, show ¬ i - 8 < 8 by omega, show i - 8 - 8 < 8 by omega,
          show 16 + (i - 8 - 8) = i by omega]
      · simp [show ¬ i < 8 by omega, show ¬ i - 8 < 8 by omega, show ¬ i - 8 - 8 < 8 by omega,
          show 24 + (i - 8 - 8 - 8) = i by omega, show i - 8 - 8 - 8 < 8 by omega]

theorem fetch : ∀ p bytes, Statement (.fetch p bytes) := by
  intro p bytes _ _ _ h; cases h

theorem frameError : ∀ p bytes, Statement (.frameError p bytes) := by
  intro p bytes _ _ _ h; cases h

theorem readPartStatus : ∀ p, Statement (.readPartStatus p) := by
  intro p _ _ _ h _; cases h
  exact ⟨Nat.le_of_ble_eq_true rfl, rfl⟩

theorem readEvents : ∀ p, Statement (.readEvents p) := by
  intro p _ _ _ h _; cases h
  exact ⟨Nat.le_of_ble_eq_true rfl, rfl⟩

theorem serviceArm : ∀ p, Statement (.serviceArm p) := by
  intro p _ _ _ h _; cases h
  exact ⟨Nat.le_of_ble_eq_true rfl, rfl⟩

theorem serviceConfirm : ∀ p, Statement (.serviceConfirm p) := by
  intro p _ _ _ h _; cases h
  exact ⟨Nat.le_of_ble_eq_true rfl, rfl⟩

theorem configureService : ∀ p period, Statement (.configureService p period) := by
  intro p period _ _ _ h _; cases h
  exact ⟨Nat.le_of_ble_eq_true rfl, rfl⟩

theorem setSegmentCount : ∀ p count, Statement (.setSegmentCount p count) := by
  intro p count _ _ _ h _; cases h
  exact ⟨Nat.le_of_ble_eq_true rfl, rfl⟩

theorem setLimit : ∀ p seg limit, Statement (.setLimit p seg limit) := by
  intro p seg limit _ _ _ h _; cases h
  refine ⟨Nat.le_of_ble_eq_true rfl, ?_⟩
  show some (Instr.setLimit p seg (limit.extractLsb' 8 8 ++ limit.extractLsb' 0 8)) = _
  rw [be2_join limit]

theorem setDerate : ∀ p percent, Statement (.setDerate p percent) := by
  intro p percent _ _ _ h _; cases h
  exact ⟨Nat.le_of_ble_eq_true rfl, rfl⟩

theorem setFloors : ∀ p segs floors, Statement (.setFloors p segs floors) := by
  intro p segs floors _ _ _ h _; cases h
  refine ⟨Nat.le_of_ble_eq_true rfl, ?_⟩
  show some (Instr.setFloors p (segs.extractLsb' 16 8 ++ segs.extractLsb' 8 8 ++ segs.extractLsb' 0 8)
      ⟨floors.c1.extractLsb' 8 8 ++ floors.c1.extractLsb' 0 8, floors.c2.extractLsb' 8 8 ++ floors.c2.extractLsb' 0
      8, floors.c3.extractLsb' 8 8 ++ floors.c3.extractLsb' 0 8, floors.c4.extractLsb' 8 8 ++ floors.c4.extractLsb'
      0 8, floors.rs.extractLsb' 8 8 ++ floors.rs.extractLsb' 0 8, floors.bc.extractLsb' 8 8 ++
      floors.bc.extractLsb' 0 8⟩) = _
  rw [be3_join segs, be2_join floors.c1, be2_join floors.c2, be2_join floors.c3, be2_join floors.c4, be2_join
      floors.rs, be2_join floors.bc]

theorem setIncidentFloors : ∀ p segs rs bc, Statement (.setIncidentFloors p segs rs bc) := by
  intro p segs rs bc _ _ _ h _; cases h
  refine ⟨Nat.le_of_ble_eq_true rfl, ?_⟩
  show some (Instr.setIncidentFloors p (segs.extractLsb' 16 8 ++ segs.extractLsb' 8 8 ++ segs.extractLsb' 0 8)
      (rs.extractLsb' 8 8 ++ rs.extractLsb' 0 8) (bc.extractLsb' 8 8 ++ bc.extractLsb' 0 8)) = _
  rw [be3_join segs, be2_join rs, be2_join bc]

theorem setCarrierCap : ∀ p percent, Statement (.setCarrierCap p percent) := by
  intro p percent _ _ _ h _; cases h
  exact ⟨Nat.le_of_ble_eq_true rfl, rfl⟩

theorem setRampStep : ∀ p step, Statement (.setRampStep p step) := by
  intro p step _ _ _ h _; cases h
  refine ⟨Nat.le_of_ble_eq_true rfl, ?_⟩
  show some (Instr.setRampStep p (step.extractLsb' 8 8 ++ step.extractLsb' 0 8)) = _
  rw [be2_join step]

theorem setSurveyPeriod : ∀ p ms, Statement (.setSurveyPeriod p ms) := by
  intro p ms _ _ _ h _; cases h
  refine ⟨Nat.le_of_ble_eq_true rfl, ?_⟩
  show some (Instr.setSurveyPeriod p (ms.extractLsb' 8 8 ++ ms.extractLsb' 0 8)) = _
  rw [be2_join ms]

theorem setMeterPolicy : ∀ p n tol settle persist, Statement (.setMeterPolicy p n tol settle persist) := by
  intro p n tol settle persist _ _ _ h _; cases h
  exact ⟨Nat.le_of_ble_eq_true rfl, rfl⟩

theorem setFireSense : ∀ p sense, Statement (.setFireSense p sense) := by
  intro p sense _ _ _ h _; cases h
  exact ⟨Nat.le_of_ble_eq_true rfl, rfl⟩

theorem setPlayoutPriority : ∀ p mode, Statement (.setPlayoutPriority p mode) := by
  intro p mode _ _ _ h _; cases h
  exact ⟨Nat.le_of_ble_eq_true rfl, rfl⟩

theorem commitSetup : ∀ p, Statement (.commitSetup p) := by
  intro p _ _ _ h _; cases h
  exact ⟨Nat.le_of_ble_eq_true rfl, rfl⟩

theorem setUnitMode : ∀ p seg mode, Statement (.setUnitMode p seg mode) := by
  intro p seg mode _ _ _ h _; cases h
  exact ⟨Nat.le_of_ble_eq_true rfl, rfl⟩

theorem setBroadcastRequest : ∀ p segs request, Statement (.setBroadcastRequest p segs request) := by
  intro p segs request _ _ _ h _; cases h
  refine ⟨Nat.le_of_ble_eq_true rfl, ?_⟩
  show some (Instr.setBroadcastRequest p (segs.extractLsb' 16 8 ++ segs.extractLsb' 8 8 ++ segs.extractLsb' 0 8)
      (request.extractLsb' 8 8 ++ request.extractLsb' 0 8)) = _
  rw [be3_join segs, be2_join request]

theorem resetPart : ∀ p, Statement (.resetPart p) := by
  intro p _ _ _ h _; cases h
  exact ⟨Nat.le_of_ble_eq_true rfl, rfl⟩

theorem setRescueRequest : ∀ p segs qIdle qActive, Statement (.setRescueRequest p segs qIdle qActive) := by
  intro p segs qIdle qActive _ _ _ h _; cases h
  refine ⟨Nat.le_of_ble_eq_true rfl, ?_⟩
  show some (Instr.setRescueRequest p (segs.extractLsb' 16 8 ++ segs.extractLsb' 8 8 ++ segs.extractLsb' 0 8)
      (qIdle.extractLsb' 8 8 ++ qIdle.extractLsb' 0 8) (qActive.extractLsb' 8 8 ++ qActive.extractLsb' 0 8)) = _
  rw [be3_join segs, be2_join qIdle, be2_join qActive]

theorem setCoverage : ∀ p chan segs, Statement (.setCoverage p chan segs) := by
  intro p chan segs _ _ _ h _; cases h
  refine ⟨Nat.le_of_ble_eq_true rfl, ?_⟩
  show some (Instr.setCoverage p chan (segs.extractLsb' 16 8 ++ segs.extractLsb' 8 8 ++ segs.extractLsb' 0 8)) = _
  rw [be3_join segs]

theorem setTalkTimers : ∀ p hang tot incidentTot, Statement (.setTalkTimers p hang tot incidentTot) := by
  intro p hang tot incidentTot _ _ _ h _; cases h
  refine ⟨Nat.le_of_ble_eq_true rfl, ?_⟩
  show some (Instr.setTalkTimers p (hang.extractLsb' 8 8 ++ hang.extractLsb' 0 8) (tot.extractLsb' 8 8 ++
      tot.extractLsb' 0 8) (incidentTot.extractLsb' 8 8 ++ incidentTot.extractLsb' 0 8)) = _
  rw [be2_join hang, be2_join tot, be2_join incidentTot]

theorem key : ∀ p chan priority, Statement (.key p chan priority) := by
  intro p chan priority _ _ _ h _; cases h
  exact ⟨Nat.le_of_ble_eq_true rfl, rfl⟩

theorem unkey : ∀ p chan, Statement (.unkey p chan) := by
  intro p chan _ _ _ h _; cases h
  exact ⟨Nat.le_of_ble_eq_true rfl, rfl⟩

theorem readTalk : ∀ p chans, Statement (.readTalk p chans) := by
  intro p chans _ _ _ h _; cases h
  exact ⟨Nat.le_of_ble_eq_true rfl, rfl⟩

theorem setCarrierRequest : ∀ p operator segs request, Statement (.setCarrierRequest p operator segs request) := by
  intro p operator segs request _ _ _ h _; cases h
  refine ⟨Nat.le_of_ble_eq_true rfl, ?_⟩
  show some (Instr.setCarrierRequest p operator (segs.extractLsb' 16 8 ++ segs.extractLsb' 8 8 ++ segs.extractLsb' 0
      8) (request.extractLsb' 8 8 ++ request.extractLsb' 0 8)) = _
  rw [be3_join segs, be2_join request]

theorem readSegment : ∀ p seg, Statement (.readSegment p seg) := by
  intro p seg _ _ _ h _; cases h
  exact ⟨Nat.le_of_ble_eq_true rfl, rfl⟩

theorem readAllocation : ∀ p seg, Statement (.readAllocation p seg) := by
  intro p seg _ _ _ h _; cases h
  exact ⟨Nat.le_of_ble_eq_true rfl, rfl⟩

theorem readAlerts : ∀ p segs, Statement (.readAlerts p segs) := by
  intro p segs _ _ _ h _; cases h
  refine ⟨Nat.le_of_ble_eq_true rfl, ?_⟩
  show some (Instr.readAlerts p (segs.extractLsb' 16 8 ++ segs.extractLsb' 8 8 ++ segs.extractLsb' 0 8)) = _
  rw [be3_join segs]

theorem setAlertMode : ∀ p segs entry mode basis, Statement (.setAlertMode p segs entry mode basis) := by
  intro p segs entry mode basis _ _ _ h _; cases h
  refine ⟨Nat.le_of_ble_eq_true rfl, ?_⟩
  show some (Instr.setAlertMode p (segs.extractLsb' 16 8 ++ segs.extractLsb' 8 8 ++ segs.extractLsb' 0 8) entry mode
      basis) = _
  rw [be3_join segs]

theorem readAccumulators : ∀ p, Statement (.readAccumulators p) := by
  intro p _ _ _ h _; cases h
  exact ⟨Nat.le_of_ble_eq_true rfl, rfl⟩

theorem resetAccumulators : ∀ p accs, Statement (.resetAccumulators p accs) := by
  intro p accs _ _ _ h _; cases h
  exact ⟨Nat.le_of_ble_eq_true rfl, rfl⟩

theorem declareIncident : ∀ p, Statement (.declareIncident p) := by
  intro p _ _ _ h _; cases h
  exact ⟨Nat.le_of_ble_eq_true rfl, rfl⟩

theorem clearIncident : ∀ p claim, Statement (.clearIncident p claim) := by
  intro p claim _ _ _ h _; cases h
  exact ⟨Nat.le_of_ble_eq_true rfl, rfl⟩

theorem setIncidentMessage : ∀ p id, Statement (.setIncidentMessage p id) := by
  intro p id _ _ _ h _; cases h
  exact ⟨Nat.le_of_ble_eq_true rfl, rfl⟩

theorem startBreakIn : ∀ p zone feed, Statement (.startBreakIn p zone feed) := by
  intro p zone feed _ _ _ h _; cases h
  refine ⟨Nat.le_of_ble_eq_true rfl, ?_⟩
  show some (Instr.startBreakIn p (zone.extractLsb' 16 8 ++ zone.extractLsb' 8 8 ++ zone.extractLsb' 0 8) feed) = _
  rw [be3_join zone]

theorem stopBreakIn : ∀ p, Statement (.stopBreakIn p) := by
  intro p _ _ _ h _; cases h
  exact ⟨Nat.le_of_ble_eq_true rfl, rfl⟩

theorem openMessage : ∀ p id length tag, Statement (.openMessage p id length tag) := by
  intro p id length tag _ _ _ h _; cases h
  refine ⟨Nat.le_of_ble_eq_true rfl, ?_⟩
  show some (Instr.openMessage p id (length.extractLsb' 24 8 ++ length.extractLsb' 16 8 ++ length.extractLsb' 8 8 ++
      length.extractLsb' 0 8) tag) = _
  rw [be4_join length]

theorem writeChunk : ∀ p id offset chunk, Statement (.writeChunk p id offset chunk) := by
  intro p id offset chunk _ _ _ h w; cases h
  have w' : chunkLengthOk chunk = true := w
  refine ⟨?_, ?_⟩
  · simp [chunkLengthOk] at w'; simp [be4]; omega
  · simp [decodePayload, be4, w', be4_join]

theorem closeMessage : ∀ p id checksum, Statement (.closeMessage p id checksum) := by
  intro p id checksum _ _ _ h _; cases h
  refine ⟨Nat.le_of_ble_eq_true rfl, ?_⟩
  show some (Instr.closeMessage p id (checksum.extractLsb' 8 8 ++ checksum.extractLsb' 0 8)) = _
  rw [be2_join checksum]

theorem deleteMessage : ∀ p id, Statement (.deleteMessage p id) := by
  intro p id _ _ _ h _; cases h
  exact ⟨Nat.le_of_ble_eq_true rfl, rfl⟩

theorem readDirectory : ∀ p first count, Statement (.readDirectory p first count) := by
  intro p first count _ _ _ h _; cases h
  exact ⟨Nat.le_of_ble_eq_true rfl, rfl⟩

theorem readChunk : ∀ p id offset length, Statement (.readChunk p id offset length) := by
  intro p id offset length _ _ _ h _; cases h
  refine ⟨Nat.le_of_ble_eq_true rfl, ?_⟩
  show some (Instr.readChunk p id (offset.extractLsb' 24 8 ++ offset.extractLsb' 16 8 ++ offset.extractLsb' 8 8 ++
      offset.extractLsb' 0 8) (length.extractLsb' 8 8 ++ length.extractLsb' 0 8)) = _
  rw [be4_join offset, be2_join length]

theorem programPlayout : ∀ p chan kind mode zone playlist, Statement (.programPlayout p chan kind mode zone
    playlist) := by
  intro p chan kind mode zone playlist _ _ _ h w; cases h
  have w' : playlistLengthOk playlist = true := w
  refine ⟨?_, ?_⟩
  · simp [playlistLengthOk] at w'; simp [be3]; omega
  · simp [decodePayload, be3, w', be3_join]

theorem startPlayout : ∀ p chan, Statement (.startPlayout p chan) := by
  intro p chan _ _ _ h _; cases h
  exact ⟨Nat.le_of_ble_eq_true rfl, rfl⟩

theorem stopPlayout : ∀ p chan, Statement (.stopPlayout p chan) := by
  intro p chan _ _ _ h _; cases h
  exact ⟨Nat.le_of_ble_eq_true rfl, rfl⟩

theorem readPlayout : ∀ p chans, Statement (.readPlayout p chans) := by
  intro p chans _ _ _ h _; cases h
  exact ⟨Nat.le_of_ble_eq_true rfl, rfl⟩

theorem surveyRound : Statement (.surveyRound) := by
  intro _ _ _ h; cases h

theorem surveyArrival : ∀ at_ frame, Statement (.surveyArrival at_ frame) := by
  intro at_ frame _ _ _ h; cases h

theorem surveyTimeout : ∀ origin, Statement (.surveyTimeout origin) := by
  intro origin _ _ _ h; cases h

theorem uplinkNotice : ∀ at_ frame, Statement (.uplinkNotice at_ frame) := by
  intro at_ frame _ _ _ h; cases h

theorem directiveIssue : ∀ seg, Statement (.directiveIssue seg) := by
  intro seg _ _ _ h; cases h

theorem directiveReply : ∀ at_ frame, Statement (.directiveReply at_ frame) := by
  intro at_ frame _ _ _ h; cases h

theorem replyTimeout : ∀ seg, Statement (.replyTimeout seg) := by
  intro seg _ _ _ h; cases h

theorem rouseWaitExpiry : ∀ seg, Statement (.rouseWaitExpiry seg) := by
  intro seg _ _ _ h; cases h

theorem hangExpiry : ∀ chan, Statement (.hangExpiry chan) := by
  intro chan _ _ _ h; cases h

theorem totExpiry : ∀ chan, Statement (.totExpiry chan) := by
  intro chan _ _ _ h; cases h

theorem airtimeMark : Statement (.airtimeMark) := by
  intro _ _ _ h; cases h

theorem messageEnd : ∀ chan, Statement (.messageEnd chan) := by
  intro chan _ _ _ h; cases h

theorem checkMessageEnd : ∀ chan, Statement (.checkMessageEnd chan) := by
  intro chan _ _ _ h; cases h

theorem fireLineChange : ∀ asserted, Statement (.fireLineChange asserted) := by
  intro asserted _ _ _ h; cases h

theorem fireFilterExpiry : Statement (.fireFilterExpiry) := by
  intro _ _ _ h; cases h

theorem portLapse : ∀ p, Statement (.portLapse p) := by
  intro p _ _ _ h; cases h

theorem powerOnReset : Statement (.powerOnReset) := by
  intro _ _ _ h; cases h

theorem lineReset : Statement (.lineReset) := by
  intro _ _ _ h; cases h

theorem resetEnd : Statement (.resetEnd) := by
  intro _ _ _ h; cases h

theorem unitSupplyApplied : ∀ pos serial temp supply, Statement (.unitSupplyApplied pos serial temp supply) := by
  intro pos serial temp supply _ _ _ h; cases h

theorem unitTemperatureChange : ∀ pos temp, Statement (.unitTemperatureChange pos temp) := by
  intro pos temp _ _ _ h; cases h

theorem unitSupplyChange : ∀ pos supply, Statement (.unitSupplyChange pos supply) := by
  intro pos supply _ _ _ h; cases h

theorem unitSurveyPass : ∀ pos frame measured, Statement (.unitSurveyPass pos frame measured) := by
  intro pos frame measured _ _ _ h; cases h

theorem unitDirectiveTaken : ∀ pos at_ frame, Statement (.unitDirectiveTaken pos at_ frame) := by
  intro pos at_ frame _ _ _ h; cases h

theorem unitUplinkChange : ∀ pos chan carrier quality, Statement (.unitUplinkChange pos chan carrier quality) := by
  intro pos chan carrier quality _ _ _ h; cases h

theorem loopLinkChange : ∀ span up, Statement (.loopLinkChange span up) := by
  intro span up _ _ _ h; cases h

/-- The family, for every row. -/
theorem all (i : Instr) : Statement i := by
  cases i <;> first
    | apply fetch
    | apply frameError
    | apply readPartStatus
    | apply readEvents
    | apply serviceArm
    | apply serviceConfirm
    | apply configureService
    | apply setSegmentCount
    | apply setLimit
    | apply setDerate
    | apply setFloors
    | apply setIncidentFloors
    | apply setCarrierCap
    | apply setRampStep
    | apply setSurveyPeriod
    | apply setMeterPolicy
    | apply setFireSense
    | apply setPlayoutPriority
    | apply commitSetup
    | apply setUnitMode
    | apply setBroadcastRequest
    | apply resetPart
    | apply setRescueRequest
    | apply setCoverage
    | apply setTalkTimers
    | apply key
    | apply unkey
    | apply readTalk
    | apply setCarrierRequest
    | apply readSegment
    | apply readAllocation
    | apply readAlerts
    | apply setAlertMode
    | apply readAccumulators
    | apply resetAccumulators
    | apply declareIncident
    | apply clearIncident
    | apply setIncidentMessage
    | apply startBreakIn
    | apply stopBreakIn
    | apply openMessage
    | apply writeChunk
    | apply closeMessage
    | apply deleteMessage
    | apply readDirectory
    | apply readChunk
    | apply programPlayout
    | apply startPlayout
    | apply stopPlayout
    | apply readPlayout
    | apply surveyRound
    | apply surveyArrival
    | apply surveyTimeout
    | apply uplinkNotice
    | apply directiveIssue
    | apply directiveReply
    | apply replyTimeout
    | apply rouseWaitExpiry
    | apply hangExpiry
    | apply totExpiry
    | apply airtimeMark
    | apply messageEnd
    | apply checkMessageEnd
    | apply fireLineChange
    | apply fireFilterExpiry
    | apply portLapse
    | apply powerOnReset
    | apply lineReset
    | apply resetEnd
    | apply unitSupplyApplied
    | apply unitTemperatureChange
    | apply unitSupplyChange
    | apply unitSurveyPass
    | apply unitDirectiveTaken
    | apply unitUplinkChange
    | apply loopLinkChange

end Sys2Proof.Laws.Period
end

