-- ==== Sys2Proof/Laws/State.lean ====
section
/-! SUPPORT. What each update of one record leaves alone, field by field, and what it writes. -/

namespace Sys2Proof.Machine

-- As in Sys2Proof/Laws/PerInstr.lean.
set_option Elab.async false

/-! ### Vectors and small families -/

theorem vupd_get {α : Type} {n : Nat} (v : Vector α n) (i j : Fin n) (f : α → α) :
    (vupd v i f)[j] = if i = j then f v[i] else v[j] := by
  unfold vupd
  simp only [Fin.getElem_fin, Vector.getElem_set, Fin.ext_iff]

theorem vall_get {α : Type} {n : Nat} (v : Vector α n) (j : Fin n) (f : α → α) : (vall v f)[j] = f v[j] := by
  simp [vall]

@[simp] theorem Six_get_build {α : Type} (f : Entry → α) (e : Entry) : (Six.build f).get e = f e := by cases e <;> rfl

theorem Six_get_set {α : Type} (v : Six α) (e e' : Entry) (a : α) :
    (v.set e a).get e' = if e = e' then a else v.get e' := by cases e <;> cases e' <;> rfl

theorem Four_get_set {α : Type} (v : Four α) (e e' : Carrier) (a : α) :
    (v.set e a).get e' = if e = e' then a else v.get e' := by cases e <;> cases e' <;> rfl

theorem Four_pget_pset {α : Type} (v : Four α) (c c' : PChan) (a : α) :
    (v.pset c a).pget c' = if c = c' then a else v.pget c' := by cases c <;> cases c' <;> rfl

theorem Pair_get_set {α : Type} (v : Pair α) (c c' : Chan) (a : α) :
    (v.set c a).get c' = if c = c' then a else v.get c' := by cases c <;> cases c' <;> rfl

theorem Pair_side_setSide {α : Type} (v : Pair α) (c c' : Side) (a : α) :
    (v.setSide c a).side c' = if c = c' then a else v.side c' := by cases c <;> cases c' <;> rfl

theorem Tri_get_set {α : Type} (v : Tri α) (p p' : Port) (a : α) :
    (v.set p a).get p' = if p = p' then a else v.get p' := by cases p <;> cases p' <;> rfl

/-! ### What an update writes -/

theorem modSeg_seg (s : State) (k j : SegId) (f : SegRec → SegRec) :
    (s.modSeg k f).seg j = if k = j then f (s.seg k) else s.seg j := vupd_get s.loop.segs k j f

theorem modUnit_unit (s : State) (k j : SegId) (f : UnitRec → UnitRec) :
    (s.modUnit k f).unit j = if k = j then f (s.unit k) else s.unit j := vupd_get s.engine.units k j f

theorem modAseg_aseg (s : State) (k j : SegId) (f : AllocSeg → AllocSeg) :
    (s.modAseg k f).aseg j = if k = j then f (s.aseg k) else s.aseg j := vupd_get s.alloc.segs k j f

theorem modMeters_meters (s : State) (k j : SegId) (f : Six MeterEntry → Six MeterEntry) :
    (s.modMeters k f).meters j = if k = j then f (s.meters k) else s.meters j := vupd_get s.meter.recs k j f

theorem modMsg_msg (s : State) (k j : MsgId) (f : MsgRec → MsgRec) :
    (s.modMsg k f).msg j = if k = j then f (s.msg k) else s.msg j := vupd_get s.store.dir k j f

theorem modChan_chan (s : State) (c d : Chan) (f : TalkRec → TalkRec) :
    (s.modChan c f).chan d = if c = d then f (s.chan c) else s.chan d := Pair_get_set _ c d _

theorem modPchan_pchan (s : State) (c d : PChan) (f : PlayRec → PlayRec) :
    (s.modPchan c f).pchan d = if c = d then f (s.pchan c) else s.pchan d := Four_pget_pset _ c d _

theorem modPort_port (s : State) (p q : Port) (f : PortRec → PortRec) :
    (s.modPort p f).port q = if p = q then f (s.port p) else s.port q := Tri_get_set _ p q _

theorem modLineUnit_lineUnit (s : State) (k j : SegId) (f : LineUnit → LineUnit) :
    (s.modLineUnit k f).lineUnit j = if k = j then (s.lineUnit k).map f else s.lineUnit j :=
  vupd_get s.plant.units k j (Option.map f)

/-! ### What an update leaves alone -/

@[simp] theorem modSeg_sys (s : State) (k : SegId) (f : SegRec → SegRec) : (s.modSeg k f).sys = s.sys := rfl
@[simp] theorem modSeg_ports (s : State) (k : SegId) (f : SegRec → SegRec) : (s.modSeg k f).ports = s.ports := rfl
@[simp] theorem modSeg_engine (s : State) (k : SegId) (f : SegRec → SegRec) : (s.modSeg k f).engine = s.engine := rfl
@[simp] theorem modSeg_alloc (s : State) (k : SegId) (f : SegRec → SegRec) : (s.modSeg k f).alloc = s.alloc := rfl
@[simp] theorem modSeg_meter (s : State) (k : SegId) (f : SegRec → SegRec) : (s.modSeg k f).meter = s.meter := rfl
@[simp] theorem modSeg_talk (s : State) (k : SegId) (f : SegRec → SegRec) : (s.modSeg k f).talk = s.talk := rfl
@[simp] theorem modSeg_store (s : State) (k : SegId) (f : SegRec → SegRec) : (s.modSeg k f).store = s.store := rfl
@[simp] theorem modSeg_play (s : State) (k : SegId) (f : SegRec → SegRec) : (s.modSeg k f).play = s.play := rfl
@[simp] theorem modSeg_brk (s : State) (k : SegId) (f : SegRec → SegRec) : (s.modSeg k f).brk = s.brk := rfl
@[simp] theorem modSeg_inc (s : State) (k : SegId) (f : SegRec → SegRec) : (s.modSeg k f).inc = s.inc := rfl
@[simp] theorem modSeg_plant (s : State) (k : SegId) (f : SegRec → SegRec) : (s.modSeg k f).plant = s.plant := rfl
@[simp] theorem modSeg_wire (s : State) (k : SegId) (f : SegRec → SegRec) : (s.modSeg k f).wire = s.wire := rfl
@[simp] theorem modSeg_lastMark (s : State) (k : SegId) (f : SegRec → SegRec) : (s.modSeg k f).lastMark = s.lastMark := rfl
@[simp] theorem modSeg_draws (s : State) (k : SegId) (f : SegRec → SegRec) : (s.modSeg k f).draws = s.draws := rfl
@[simp] theorem modSeg_pending (s : State) (k : SegId) (f : SegRec → SegRec) : (s.modSeg k f).pending = s.pending := rfl

@[simp] theorem modUnit_sys (s : State) (k : SegId) (f : UnitRec → UnitRec) : (s.modUnit k f).sys = s.sys := rfl
@[simp] theorem modUnit_ports (s : State) (k : SegId) (f : UnitRec → UnitRec) : (s.modUnit k f).ports = s.ports := rfl
@[simp] theorem modUnit_loop (s : State) (k : SegId) (f : UnitRec → UnitRec) : (s.modUnit k f).loop = s.loop := rfl
@[simp] theorem modUnit_alloc (s : State) (k : SegId) (f : UnitRec → UnitRec) : (s.modUnit k f).alloc = s.alloc := rfl
@[simp] theorem modUnit_meter (s : State) (k : SegId) (f : UnitRec → UnitRec) : (s.modUnit k f).meter = s.meter := rfl
@[simp] theorem modUnit_talk (s : State) (k : SegId) (f : UnitRec → UnitRec) : (s.modUnit k f).talk = s.talk := rfl
@[simp] theorem modUnit_store (s : State) (k : SegId) (f : UnitRec → UnitRec) : (s.modUnit k f).store = s.store := rfl
@[simp] theorem modUnit_play (s : State) (k : SegId) (f : UnitRec → UnitRec) : (s.modUnit k f).play = s.play := rfl
@[simp] theorem modUnit_brk (s : State) (k : SegId) (f : UnitRec → UnitRec) : (s.modUnit k f).brk = s.brk := rfl
@[simp] theorem modUnit_inc (s : State) (k : SegId) (f : UnitRec → UnitRec) : (s.modUnit k f).inc = s.inc := rfl
@[simp] theorem modUnit_plant (s : State) (k : SegId) (f : UnitRec → UnitRec) : (s.modUnit k f).plant = s.plant := rfl
@[simp] theorem modUnit_wire (s : State) (k : SegId) (f : UnitRec → UnitRec) : (s.modUnit k f).wire = s.wire := rfl
@[simp] theorem modUnit_lastMark (s : State) (k : SegId) (f : UnitRec → UnitRec) : (s.modUnit k f).lastMark = s.lastMark := rfl
@[simp] theorem modUnit_draws (s : State) (k : SegId) (f : UnitRec → UnitRec) : (s.modUnit k f).draws = s.draws := rfl
@[simp] theorem modUnit_pending (s : State) (k : SegId) (f : UnitRec → UnitRec) : (s.modUnit k f).pending = s.pending := rfl

@[simp] theorem modAseg_sys (s : State) (k : SegId) (f : AllocSeg → AllocSeg) : (s.modAseg k f).sys = s.sys := rfl
@[simp] theorem modAseg_ports (s : State) (k : SegId) (f : AllocSeg → AllocSeg) : (s.modAseg k f).ports = s.ports := rfl
@[simp] theorem modAseg_loop (s : State) (k : SegId) (f : AllocSeg → AllocSeg) : (s.modAseg k f).loop = s.loop := rfl
@[simp] theorem modAseg_engine (s : State) (k : SegId) (f : AllocSeg → AllocSeg) : (s.modAseg k f).engine = s.engine := rfl
@[simp] theorem modAseg_meter (s : State) (k : SegId) (f : AllocSeg → AllocSeg) : (s.modAseg k f).meter = s.meter := rfl
@[simp] theorem modAseg_talk (s : State) (k : SegId) (f : AllocSeg → AllocSeg) : (s.modAseg k f).talk = s.talk := rfl
@[simp] theorem modAseg_store (s : State) (k : SegId) (f : AllocSeg → AllocSeg) : (s.modAseg k f).store = s.store := rfl
@[simp] theorem modAseg_play (s : State) (k : SegId) (f : AllocSeg → AllocSeg) : (s.modAseg k f).play = s.play := rfl
@[simp] theorem modAseg_brk (s : State) (k : SegId) (f : AllocSeg → AllocSeg) : (s.modAseg k f).brk = s.brk := rfl
@[simp] theorem modAseg_inc (s : State) (k : SegId) (f : AllocSeg → AllocSeg) : (s.modAseg k f).inc = s.inc := rfl
@[simp] theorem modAseg_plant (s : State) (k : SegId) (f : AllocSeg → AllocSeg) : (s.modAseg k f).plant = s.plant := rfl
@[simp] theorem modAseg_wire (s : State) (k : SegId) (f : AllocSeg → AllocSeg) : (s.modAseg k f).wire = s.wire := rfl
@[simp] theorem modAseg_lastMark (s : State) (k : SegId) (f : AllocSeg → AllocSeg) : (s.modAseg k f).lastMark = s.lastMark := rfl
@[simp] theorem modAseg_draws (s : State) (k : SegId) (f : AllocSeg → AllocSeg) : (s.modAseg k f).draws = s.draws := rfl
@[simp] theorem modAseg_pending (s : State) (k : SegId) (f : AllocSeg → AllocSeg) : (s.modAseg k f).pending = s.pending := rfl

@[simp] theorem modMeters_sys (s : State) (k : SegId) (f : Six MeterEntry → Six MeterEntry) : (s.modMeters k f).sys = s.sys := rfl
@[simp] theorem modMeters_ports (s : State) (k : SegId) (f : Six MeterEntry → Six MeterEntry) : (s.modMeters k f).ports = s.ports := rfl
@[simp] theorem modMeters_loop (s : State) (k : SegId) (f : Six MeterEntry → Six MeterEntry) : (s.modMeters k f).loop = s.loop := rfl
@[simp] theorem modMeters_engine (s : State) (k : SegId) (f : Six MeterEntry → Six MeterEntry) : (s.modMeters k f).engine = s.engine := rfl
@[simp] theorem modMeters_alloc (s : State) (k : SegId) (f : Six MeterEntry → Six MeterEntry) : (s.modMeters k f).alloc = s.alloc := rfl
@[simp] theorem modMeters_talk (s : State) (k : SegId) (f : Six MeterEntry → Six MeterEntry) : (s.modMeters k f).talk = s.talk := rfl
@[simp] theorem modMeters_store (s : State) (k : SegId) (f : Six MeterEntry → Six MeterEntry) : (s.modMeters k f).store = s.store := rfl
@[simp] theorem modMeters_play (s : State) (k : SegId) (f : Six MeterEntry → Six MeterEntry) : (s.modMeters k f).play = s.play := rfl
@[simp] theorem modMeters_brk (s : State) (k : SegId) (f : Six MeterEntry → Six MeterEntry) : (s.modMeters k f).brk = s.brk := rfl
@[simp] theorem modMeters_inc (s : State) (k : SegId) (f : Six MeterEntry → Six MeterEntry) : (s.modMeters k f).inc = s.inc := rfl
@[simp] theorem modMeters_plant (s : State) (k : SegId) (f : Six MeterEntry → Six MeterEntry) : (s.modMeters k f).plant = s.plant := rfl
@[simp] theorem modMeters_wire (s : State) (k : SegId) (f : Six MeterEntry → Six MeterEntry) : (s.modMeters k f).wire = s.wire := rfl
@[simp] theorem modMeters_lastMark (s : State) (k : SegId) (f : Six MeterEntry → Six MeterEntry) : (s.modMeters k f).lastMark = s.lastMark := rfl
@[simp] theorem modMeters_draws (s : State) (k : SegId) (f : Six MeterEntry → Six MeterEntry) : (s.modMeters k f).draws = s.draws := rfl
@[simp] theorem modMeters_pending (s : State) (k : SegId) (f : Six MeterEntry → Six MeterEntry) : (s.modMeters k f).pending = s.pending := rfl

@[simp] theorem modMeter_sys (s : State) (k : SegId) (e : Entry) (f : MeterEntry → MeterEntry) : (s.modMeter k e f).sys = s.sys := rfl
@[simp] theorem modMeter_ports (s : State) (k : SegId) (e : Entry) (f : MeterEntry → MeterEntry) : (s.modMeter k e f).ports = s.ports := rfl
@[simp] theorem modMeter_loop (s : State) (k : SegId) (e : Entry) (f : MeterEntry → MeterEntry) : (s.modMeter k e f).loop = s.loop := rfl
@[simp] theorem modMeter_engine (s : State) (k : SegId) (e : Entry) (f : MeterEntry → MeterEntry) : (s.modMeter k e f).engine = s.engine := rfl
@[simp] theorem modMeter_alloc (s : State) (k : SegId) (e : Entry) (f : MeterEntry → MeterEntry) : (s.modMeter k e f).alloc = s.alloc := rfl
@[simp] theorem modMeter_talk (s : State) (k : SegId) (e : Entry) (f : MeterEntry → MeterEntry) : (s.modMeter k e f).talk = s.talk := rfl
@[simp] theorem modMeter_store (s : State) (k : SegId) (e : Entry) (f : MeterEntry → MeterEntry) : (s.modMeter k e f).store = s.store := rfl
@[simp] theorem modMeter_play (s : State) (k : SegId) (e : Entry) (f : MeterEntry → MeterEntry) : (s.modMeter k e f).play = s.play := rfl
@[simp] theorem modMeter_brk (s : State) (k : SegId) (e : Entry) (f : MeterEntry → MeterEntry) : (s.modMeter k e f).brk = s.brk := rfl
@[simp] theorem modMeter_inc (s : State) (k : SegId) (e : Entry) (f : MeterEntry → MeterEntry) : (s.modMeter k e f).inc = s.inc := rfl
@[simp] theorem modMeter_plant (s : State) (k : SegId) (e : Entry) (f : MeterEntry → MeterEntry) : (s.modMeter k e f).plant = s.plant := rfl
@[simp] theorem modMeter_wire (s : State) (k : SegId) (e : Entry) (f : MeterEntry → MeterEntry) : (s.modMeter k e f).wire = s.wire := rfl
@[simp] theorem modMeter_lastMark (s : State) (k : SegId) (e : Entry) (f : MeterEntry → MeterEntry) : (s.modMeter k e f).lastMark = s.lastMark := rfl
@[simp] theorem modMeter_draws (s : State) (k : SegId) (e : Entry) (f : MeterEntry → MeterEntry) : (s.modMeter k e f).draws = s.draws := rfl
@[simp] theorem modMeter_pending (s : State) (k : SegId) (e : Entry) (f : MeterEntry → MeterEntry) : (s.modMeter k e f).pending = s.pending := rfl

@[simp] theorem modChan_sys (s : State) (c : Chan) (f : TalkRec → TalkRec) : (s.modChan c f).sys = s.sys := rfl
@[simp] theorem modChan_ports (s : State) (c : Chan) (f : TalkRec → TalkRec) : (s.modChan c f).ports = s.ports := rfl
@[simp] theorem modChan_loop (s : State) (c : Chan) (f : TalkRec → TalkRec) : (s.modChan c f).loop = s.loop := rfl
@[simp] theorem modChan_engine (s : State) (c : Chan) (f : TalkRec → TalkRec) : (s.modChan c f).engine = s.engine := rfl
@[simp] theorem modChan_alloc (s : State) (c : Chan) (f : TalkRec → TalkRec) : (s.modChan c f).alloc = s.alloc := rfl
@[simp] theorem modChan_meter (s : State) (c : Chan) (f : TalkRec → TalkRec) : (s.modChan c f).meter = s.meter := rfl
@[simp] theorem modChan_store (s : State) (c : Chan) (f : TalkRec → TalkRec) : (s.modChan c f).store = s.store := rfl
@[simp] theorem modChan_play (s : State) (c : Chan) (f : TalkRec → TalkRec) : (s.modChan c f).play = s.play := rfl
@[simp] theorem modChan_brk (s : State) (c : Chan) (f : TalkRec → TalkRec) : (s.modChan c f).brk = s.brk := rfl
@[simp] theorem modChan_inc (s : State) (c : Chan) (f : TalkRec → TalkRec) : (s.modChan c f).inc = s.inc := rfl
@[simp] theorem modChan_plant (s : State) (c : Chan) (f : TalkRec → TalkRec) : (s.modChan c f).plant = s.plant := rfl
@[simp] theorem modChan_wire (s : State) (c : Chan) (f : TalkRec → TalkRec) : (s.modChan c f).wire = s.wire := rfl
@[simp] theorem modChan_lastMark (s : State) (c : Chan) (f : TalkRec → TalkRec) : (s.modChan c f).lastMark = s.lastMark := rfl
@[simp] theorem modChan_draws (s : State) (c : Chan) (f : TalkRec → TalkRec) : (s.modChan c f).draws = s.draws := rfl
@[simp] theorem modChan_pending (s : State) (c : Chan) (f : TalkRec → TalkRec) : (s.modChan c f).pending = s.pending := rfl

@[simp] theorem modMsg_sys (s : State) (i : MsgId) (f : MsgRec → MsgRec) : (s.modMsg i f).sys = s.sys := rfl
@[simp] theorem modMsg_ports (s : State) (i : MsgId) (f : MsgRec → MsgRec) : (s.modMsg i f).ports = s.ports := rfl
@[simp] theorem modMsg_loop (s : State) (i : MsgId) (f : MsgRec → MsgRec) : (s.modMsg i f).loop = s.loop := rfl
@[simp] theorem modMsg_engine (s : State) (i : MsgId) (f : MsgRec → MsgRec) : (s.modMsg i f).engine = s.engine := rfl
@[simp] theorem modMsg_alloc (s : State) (i : MsgId) (f : MsgRec → MsgRec) : (s.modMsg i f).alloc = s.alloc := rfl
@[simp] theorem modMsg_meter (s : State) (i : MsgId) (f : MsgRec → MsgRec) : (s.modMsg i f).meter = s.meter := rfl
@[simp] theorem modMsg_talk (s : State) (i : MsgId) (f : MsgRec → MsgRec) : (s.modMsg i f).talk = s.talk := rfl
@[simp] theorem modMsg_play (s : State) (i : MsgId) (f : MsgRec → MsgRec) : (s.modMsg i f).play = s.play := rfl
@[simp] theorem modMsg_brk (s : State) (i : MsgId) (f : MsgRec → MsgRec) : (s.modMsg i f).brk = s.brk := rfl
@[simp] theorem modMsg_inc (s : State) (i : MsgId) (f : MsgRec → MsgRec) : (s.modMsg i f).inc = s.inc := rfl
@[simp] theorem modMsg_plant (s : State) (i : MsgId) (f : MsgRec → MsgRec) : (s.modMsg i f).plant = s.plant := rfl
@[simp] theorem modMsg_wire (s : State) (i : MsgId) (f : MsgRec → MsgRec) : (s.modMsg i f).wire = s.wire := rfl
@[simp] theorem modMsg_lastMark (s : State) (i : MsgId) (f : MsgRec → MsgRec) : (s.modMsg i f).lastMark = s.lastMark := rfl
@[simp] theorem modMsg_draws (s : State) (i : MsgId) (f : MsgRec → MsgRec) : (s.modMsg i f).draws = s.draws := rfl
@[simp] theorem modMsg_pending (s : State) (i : MsgId) (f : MsgRec → MsgRec) : (s.modMsg i f).pending = s.pending := rfl

@[simp] theorem modPchan_sys (s : State) (c : PChan) (f : PlayRec → PlayRec) : (s.modPchan c f).sys = s.sys := rfl
@[simp] theorem modPchan_ports (s : State) (c : PChan) (f : PlayRec → PlayRec) : (s.modPchan c f).ports = s.ports := rfl
@[simp] theorem modPchan_loop (s : State) (c : PChan) (f : PlayRec → PlayRec) : (s.modPchan c f).loop = s.loop := rfl
@[simp] theorem modPchan_engine (s : State) (c : PChan) (f : PlayRec → PlayRec) : (s.modPchan c f).engine = s.engine := rfl
@[simp] theorem modPchan_alloc (s : State) (c : PChan) (f : PlayRec → PlayRec) : (s.modPchan c f).alloc = s.alloc := rfl
@[simp] theorem modPchan_meter (s : State) (c : PChan) (f : PlayRec → PlayRec) : (s.modPchan c f).meter = s.meter := rfl
@[simp] theorem modPchan_talk (s : State) (c : PChan) (f : PlayRec → PlayRec) : (s.modPchan c f).talk = s.talk := rfl
@[simp] theorem modPchan_store (s : State) (c : PChan) (f : PlayRec → PlayRec) : (s.modPchan c f).store = s.store := rfl
@[simp] theorem modPchan_brk (s : State) (c : PChan) (f : PlayRec → PlayRec) : (s.modPchan c f).brk = s.brk := rfl
@[simp] theorem modPchan_inc (s : State) (c : PChan) (f : PlayRec → PlayRec) : (s.modPchan c f).inc = s.inc := rfl
@[simp] theorem modPchan_plant (s : State) (c : PChan) (f : PlayRec → PlayRec) : (s.modPchan c f).plant = s.plant := rfl
@[simp] theorem modPchan_wire (s : State) (c : PChan) (f : PlayRec → PlayRec) : (s.modPchan c f).wire = s.wire := rfl
@[simp] theorem modPchan_lastMark (s : State) (c : PChan) (f : PlayRec → PlayRec) : (s.modPchan c f).lastMark = s.lastMark := rfl
@[simp] theorem modPchan_draws (s : State) (c : PChan) (f : PlayRec → PlayRec) : (s.modPchan c f).draws = s.draws := rfl
@[simp] theorem modPchan_pending (s : State) (c : PChan) (f : PlayRec → PlayRec) : (s.modPchan c f).pending = s.pending := rfl

@[simp] theorem modPort_sys (s : State) (p : Port) (f : PortRec → PortRec) : (s.modPort p f).sys = s.sys := rfl
@[simp] theorem modPort_loop (s : State) (p : Port) (f : PortRec → PortRec) : (s.modPort p f).loop = s.loop := rfl
@[simp] theorem modPort_engine (s : State) (p : Port) (f : PortRec → PortRec) : (s.modPort p f).engine = s.engine := rfl
@[simp] theorem modPort_alloc (s : State) (p : Port) (f : PortRec → PortRec) : (s.modPort p f).alloc = s.alloc := rfl
@[simp] theorem modPort_meter (s : State) (p : Port) (f : PortRec → PortRec) : (s.modPort p f).meter = s.meter := rfl
@[simp] theorem modPort_talk (s : State) (p : Port) (f : PortRec → PortRec) : (s.modPort p f).talk = s.talk := rfl
@[simp] theorem modPort_store (s : State) (p : Port) (f : PortRec → PortRec) : (s.modPort p f).store = s.store := rfl
@[simp] theorem modPort_play (s : State) (p : Port) (f : PortRec → PortRec) : (s.modPort p f).play = s.play := rfl
@[simp] theorem modPort_brk (s : State) (p : Port) (f : PortRec → PortRec) : (s.modPort p f).brk = s.brk := rfl
@[simp] theorem modPort_inc (s : State) (p : Port) (f : PortRec → PortRec) : (s.modPort p f).inc = s.inc := rfl
@[simp] theorem modPort_plant (s : State) (p : Port) (f : PortRec → PortRec) : (s.modPort p f).plant = s.plant := rfl
@[simp] theorem modPort_wire (s : State) (p : Port) (f : PortRec → PortRec) : (s.modPort p f).wire = s.wire := rfl
@[simp] theorem modPort_lastMark (s : State) (p : Port) (f : PortRec → PortRec) : (s.modPort p f).lastMark = s.lastMark := rfl
@[simp] theorem modPort_draws (s : State) (p : Port) (f : PortRec → PortRec) : (s.modPort p f).draws = s.draws := rfl
@[simp] theorem modPort_pending (s : State) (p : Port) (f : PortRec → PortRec) : (s.modPort p f).pending = s.pending := rfl

@[simp] theorem modLineUnit_sys (s : State) (k : SegId) (f : LineUnit → LineUnit) : (s.modLineUnit k f).sys = s.sys := rfl
@[simp] theorem modLineUnit_ports (s : State) (k : SegId) (f : LineUnit → LineUnit) : (s.modLineUnit k f).ports = s.ports := rfl
@[simp] theorem modLineUnit_loop (s : State) (k : SegId) (f : LineUnit → LineUnit) : (s.modLineUnit k f).loop = s.loop := rfl
@[simp] theorem modLineUnit_engine (s : State) (k : SegId) (f : LineUnit → LineUnit) : (s.modLineUnit k f).engine = s.engine := rfl
@[simp] theorem modLineUnit_alloc (s : State) (k : SegId) (f : LineUnit → LineUnit) : (s.modLineUnit k f).alloc = s.alloc := rfl
@[simp] theorem modLineUnit_meter (s : State) (k : SegId) (f : LineUnit → LineUnit) : (s.modLineUnit k f).meter = s.meter := rfl
@[simp] theorem modLineUnit_talk (s : State) (k : SegId) (f : LineUnit → LineUnit) : (s.modLineUnit k f).talk = s.talk := rfl
@[simp] theorem modLineUnit_store (s : State) (k : SegId) (f : LineUnit → LineUnit) : (s.modLineUnit k f).store = s.store := rfl
@[simp] theorem modLineUnit_play (s : State) (k : SegId) (f : LineUnit → LineUnit) : (s.modLineUnit k f).play = s.play := rfl
@[simp] theorem modLineUnit_brk (s : State) (k : SegId) (f : LineUnit → LineUnit) : (s.modLineUnit k f).brk = s.brk := rfl
@[simp] theorem modLineUnit_inc (s : State) (k : SegId) (f : LineUnit → LineUnit) : (s.modLineUnit k f).inc = s.inc := rfl
@[simp] theorem modLineUnit_wire (s : State) (k : SegId) (f : LineUnit → LineUnit) : (s.modLineUnit k f).wire = s.wire := rfl
@[simp] theorem modLineUnit_lastMark (s : State) (k : SegId) (f : LineUnit → LineUnit) : (s.modLineUnit k f).lastMark = s.lastMark := rfl
@[simp] theorem modLineUnit_draws (s : State) (k : SegId) (f : LineUnit → LineUnit) : (s.modLineUnit k f).draws = s.draws := rfl
@[simp] theorem modLineUnit_pending (s : State) (k : SegId) (f : LineUnit → LineUnit) : (s.modLineUnit k f).pending = s.pending := rfl

@[simp] theorem modSegs_sys (s : State) (f : SegRec → SegRec) : (s.modSegs f).sys = s.sys := by simp only [State.modSegs]
@[simp] theorem modSegs_ports (s : State) (f : SegRec → SegRec) : (s.modSegs f).ports = s.ports := by simp only [State.modSegs]
@[simp] theorem modSegs_engine (s : State) (f : SegRec → SegRec) : (s.modSegs f).engine = s.engine := by simp only [State.modSegs]
@[simp] theorem modSegs_alloc (s : State) (f : SegRec → SegRec) : (s.modSegs f).alloc = s.alloc := by simp only [State.modSegs]
@[simp] theorem modSegs_meter (s : State) (f : SegRec → SegRec) : (s.modSegs f).meter = s.meter := by simp only [State.modSegs]
@[simp] theorem modSegs_talk (s : State) (f : SegRec → SegRec) : (s.modSegs f).talk = s.talk := by simp only [State.modSegs]
@[simp] theorem modSegs_store (s : State) (f : SegRec → SegRec) : (s.modSegs f).store = s.store := by simp only [State.modSegs]
@[simp] theorem modSegs_play (s : State) (f : SegRec → SegRec) : (s.modSegs f).play = s.play := by simp only [State.modSegs]
@[simp] theorem modSegs_brk (s : State) (f : SegRec → SegRec) : (s.modSegs f).brk = s.brk := by simp only [State.modSegs]
@[simp] theorem modSegs_inc (s : State) (f : SegRec → SegRec) : (s.modSegs f).inc = s.inc := by simp only [State.modSegs]
@[simp] theorem modSegs_plant (s : State) (f : SegRec → SegRec) : (s.modSegs f).plant = s.plant := by simp only [State.modSegs]
@[simp] theorem modSegs_wire (s : State) (f : SegRec → SegRec) : (s.modSegs f).wire = s.wire := by simp only [State.modSegs]
@[simp] theorem modSegs_lastMark (s : State) (f : SegRec → SegRec) : (s.modSegs f).lastMark = s.lastMark := by simp only [State.modSegs]
@[simp] theorem modSegs_draws (s : State) (f : SegRec → SegRec) : (s.modSegs f).draws = s.draws := by simp only [State.modSegs]
@[simp] theorem modSegs_pending (s : State) (f : SegRec → SegRec) : (s.modSegs f).pending = s.pending := by simp only [State.modSegs]

@[simp] theorem modUnits_sys (s : State) (f : UnitRec → UnitRec) : (s.modUnits f).sys = s.sys := by simp only [State.modUnits]
@[simp] theorem modUnits_ports (s : State) (f : UnitRec → UnitRec) : (s.modUnits f).ports = s.ports := by simp only [State.modUnits]
@[simp] theorem modUnits_loop (s : State) (f : UnitRec → UnitRec) : (s.modUnits f).loop = s.loop := by simp only [State.modUnits]
@[simp] theorem modUnits_alloc (s : State) (f : UnitRec → UnitRec) : (s.modUnits f).alloc = s.alloc := by simp only [State.modUnits]
@[simp] theorem modUnits_meter (s : State) (f : UnitRec → UnitRec) : (s.modUnits f).meter = s.meter := by simp only [State.modUnits]
@[simp] theorem modUnits_talk (s : State) (f : UnitRec → UnitRec) : (s.modUnits f).talk = s.talk := by simp only [State.modUnits]
@[simp] theorem modUnits_store (s : State) (f : UnitRec → UnitRec) : (s.modUnits f).store = s.store := by simp only [State.modUnits]
@[simp] theorem modUnits_play (s : State) (f : UnitRec → UnitRec) : (s.modUnits f).play = s.play := by simp only [State.modUnits]
@[simp] theorem modUnits_brk (s : State) (f : UnitRec → UnitRec) : (s.modUnits f).brk = s.brk := by simp only [State.modUnits]
@[simp] theorem modUnits_inc (s : State) (f : UnitRec → UnitRec) : (s.modUnits f).inc = s.inc := by simp only [State.modUnits]
@[simp] theorem modUnits_plant (s : State) (f : UnitRec → UnitRec) : (s.modUnits f).plant = s.plant := by simp only [State.modUnits]
@[simp] theorem modUnits_wire (s : State) (f : UnitRec → UnitRec) : (s.modUnits f).wire = s.wire := by simp only [State.modUnits]
@[simp] theorem modUnits_lastMark (s : State) (f : UnitRec → UnitRec) : (s.modUnits f).lastMark = s.lastMark := by simp only [State.modUnits]
@[simp] theorem modUnits_draws (s : State) (f : UnitRec → UnitRec) : (s.modUnits f).draws = s.draws := by simp only [State.modUnits]
@[simp] theorem modUnits_pending (s : State) (f : UnitRec → UnitRec) : (s.modUnits f).pending = s.pending := by simp only [State.modUnits]

@[simp] theorem raise_sys (s : State) (d : Tri Bool) (e : EventKind) (x : Byte) (a b : Half) : (s.raise d e x a b).sys = s.sys := by simp only [State.raise]
@[simp] theorem raise_loop (s : State) (d : Tri Bool) (e : EventKind) (x : Byte) (a b : Half) : (s.raise d e x a b).loop = s.loop := by simp only [State.raise]
@[simp] theorem raise_engine (s : State) (d : Tri Bool) (e : EventKind) (x : Byte) (a b : Half) : (s.raise d e x a b).engine = s.engine := by simp only [State.raise]
@[simp] theorem raise_alloc (s : State) (d : Tri Bool) (e : EventKind) (x : Byte) (a b : Half) : (s.raise d e x a b).alloc = s.alloc := by simp only [State.raise]
@[simp] theorem raise_meter (s : State) (d : Tri Bool) (e : EventKind) (x : Byte) (a b : Half) : (s.raise d e x a b).meter = s.meter := by simp only [State.raise]
@[simp] theorem raise_talk (s : State) (d : Tri Bool) (e : EventKind) (x : Byte) (a b : Half) : (s.raise d e x a b).talk = s.talk := by simp only [State.raise]
@[simp] theorem raise_store (s : State) (d : Tri Bool) (e : EventKind) (x : Byte) (a b : Half) : (s.raise d e x a b).store = s.store := by simp only [State.raise]
@[simp] theorem raise_play (s : State) (d : Tri Bool) (e : EventKind) (x : Byte) (a b : Half) : (s.raise d e x a b).play = s.play := by simp only [State.raise]
@[simp] theorem raise_brk (s : State) (d : Tri Bool) (e : EventKind) (x : Byte) (a b : Half) : (s.raise d e x a b).brk = s.brk := by simp only [State.raise]
@[simp] theorem raise_inc (s : State) (d : Tri Bool) (e : EventKind) (x : Byte) (a b : Half) : (s.raise d e x a b).inc = s.inc := by simp only [State.raise]
@[simp] theorem raise_plant (s : State) (d : Tri Bool) (e : EventKind) (x : Byte) (a b : Half) : (s.raise d e x a b).plant = s.plant := by simp only [State.raise]
@[simp] theorem raise_wire (s : State) (d : Tri Bool) (e : EventKind) (x : Byte) (a b : Half) : (s.raise d e x a b).wire = s.wire := by simp only [State.raise]
@[simp] theorem raise_lastMark (s : State) (d : Tri Bool) (e : EventKind) (x : Byte) (a b : Half) : (s.raise d e x a b).lastMark = s.lastMark := by simp only [State.raise]
@[simp] theorem raise_draws (s : State) (d : Tri Bool) (e : EventKind) (x : Byte) (a b : Half) : (s.raise d e x a b).draws = s.draws := by simp only [State.raise]
@[simp] theorem raise_pending (s : State) (d : Tri Bool) (e : EventKind) (x : Byte) (a b : Half) : (s.raise d e x a b).pending = s.pending := by simp only [State.raise]

@[simp] theorem hold_sys (s : State) (p : Port) (c : Byte) (r : Reply) : (s.hold p c r).sys = s.sys := rfl
@[simp] theorem hold_loop (s : State) (p : Port) (c : Byte) (r : Reply) : (s.hold p c r).loop = s.loop := rfl
@[simp] theorem hold_engine (s : State) (p : Port) (c : Byte) (r : Reply) : (s.hold p c r).engine = s.engine := rfl
@[simp] theorem hold_alloc (s : State) (p : Port) (c : Byte) (r : Reply) : (s.hold p c r).alloc = s.alloc := rfl
@[simp] theorem hold_meter (s : State) (p : Port) (c : Byte) (r : Reply) : (s.hold p c r).meter = s.meter := rfl
@[simp] theorem hold_talk (s : State) (p : Port) (c : Byte) (r : Reply) : (s.hold p c r).talk = s.talk := rfl
@[simp] theorem hold_store (s : State) (p : Port) (c : Byte) (r : Reply) : (s.hold p c r).store = s.store := rfl
@[simp] theorem hold_play (s : State) (p : Port) (c : Byte) (r : Reply) : (s.hold p c r).play = s.play := rfl
@[simp] theorem hold_brk (s : State) (p : Port) (c : Byte) (r : Reply) : (s.hold p c r).brk = s.brk := rfl
@[simp] theorem hold_inc (s : State) (p : Port) (c : Byte) (r : Reply) : (s.hold p c r).inc = s.inc := rfl
@[simp] theorem hold_plant (s : State) (p : Port) (c : Byte) (r : Reply) : (s.hold p c r).plant = s.plant := rfl
@[simp] theorem hold_wire (s : State) (p : Port) (c : Byte) (r : Reply) : (s.hold p c r).wire = s.wire := rfl
@[simp] theorem hold_lastMark (s : State) (p : Port) (c : Byte) (r : Reply) : (s.hold p c r).lastMark = s.lastMark := rfl
@[simp] theorem hold_draws (s : State) (p : Port) (c : Byte) (r : Reply) : (s.hold p c r).draws = s.draws := rfl
@[simp] theorem hold_pending (s : State) (p : Port) (c : Byte) (r : Reply) : (s.hold p c r).pending = s.pending := rfl

@[simp] theorem transmit_sys (s : State) (w : Sender) (bs : List Byte) : (s.transmit w bs).sys = s.sys := rfl
@[simp] theorem transmit_ports (s : State) (w : Sender) (bs : List Byte) : (s.transmit w bs).ports = s.ports := rfl
@[simp] theorem transmit_loop (s : State) (w : Sender) (bs : List Byte) : (s.transmit w bs).loop = s.loop := rfl
@[simp] theorem transmit_engine (s : State) (w : Sender) (bs : List Byte) : (s.transmit w bs).engine = s.engine := rfl
@[simp] theorem transmit_alloc (s : State) (w : Sender) (bs : List Byte) : (s.transmit w bs).alloc = s.alloc := rfl
@[simp] theorem transmit_meter (s : State) (w : Sender) (bs : List Byte) : (s.transmit w bs).meter = s.meter := rfl
@[simp] theorem transmit_talk (s : State) (w : Sender) (bs : List Byte) : (s.transmit w bs).talk = s.talk := rfl
@[simp] theorem transmit_store (s : State) (w : Sender) (bs : List Byte) : (s.transmit w bs).store = s.store := rfl
@[simp] theorem transmit_play (s : State) (w : Sender) (bs : List Byte) : (s.transmit w bs).play = s.play := rfl
@[simp] theorem transmit_brk (s : State) (w : Sender) (bs : List Byte) : (s.transmit w bs).brk = s.brk := rfl
@[simp] theorem transmit_inc (s : State) (w : Sender) (bs : List Byte) : (s.transmit w bs).inc = s.inc := rfl
@[simp] theorem transmit_plant (s : State) (w : Sender) (bs : List Byte) : (s.transmit w bs).plant = s.plant := rfl
@[simp] theorem transmit_lastMark (s : State) (w : Sender) (bs : List Byte) : (s.transmit w bs).lastMark = s.lastMark := rfl
@[simp] theorem transmit_draws (s : State) (w : Sender) (bs : List Byte) : (s.transmit w bs).draws = s.draws := rfl
@[simp] theorem transmit_pending (s : State) (w : Sender) (bs : List Byte) : (s.transmit w bs).pending = s.pending := rfl

end Sys2Proof.Machine
end

