-- ==== Sys2Proof/Laws/Undisturbed.lean ====
section
/-! SUPPORT. What grant rounds, relay sets, owners and the events they raise leave alone, said once: `Undisturbed s t`. Every
operation that ends a command's event is proved to keep it, so that a setting a command writes is still there afterwards. -/

namespace Sys2Proof.Machine

-- As in Sys2Proof/Laws/PerInstr.lean.
set_option Elab.async false

namespace Undisturbed

theorem refl (s : State) : Undisturbed s s := by constructor <;> intros <;> rfl

theorem trans {s t u : State} (h : Undisturbed s t) (g : Undisturbed t u) : Undisturbed s u where
  sys := g.sys.trans h.sys
  store := g.store.trans h.store
  inc := g.inc.trans h.inc
  plant := g.plant.trans h.plant
  wire := g.wire.trans h.wire
  lastMark := g.lastMark.trans h.lastMark
  draws := g.draws.trans h.draws
  pending := g.pending.trans h.pending
  meter := g.meter.trans h.meter
  loop := by have a := h.loop; rw [← g.loop] at a; exact a
  seg k := (g.seg k).trans (h.seg k)
  ramp := g.ramp.trans h.ramp
  unit k := (g.unit k).trans (h.unit k)
  cap := g.cap.trans h.cap
  level := g.level.trans h.level
  aseg k := (g.aseg k).trans (h.aseg k)
  talk := by have a := h.talk; rw [← g.talk] at a; exact a
  chan c := (g.chan c).trans (h.chan c)
  port p := (g.port p).trans (h.port p)
  brk := by have a := h.brk; rw [← g.brk] at a; exact a
  program c := (g.program c).trans (h.program c)
  held := g.held.trans h.held
  rotation := g.rotation.trans h.rotation

theorem n {s t : State} (h : Undisturbed s t) : t.loop.n = s.loop.n := by
  have a := congrArg LoopRec.n h.loop
  exact a

theorem foldl {α : Type} (f : State → α → State) (hf : ∀ s a, Undisturbed s (f s a)) (l : List α) (s : State) :
    Undisturbed s (l.foldl f s) := by
  induction l generalizing s with
  | nil => exact refl s
  | cons a l ih => exact (hf s a).trans (ih (f s a))

theorem forSegs (f : SegId → State → State) (hf : ∀ k s, Undisturbed s (f k s)) (s : State) :
    Undisturbed s (Machine.forSegs f s) :=
  foldl _ (fun t k => by split; exact hf k t; exact refl t) _ s

theorem forSet (m : SegSet) (f : SegId → State → State) (hf : ∀ k s, Undisturbed s (f k s)) (s : State) :
    Undisturbed s (Machine.forSet m f s) :=
  forSegs _ (fun k t => by split; exact hf k t; exact refl t) s

end Undisturbed

theorem enqueue_settings (q : PortRec) (e : EventRec) : (q.enqueue e).settings = q.settings := by
  unfold PortRec.enqueue PortRec.settings; split <;> rfl

theorem raise_port (s : State) (d : Tri Bool) (e : EventKind) (x : Byte) (a b : Half) (p : Port) :
    (s.raise d e x a b).port p =
      if d.get p then (s.port p).enqueue ⟨e, x, s.sys.uptime, a, b⟩ else s.port p := by
  cases p <;> rfl

theorem raise_undisturbed (s : State) (d : Tri Bool) (e : EventKind) (x : Byte) (a b : Half) :
    Undisturbed s (s.raise d e x a b) := by
  constructor <;> intros <;> (try rfl); try simp only [State.raise]
  rename_i p
  have := raise_port s d e x a b p
  simp only [State.raise] at this
  rw [this]
  split
  · exact enqueue_settings _ _
  · rfl

theorem modAseg_undisturbed (s : State) (k : SegId) (f : AllocSeg → AllocSeg) (hf : ∀ a, (f a).settings = a.settings) :
    Undisturbed s (s.modAseg k f) := by
  constructor <;> intros <;> try rfl
  rw [modAseg_aseg]
  split
  · next h => subst h; exact hf _
  · rfl

theorem modUnit_undisturbed (s : State) (k : SegId) (f : UnitRec → UnitRec) (hf : ∀ a, (f a).settings = a.settings) :
    Undisturbed s (s.modUnit k f) := by
  constructor <;> intros <;> try rfl
  rw [modUnit_unit]
  split
  · next h => subst h; exact hf _
  · rfl

theorem modSeg_undisturbed (s : State) (k : SegId) (f : SegRec → SegRec) (hf : ∀ a, (f a).settings = a.settings) :
    Undisturbed s (s.modSeg k f) := by
  constructor <;> intros <;> try rfl
  rw [modSeg_seg]
  split
  · next h => subst h; exact hf _
  · rfl

theorem requestLevels_settings (u : UnitRec) : u.requestLevels.settings = u.settings := by
  unfold UnitRec.requestLevels UnitRec.settings; split
  · rfl
  · split <;> rfl

theorem refreshRelay_undisturbed (s : State) : Undisturbed s (refreshRelay s) := by
  constructor <;> intros <;> try rfl
  rename_i c
  cases c <;> rfl

theorem engineTakesGrants_undisturbed (k : SegId) (s : State) : Undisturbed s (engineTakesGrants k s) := by
  unfold engineTakesGrants; split
  · exact modUnit_undisturbed s k _ requestLevels_settings
  · exact .refl s

theorem raiseGrantChange_undisturbed (k : SegId) (old new : Six Nat) (s : State) (e : Entry) :
    Undisturbed s (raiseGrantChange k old new s e) := by
  unfold raiseGrantChange; split
  · exact .refl s
  · exact raise_undisturbed ..

/-- A grant round (R48, R52, R53) writes grants, the pointer, relay sets, LEVELS slots and events. -/
theorem runRound_undisturbed (k : SegId) (s : State) : Undisturbed s (runRound k s) := by
  unfold runRound; split
  · dsimp only
    refine Undisturbed.trans ?_ (engineTakesGrants_undisturbed k _)
    refine Undisturbed.trans ?_ (refreshRelay_undisturbed _)
    refine Undisturbed.trans ?_ (Undisturbed.foldl _ (raiseGrantChange_undisturbed k _ _) _ _)
    exact modAseg_undisturbed s k _ fun _ => rfl
  · exact .refl s

/-- E recomputed (R21) writes E and what its grant round writes. -/
theorem recomputeLimit_undisturbed (k : SegId) (s : State) : Undisturbed s (recomputeLimit k s) := by
  unfold recomputeLimit; dsimp only; split
  · exact .refl s
  · refine Undisturbed.trans ?_ (runRound_undisturbed k _)
    exact modSeg_undisturbed s k _ fun _ => rfl

theorem roundsWhereChanged_undisturbed (old : AllocRec) (s : State) : Undisturbed s (roundsWhereChanged old s) :=
  Undisturbed.forSegs _ (fun k t => by split; exact .refl t; exact runRound_undisturbed k t) s

theorem setActivity_undisturbed (b : Bool) (s : State) : Undisturbed s (setActivity b s) :=
  Undisturbed.trans (t := { s with alloc.activity := b }) (by constructor <;> intros <;> rfl)
    (Undisturbed.forSegs _ runRound_undisturbed _)

/-- What an event of the talk controller ends with (R102, R100). -/
theorem talkFinish_undisturbed (before s : State) : Undisturbed s (talkFinish before s) := by
  have h (c : Chan) (t : State) : Undisturbed t (raiseTalkIfChanged before c t) := by
    unfold raiseTalkIfChanged; split
    · exact .refl t
    · exact raise_undisturbed ..
  unfold talkFinish
  refine ((h .t1 s).trans (h .t2 _)).trans ?_
  unfold tellActivity; split
  · exact .refl _
  · exact setActivity_undisturbed _ _

theorem modPchan_undisturbed (s : State) (c : PChan) (f : PlayRec → PlayRec) (hf : ∀ r, (f r).program = r.program) :
    Undisturbed s (s.modPchan c f) := by
  constructor <;> intros <;> try rfl
  rw [modPchan_pchan]
  split
  · next h => subst h; exact hf _
  · rfl

theorem goIdle_undisturbed (c : PChan) (s : State) : Undisturbed s (goIdle c s) := modPchan_undisturbed s c _ fun _ => rfl

theorem raisePlayout_undisturbed (c : PChan) (r : PlayRec) (x y : Byte) (s : State) :
    Undisturbed s (raisePlayout c r x y s) := raise_undisturbed ..

theorem endChannel_undisturbed (c : PChan) (x : EndCause) (s : State) : Undisturbed s (endChannel c x s) :=
  (goIdle_undisturbed c s).trans (raisePlayout_undisturbed ..)

theorem resumeRounds_undisturbed (n : Nat) (s : State) : Undisturbed s (resumeRounds n s) := by
  induction n generalizing s with
  | zero => exact .refl s
  | succ n ih =>
    have h : Undisturbed s (PChan.every.foldl (resumeChannel (ownersNow s)) s) := by
      refine Undisturbed.foldl _ (fun t c => ?_) _ s
      unfold resumeChannel; dsimp only; split
      · split
        · exact modPchan_undisturbed _ _ _ fun _ => rfl
        · exact goIdle_undisturbed _ _
      · exact .refl t
    unfold resumeRounds; dsimp only; split
    · exact h.trans (ih _)
    · exact h

/-- A recomputation of the owners (R144, R147) writes owners, the states of playout channels and events. -/
theorem recomputeOwners_undisturbed (x : Option PChan) (s : State) : Undisturbed s (recomputeOwners x s) := by
  unfold recomputeOwners
  dsimp only
  refine Undisturbed.trans ?_ (Undisturbed.foldl _ (fun t c => ?_) _ _)
  refine Undisturbed.trans ?_ (Undisturbed.foldl _ (fun t c => ?_) _ _)
  refine Undisturbed.trans ?_ (Undisturbed.foldl _ (fun t c => ?_) _ _)
  refine (resumeRounds_undisturbed 5 s).trans ?_
  · generalize resumeRounds 5 s = t
    generalize ownersNow t = o
    constructor <;> intros <;> rfl
  · unfold holdChannel; dsimp only; split
    · split
      · exact goIdle_undisturbed _ _
      · exact modPchan_undisturbed _ _ _ fun _ => rfl
    · exact .refl t
  · unfold raiseOwner; dsimp only; split
    · exact .refl t
    · exact raise_undisturbed ..
  · unfold raiseHoldResume; dsimp only; split
    · exact .refl t
    · split <;> first | exact raisePlayout_undisturbed .. | exact .refl t

/-- The end of an event (R143). -/
theorem settle_undisturbed (before s : State) : Undisturbed s (settle before s) := by
  unfold settle; split
  · exact .refl s
  · exact recomputeOwners_undisturbed none s

end Sys2Proof.Machine
end

