-- ==== Sys2Proof/Laws/Commands.lean ====
section
/-! SUPPORT. What a command period does before and after its block (R161 to R163), said once: a command that is `Ready` is
handed to its block, on the state with its frame shifted in, and the block's reply is the holding record. -/

namespace Sys2Proof

-- As in Sys2Proof/Laws/PerInstr.lean.
set_option Elab.async false

theorem byteSum_append (a b : List Byte) : byteSum (a ++ b) = byteSum a + byteSum b := by
  induction a with
  | nil => simp [byteSum]
  | cons x a ih => simp [byteSum, ih, BitVec.add_assoc]

/-- R162: the sum of every byte of a frame is 0. -/
theorem byteSum_withCheck (bs : List Byte) : byteSum (withCheck bs) = 0 := by
  simp [withCheck, byteSum_append, checkByte, byteSum]

theorem be2_len (n : Nat) (h : n < 65536) :
    ((BitVec.ofNat 16 n).extractLsb' 8 8 ++ (BitVec.ofNat 16 n).extractLsb' 0 8).toNat = n := by
  rw [Laws.Period.be2_join]; simp; omega

/-- R162, R177: a frame built for a payload that fits is no FRAME_ERROR. -/
theorem frameOk_commandFrame (code : Byte) (payload : List Byte) (h : payload.length ≤ 264) :
    frameOk (commandFrame code payload) = true := by
  have e := be2_len payload.length (by omega)
  have s : byteSum (commandFrame code payload) = 0 := byteSum_withCheck _
  unfold frameOk
  simp only [commandFrame, withCheck, be2, List.cons_append, List.nil_append] at s ⊢
  rw [e, s]
  simp [Config.maxPayload, h]
  omega

namespace Machine

/-- R161 to R163: what the period of a ready command leaves to its block. -/
theorem takePeriod_of_ready {i : Instr} {s : State} {p : Port} {code : Byte} {payload : List Byte}
    (hf : commandFields i = some (p, code, payload)) (h : Ready i s) :
    takePeriod i s = .passed (s.modPort p fun q => q.shift (commandFrame code payload)) p code := by
  obtain ⟨hw, hh, ha⟩ := h
  obtain ⟨hl, hd⟩ := Laws.Period.all i p code payload hf hw
  rw [hf] at ha
  simp only at ha
  simp [takePeriod, hf, hh, frameOk_commandFrame _ _ hl, hd, ha]

/-- R161: the command is handed to its block, and the block's reply becomes the holding record. -/
theorem portCommand_of_ready {i : Instr} {s : State} {p : Port} {code : Byte} {payload : List Byte}
    (hf : commandFields i = some (p, code, payload)) (h : Ready i s) (body : State → State × Reply) :
    portCommand i body s =
      (body (s.modPort p fun q => q.shift (commandFrame code payload))).1.hold p code
        (body (s.modPort p fun q => q.shift (commandFrame code payload))).2 := by
  simp only [portCommand, takePeriod_of_ready hf h]

/-- The holding record of a port is no part of what `Undisturbed` lets change, so both sides may take the same answer. -/
theorem Undisturbed.hold {s t : State} (h : Undisturbed s t) (p : Port) (code : Byte) (r : Reply) :
    Undisturbed (s.hold p code r) (t.hold p code r) where
  sys := h.sys
  store := h.store
  inc := h.inc
  plant := h.plant
  wire := h.wire
  lastMark := h.lastMark
  draws := h.draws
  pending := h.pending
  meter := h.meter
  loop := h.loop
  seg := h.seg
  ramp := h.ramp
  unit := h.unit
  cap := h.cap
  level := h.level
  aseg := h.aseg
  talk := h.talk
  chan := h.chan
  port x := by
    have := h.port x
    simp only [State.port, State.hold, State.modPort, PortRec.settings] at *
    cases p <;> cases x <;> simp_all [Tri.get, Tri.set]
  brk := h.brk
  program := h.program
  held := h.held
  rotation := h.rotation

end Machine

end Sys2Proof
end

