-- ==== Sys2Proof/Laws/Directives.lean ====
section
/-! SUPPORT. What the directive engine holds back: a unit that is not PRESENT is sent nothing (R28, R29), and nothing is queued for
a PRESENT unit that awaits its acquisition (R31). The conversion of R32, and the replies before its first ROUSE. -/

namespace Sys2Proof.Machine

/-- R29: a pause sends nothing. -/
@[simp] theorem pauseDirective_wire (k : SegId) (d : Directive) (n : Nat) (s : State) : (pauseDirective k d n s).wire = s.wire := rfl

/-- R29: an attempt that is due while the segment is not PRESENT waits. -/
theorem dueAttempt_of_absent {k : SegId} {s : State} (h : (s.seg k).link ≠ .present) (d : Directive) (n : Nat) (side : Side) :
    dueAttempt k d n side s = pauseDirective k d n s := if_neg h

/-- R28: so does a step of the attempt under way. -/
theorem dueStep_of_absent {k : SegId} {s : State} (h : (s.seg k).link ≠ .present) (d : Directive) (send : State → State) :
    dueStep k d send s = pauseDirective k d (d.paused.getD d.attempt) s := if_neg h

theorem dueStep_of_present {k : SegId} {s : State} (h : (s.seg k).link = .present) (d : Directive) (send : State → State) :
    dueStep k d send s = send s := if_pos h

@[simp] theorem convert_attempt (d : Directive) : d.convert.attempt = 1 := rfl
@[simp] theorem convert_rouse (d : Directive) : d.convert.rouse = true := rfl
@[simp] theorem convert_step (d : Directive) : d.convert.step = .rouse1 := rfl
@[simp] theorem convert_content (d : Directive) : d.convert.content = d.content := rfl

/-- R32, last row: an ordinary directive that is still wanted is converted, and its attempt 1 is due. -/
theorem takeAsleep_converts {k : SegId} {d : Directive} {s : State} (hz : d.content ≠ .zeroReset) (hp : d.content ≠ .probe)
    (hm : d.content ≠ .mode .dormant) (hc : (s.seg k).commanded ≠ .dormant) (hs : supplyLowRecorded (s.seg k) = false)
    (hr : d.rouse = false) :
    takeAsleep k d s =
      dueAttempt k d.convert 1 (preferredSide s.loop.n k (s.seg k).reach) (s.setApplied k (some zeroLevels)) := by
  have seg_kept : (s.setApplied k (some zeroLevels)).seg k = s.seg k := rfl
  unfold takeAsleep
  split
  · exact absurd ‹_› hz
  · exact absurd ‹_› hp
  · simp only [hm, hc, hs, hr, seg_kept, if_false, Bool.false_eq_true]
    rfl

/-- Before the first ROUSE of a converted directive no reply but WRONG_UNIT changes anything (DESIGN CHOICE, log 47). -/
theorem takeReply_before_rouse {d : Directive} {o : ReplyOutcome} (hd : d.step = .rouse1) (ho : o ≠ .wrongUnit) (k : SegId) (s : State) :
    takeReply k d o s = s := by
  unfold takeReply
  rw [hd]
  cases o <;> simp_all

/-- R31: new grants queue nothing before the acquisition. -/
theorem engineTakesGrants_of_wants {k : SegId} {s : State} (h : wantsAcquisition (s.seg k) = true) :
    engineTakesGrants k s = s := by
  simp [engineTakesGrants, h]

/-- R25 row 3: elsewhere they ask for a LEVELS where they leave the applied levels behind. -/
theorem engineTakesGrants_of_behind {k : SegId} {s : State} (ha : wantsAcquisition (s.seg k) = false)
    (hc : (s.unit k).levelsClear = true) (hb : (s.unit k).behind (s.aseg k).grants = true) :
    engineTakesGrants k s = s.modUnit k UnitRec.requestLevels := by
  simp [engineTakesGrants, ha, hc, hb]

/-- R24: a LEVELS request fills the empty slot of an unmarked unit. -/
theorem requestLevels_of_empty {u : UnitRec} (hm : u.marked = false) (hl : u.levelsSlot = .empty) :
    u.requestLevels = { u with levelsSlot := .levels } := by simp [UnitRec.requestLevels, hm, hl]

/-- R31: nor does a reconciliation. -/
theorem reconcile_of_unacquired {k : SegId} {s : State} (h : (s.seg k).acquired = false) : reconcile k s = s := by
  have h' : reconcileTarget (s.seg k) = none := by
    unfold reconcileTarget
    split <;> simp [h]
  simp [reconcile, h']

end Sys2Proof.Machine
end

