-- ==== Sys2Proof/Laws/Memory.lean ====
section
/-! SUPPORT. The message memory (R105, log 10): a write keeps the canonical form and changes one byte; what a stored run of
bytes changes. -/

namespace Sys2Proof.Machine

-- As in Sys2Proof/Laws/PerInstr.lean.
set_option Elab.async false

theorem memOrdered_mono {lo hi : Nat} (h : lo ≤ hi) {m : List Host.Cell} (o : memOrdered hi m = true) :
    memOrdered lo m = true := by
  cases m with
  | nil => rfl
  | cons c m =>
    obtain ⟨x, b⟩ := c
    simp only [memOrdered, Bool.and_eq_true, decide_eq_true_eq] at o ⊢
    exact ⟨⟨by omega, o.1.2⟩, o.2⟩

/-- Below its first address a memory lists nothing. -/
theorem memGet_below {lo a : Nat} {m : List Host.Cell} (o : memOrdered lo m = true) (h : a < lo) :
    memGet m a = memDefault := by
  induction m generalizing lo with
  | nil => rfl
  | cons c m ih =>
    obtain ⟨x, b⟩ := c
    simp only [memOrdered, Bool.and_eq_true, decide_eq_true_eq] at o
    simp only [memGet]
    rw [if_neg (by omega)]
    exact ih o.2 (by omega)

theorem memOrdered_memPut {lo a : Nat} (b : Byte) {m : List Host.Cell} (o : memOrdered lo m = true) (h : lo ≤ a) :
    memOrdered lo (memPut m a b) = true := by
  induction m generalizing lo with
  | nil => simp only [memPut]; split <;> simp [memOrdered, *]
  | cons c m ih =>
    obtain ⟨x, d⟩ := c
    have o' := o
    simp only [memOrdered, Bool.and_eq_true, decide_eq_true_eq] at o
    simp only [memPut]
    split
    · split
      · exact o'
      · simp only [memOrdered, Bool.and_eq_true, decide_eq_true_eq]
        exact ⟨⟨h, by assumption⟩, ⟨by omega, o.1.2⟩, o.2⟩
    · split
      · next e =>
        subst e
        split
        · exact memOrdered_mono (by omega) o.2
        · simp only [memOrdered, Bool.and_eq_true, decide_eq_true_eq]
          exact ⟨⟨h, by assumption⟩, o.2⟩
      · simp only [memOrdered, Bool.and_eq_true, decide_eq_true_eq]
        exact ⟨o.1, ih o.2 (by omega)⟩

/-- A write is read back, and every other byte reads as before. -/
theorem memGet_memPut {lo : Nat} (a : Nat) (b : Byte) (x : Nat) {m : List Host.Cell} (o : memOrdered lo m = true) :
    memGet (memPut m a b) x = if x = a then b else memGet m x := by
  induction m generalizing lo with
  | nil =>
    simp only [memPut]
    split
    · next e => subst e; simp [memGet]
    · simp only [memGet, eq_comm]
  | cons c m ih =>
    obtain ⟨y, d⟩ := c
    have o' := o
    simp only [memOrdered, Bool.and_eq_true, decide_eq_true_eq] at o
    simp only [memPut]
    split
    · next l =>
      split
      · next e =>
        subst e
        split
        · next e => subst e; exact memGet_below (memOrdered_mono (Nat.le_refl y) (by simpa [memOrdered] using ⟨o.1.2, o.2⟩)) l
        · rfl
      · simp only [memGet, eq_comm]
    · split
      · next e =>
        subst e
        split
        · next e =>
          subst e
          simp only [memGet]
          by_cases g : a = x
          · subst g; rw [if_pos rfl]; exact memGet_below o.2 (by omega)
          · rw [if_neg g, if_neg (Ne.symm g)]
        · simp only [memGet]
          by_cases g : a = x
          · simp [g]
          · simp [g, Ne.symm g]
      · next g =>
        simp only [memGet]
        by_cases e : y = x
        · subst e; rw [if_pos rfl, if_neg (Ne.symm g), if_pos rfl]
        · rw [if_neg e, if_neg e]; exact ih o.2

theorem all_memPut {a : Nat} (b : Byte) (h : a < 4194304) {m : List Host.Cell}
    (o : (m.all fun (x, _) => decide (x < 4194304)) = true) :
    ((memPut m a b).all fun (x, _) => decide (x < 4194304)) = true := by
  induction m with
  | nil => simp only [memPut]; split <;> simp [h]
  | cons c m ih =>
    obtain ⟨x, d⟩ := c
    simp only [List.all_cons, Bool.and_eq_true, decide_eq_true_eq] at o
    simp only [memPut]
    split
    · split <;> simp only [List.all_cons, Bool.and_eq_true, decide_eq_true_eq]
      · exact o
      · exact ⟨h, o⟩
    · split
      · split
        · exact o.2
        · simp only [List.all_cons, Bool.and_eq_true, decide_eq_true_eq]; exact ⟨h, o.2⟩
      · simp only [List.all_cons, Bool.and_eq_true, decide_eq_true_eq]; exact ⟨o.1, ih o.2⟩

/-- The canonical form is kept by a write. -/
theorem memWrite_wf (a : MemAddr) (b : Byte) {m : List Host.Cell} (h : Memory.wf m = true) :
    Memory.wf (memWrite m a b) = true := by
  simp only [Memory.wf, Bool.and_eq_true] at h ⊢
  exact ⟨memOrdered_memPut b h.1 (Nat.zero_le _), all_memPut b a.isLt h.2⟩

/-- A written byte is read back, and every other byte reads as before. -/
theorem memRead_memWrite (a x : MemAddr) (b : Byte) {m : List Host.Cell} (h : Memory.wf m = true) :
    memRead (memWrite m a b) x = if x = a then b else memRead m x := by
  simp only [Memory.wf, Bool.and_eq_true] at h
  simp only [memRead, memWrite, memGet_memPut _ _ _ h.1, BitVec.toNat_inj]

/-- The canonical form is kept by a stored run of bytes. -/
theorem memStore_wf (first j : Nat) (bs : List Byte) {m : List Host.Cell} (h : Memory.wf m = true) :
    Memory.wf (memStore m first j bs) = true := by
  induction bs generalizing m j with
  | nil => exact h
  | cons b bs ih => exact ih _ (memWrite_wf _ _ h)

/-- A byte outside the stored run reads as before. -/
theorem memRead_memStore_outside (first j : Nat) (bs : List Byte) (x : MemAddr) {m : List Host.Cell}
    (h : Memory.wf m = true) (o : ∀ n < bs.length, x ≠ msgAddr first (j + n)) :
    memRead (memStore m first j bs) x = memRead m x := by
  induction bs generalizing m j with
  | nil => rfl
  | cons b bs ih =>
    simp only [memStore]
    rw [ih (j + 1) (memWrite_wf _ _ h) fun n hn => by
        have := o (n + 1) (by simp; omega)
        rwa [show j + (n + 1) = j + 1 + n by omega] at this,
      memRead_memWrite _ _ _ h, if_neg]
    have := o 0 (by simp)
    simpa using this

/-- The reset memory is in canonical form. -/
theorem reset_memory_wf : Memory.wf State.reset.store.mem = true := rfl

end Sys2Proof.Machine
end

