-- ==== Sys2Proof/Laws/Playout.lean ====
section
/-! SUPPORT. What reading a message does to a channel (R113, R120), said once: time is neither lost nor made, the position stays
in the message, and the cursor alone changes. -/

namespace Sys2Proof.Machine

-- As in Sys2Proof/Laws/PerInstr.lean.
set_option Elab.async false

/-- R120: position and left-over time account for all the time a run has had, so ends of messages do not drift (log 4). -/
theorem readOn_conserves (len units : Nat) (q : Cursor) :
    Config.unitsPerByte * (q.readOn len units).pos + (q.readOn len units).frac =
      Config.unitsPerByte * q.pos + q.frac + units := by
  simp only [Cursor.readOn, Config.unitsPerByte]
  omega

/-- R120: the position never passes the byte length. -/
theorem readOn_pos_le (len units : Nat) (q : Cursor) (h : q.pos ≤ len) : (q.readOn len units).pos ≤ len := by
  simp only [Cursor.readOn, Config.unitsPerByte]
  omega

/-- R120: inside a message less than a byte's time is left over. -/
theorem readOn_frac_lt (len units : Nat) (q : Cursor) (h : (q.readOn len units).pos < len) :
    (q.readOn len units).frac < Config.unitsPerByte := by
  simp only [Cursor.readOn, Config.unitsPerByte] at *
  omega

/-- R120: time given in two parts reads what it reads given at once. -/
theorem readOn_add (len a b : Nat) (q : Cursor) : (q.readOn len a).readOn len b = q.readOn len (a + b) := by
  simp only [Cursor.readOn, Config.unitsPerByte, Cursor.mk.injEq, true_and, and_true]
  constructor <;> omega

/-- R113: reading changes the cursor of the channel alone. -/
theorem readFor_frame (s : State) (units : Nat) (r : PlayRec) : { readFor s units r with cur := r.cur } = r := by
  unfold readFor
  split
  · split <;> rfl
  · rfl

/-- R113: a channel whose message is not served does not move. -/
theorem readFor_unserved (s : State) (units : Nat) (r : PlayRec) (i : MsgId) (h : r.message = some i)
    (hs : (s.msg i).content.served? = none) : readFor s units r = r := by
  unfold readFor
  split
  · next j q hj hq =>
    have e : j = i := Option.some.inj (hj.symm.trans h)
    subst e
    rw [hs]
  · rfl

end Sys2Proof.Machine
end

