-- ==== Sys2Proof/Tests/Slice0.lean ====
section
/-! SUPPORT. Tests: ill-formed commands are refused by the check, the spec's own examples, and for every statement with
hypotheses a state and operands that meet them, clause by clause, at the boundary values. -/

open Sys2Proof Sys2Proof.Machine

namespace Sys2Proof.Tests

-- As in Sys2Proof/Laws/PerInstr.lean.
set_option Elab.async false

/-! ### Helpers -/

/-- `Ready`, as a Bool. -/
def ready (i : Instr) (s : State) : Bool :=
  i.wellFormed && !s.sys.held &&
  match commandFields i with
  | some (p, _, _) => decide (admissionFailure (admissionOf i) p (s.port p).lapsed s.sys.part = none)
  | none => false

theorem ready_ok {i : Instr} {s : State} (h : ready i s = true) : Ready i s := by
  unfold ready at h
  unfold Ready
  revert h
  cases commandFields i <;> simp_all

def after (i : Instr) (s : State) : State :=
  match exec i s with
  | .next t => t
  | _ => s

/-- The answer to a ready command: its status; none where the command is not ready. -/
def answer? (i : Instr) (s : State) : Option Status :=
  match commandFields i with
  | some (p, _, _) => if ready i s then some ((after i s).port p).holding.status else none
  | none => none

/-- The answers to several commands, each on the same state. -/
def answers (s : State) (is : List Instr) : List (Option Status) := is.map fun i => answer? i s

/-- The answer's payload. -/
def payload? (i : Instr) (s : State) : List Byte :=
  match commandFields i with
  | some (p, _, _) => ((after i s).port p).holding.payload
  | none => []

/-- SETUP with two segments. -/
def sSetup : State := { State.reset with loop.n := 2 }
/-- RUN with two segments that no survey has seen. -/
def sRun : State := { sSetup with sys.part := .run }
/-- A present segment with an active unit. -/
def upSeg (serial : Word) : SegRec :=
  { SegRec.reset with link := .present, serial := some serial, acquired := true, observed := some ⟨.active, false, .normal, .ok⟩,
                      reach := .both, limit := 8000, eff := 8000 }
/-- RUN with two present segments. -/
def sUp : State := (sRun.modSeg 0 fun _ => upSeg 1).modSeg 1 fun _ => upSeg 2
/-- `sUp` with its port lapsed. -/
def lapsed (p : Port) (s : State) : State := s.modPort p fun q => { q with lapsed := true }
def held (s : State) : State := { s with sys.held := true }

def talkWith (r : TalkRec) (s : State) : State := s.modChan .t1 fun _ => r
/-- T1 with this floor, pending side, hang side and key. -/
def talkRec (f : FloorState) (pend hang : Option TalkSide) (k : KeyState) : TalkRec :=
  { TalkRec.reset with floor := f, pending := pend, hangSide := hang, key := k }

/-- Message 1 is READY with one byte; message 2 is LOADING, 300 bytes, 256 written. -/
def sStore : State :=
  (sRun.modMsg 0 fun r => { r with content := .closed ⟨0, 1, 1, 0, 0⟩ 0 false }).modMsg 1
    fun r => { r with content := .loading ⟨1, 1, 300, 0, 0⟩ 256 }
def oneMessage (kind : PlayKind) (repeats : Bool) : Program := ⟨kind, repeats, [0], if kind = .play then 1 else 0⟩
/-- `sStore` with a program in P1. -/
def sProg (kind : PlayKind) (repeats : Bool) : State :=
  sStore.modPchan .p1 fun r => { r with program := some (oneMessage kind repeats) }
/-- P1 runs its program, for port O. -/
def sPlays (st : PlayState) (kind : PlayKind) (repeats finish : Bool) : State :=
  (sProg kind repeats).modPchan .p1 fun r => { r with state := st, owner := .o, cur := some ⟨0, 0, 0, 0⟩, finish := finish }

/-! ### Ill-formed commands are refused by the check -/

theorem test_fetch_of_four_bytes : (Instr.fetch .o [0, 0, 0, 0]).wellFormed = false := by decide +kernel
theorem test_frame_error_too_short : (Instr.frameError .o [1, 2, 3]).wellFormed = false := by decide +kernel
theorem test_frame_error_with_a_command : (Instr.frameError .o [0x01, 0, 0, 0xff]).wellFormed = false := by decide +kernel
theorem test_empty_chunk : (Instr.writeChunk .o 1 0 []).wellFormed = false := by decide +kernel
theorem test_chunk_of_257 : (Instr.writeChunk .o 1 0 (List.replicate 257 0)).wellFormed = false := by decide +kernel
theorem test_empty_playlist : (Instr.programPlayout .o 1 0 0 1 []).wellFormed = false := by decide +kernel
theorem test_playlist_of_nine : (Instr.programPlayout .o 1 0 0 1 (List.replicate 9 1)).wellFormed = false := by decide +kernel
theorem test_serial_zero : (Instr.unitSupplyApplied 0 0 .normal .ok).wellFormed = false := by decide +kernel
theorem test_well_formed_at_the_limits :
    [Instr.fetch .o [0, 0, 0], .frameError .o [0, 0, 0, 1], .writeChunk .o 1 0 (List.replicate 256 0),
      .programPlayout .o 1 0 0 1 (List.replicate 8 1), .unitSupplyApplied 0 1 .normal .ok].all Instr.wellFormed = true := by
  decide +kernel

/-! ### Examples of the spec -/

/-- Section 12.1: EMPTY, and SET DERATE 70. -/
theorem test_example_frames :
    Response.none.bytes = [0x02, 0x00, 0x00, 0x00, 0xfe] ∧
    readPeriod .o [0x12, 0x00, 0x01, 0x46, 0xa7] = .command (.setDerate .o 70) := by decide +kernel

/-- R53: an excess round that hands out one mW each from the pointer on, and moves it. -/
theorem test_excess_round :
    grantRound 3 ⟨⟨⟨0, 9⟩, ⟨0, 9⟩, ⟨0, 9⟩, ⟨0, 9⟩⟩, ⟨0, 0⟩, ⟨0, 0⟩⟩ .c3 = (⟨1, 0, 1, 1, 0, 0⟩, .c4) := by decide +kernel

/-- R107: first fit. -/
theorem test_first_fit :
    payload? (.openMessage .o 3 4097 0) sStore = [3, 0, 2, 0, 2, 0x03, 0xfc] := by decide +kernel

/-- R64: floors of averages, and one value alone. -/
theorem test_averages : averaged 4 [1280, 1310, 1300, 1290] = some 1295 ∧ averaged 16 [7] = some 7 ∧ averaged 4 [] = none := by
  decide +kernel

/-- R115: what READ CHUNK serves is what WRITE CHUNK stored. -/
theorem test_chunk_read_back :
    payload? (.readChunk .e 2 256 2) (after (.writeChunk .o 2 256 (List.replicate 44 7)) sStore) = [2, 0, 0, 1, 0, 1, 7, 7] := by
  decide +kernel

/-! ### Witnesses: the hypotheses of the statements -/

theorem test_witness_StepTakesFront : ({ sRun with pending := [.surveyRound] } : State).pending = .surveyRound :: [] := rfl

/-- The part at this uptime. -/
def at_ (ms : Word) (s : State) : State := { s with sys.uptime := ms }

/-- Nothing is due, or three rows are; in reset nothing is; one millisecond of a PLAYING, a CHECKING and a HELD channel; a quiet
time that passes. -/
theorem test_witness_IdleStep :
    State.reset.pending = [] ∧ dueRows State.reset = [] ∧ (at_ 100 State.reset).pending = [] ∧
    dueRows (at_ 100 State.reset) = [.surveyRound, .airtimeMark, .fireFilterExpiry] ∧ dueRows (held (at_ 100 sUp)) = [] ∧
    isTimed .surveyRound = true ∧ .surveyRound ∉ dueRows State.reset ∧
    [sPlays .playing .play true false, sPlays .checking .check true false, sPlays .held .play true false].map
        (fun s => ((tick s).pchan .p1).cur) = [some ⟨0, 1, 1875, 0⟩, some ⟨0, 1, 130947, 0⟩, some ⟨0, 0, 0, 0⟩] ∧
    [1, 2].map (fun w => ((tick (sUp.modUnit 0 fun u => { u with quiet := some w })).unit 0).quiet) = [none, some 2] := by
  decide +kernel

/-- The three ways of a bad frame, and the longest good one. -/
theorem test_witness_FrameErrors :
    sRun.sys.held = false ∧
    [[0x12, 0, 1, 0xed], 0x12 :: 1 :: 9 :: List.replicate 266 (0xee : Byte), [0x12, 0, 1, 70, 0xa8],
      0x4a :: 1 :: 8 :: 0xad :: List.replicate 264 (0 : Byte)].map (fun b : List Byte =>
        (decide (4 ≤ b.length), decide (b.length = 4 + ((b.getD 1 0).toNat * 256 + (b.getD 2 0).toNat)),
          decide ((b.getD 1 0).toNat * 256 + (b.getD 2 0).toNat ≤ 264), decide (byteSum b = 0))) =
      [(true, false, true, true), (true, true, false, false), (true, true, true, false), (true, true, true, true)] := by decide +kernel

theorem test_witness_PeriodByItsBytes :
    sRun.sys.held = false ∧ [[], [1, 2, 3]].all (fun b : List Byte => decide (b.length ≤ 3)) = true ∧
    readPeriod .e [0xaa, 0, 0, 0x56] = .unknown 0xaa ∧ readPeriod .e [0x01, 0, 0, 0xff] = .command (.readPartStatus .e) := by
  decide +kernel

theorem test_witness_ResponseFrames : 0 < ([0] : List Byte).length := by decide +kernel

/-- Held; never; lapsed; SETUP only; RUN only. -/
theorem test_witness_PortChecks :
    commandFields (.setLimit .e 1 0) = some (.e, 0x11, [1, 0, 0]) ∧ (Instr.setLimit .e 1 0).wellFormed = true ∧
    (held sRun).sys.held = true ∧ (admissionOf (.setLimit .e 1 0)).port .e = .never ∧
    (admissionOf (.setLimit .o 1 0)).port .o ≠ .never ∧ ((lapsed .o sRun).port .o).lapsed = true ∧
    (admissionOf (.setLimit .o 1 0)).lapsed = false ∧ (admissionOf (.commitSetup .o)).port .o = .setup ∧
    (admissionOf (.key .e 1 0)).port .e = .run ∧ ((admissionOf (.readEvents .o)).lapsed = true) ∧
    (0x11, admissionOf (.setLimit .e 1 0)) ∈ permissionTable := by decide +kernel

theorem test_witness_StatusReads :
    answers sUp [.readPartStatus .c, .readSegment .c 0, .readSegment .c 1, .readSegment .c 2, .readSegment .c 3,
      .readAllocation .e 0, .readAllocation .e 1, .readAllocation .e 2, .readAllocation .e 3] =
    [some .ok, some .badArgument, some .ok, some .ok, some .badArgument,
      some .badArgument, some .ok, some .ok, some .badArgument] := by decide +kernel

theorem test_witness_ChannelAndStoreReads :
    answers sUp [.readTalk .c 0, .readTalk .c 1, .readTalk .c 3, .readTalk .c 4, .readPlayout .c 0, .readPlayout .c 1,
      .readPlayout .c 15, .readPlayout .c 16] =
    [some .badArgument, some .ok, some .ok, some .badArgument, some .badArgument, some .ok, some .ok, some .badArgument] ∧
    answers sUp [.readDirectory .o 0 1, .readDirectory .o 1 0, .readDirectory .o 1 1, .readDirectory .o 49 16,
      .readDirectory .o 64 1, .readDirectory .o 64 2, .readDirectory .o 65 1, .readDirectory .o 1 17] =
    [some .badArgument, some .badArgument, some .ok, some .ok, some .ok, some .badArgument, some .badArgument,
      some .badArgument] := by decide +kernel

theorem test_witness_Accumulators :
    answers sUp [.readAccumulators .c, .resetAccumulators .o 0, .resetAccumulators .o 1, .resetAccumulators .o 63,
      .resetAccumulators .o 64] = [some .ok, some .badArgument, some .ok, some .ok, some .badArgument] := by decide +kernel

theorem test_witness_AlertReads :
    answers sUp [.readAlerts .e 0, .readAlerts .e 1, .readAlerts .e 3, .readAlerts .e 4] =
    [some .badArgument, some .ok, some .ok, some .badArgument] := by decide +kernel

theorem test_witness_EventReads : answers sUp [.readEvents .e] = [some .ok] := by decide +kernel

/-- Identifier and length out of range; EMPTY; past and at the readable extent, of a LOADING and of a closed message. -/
theorem test_witness_ChunkReads :
    answers sStore [.readChunk .o 0 0 1, .readChunk .o 65 0 1, .readChunk .o 1 0 0, .readChunk .o 1 0 257,
      .readChunk .o 3 0 1, .readChunk .o 2 256 1, .readChunk .o 2 0 256, .readChunk .o 1 1 1, .readChunk .o 1 0 1] =
    [some .badArgument, some .badArgument, some .badArgument, some .badArgument, some .notFound, some .badArgument, some .ok,
      some .badArgument, some .ok] := by decide +kernel

def supervised (arm : Bool) (s : State) : State :=
  s.modPort .e fun q => { q with service := some .s1, configured := true, arm := arm, expiry := some 1000 }

theorem test_witness_ServiceCommands :
    answers sRun [.serviceArm .e, .serviceConfirm .e, .configureService .e 0, .configureService .e 1,
      .configureService .e 64, .configureService .e 65] =
    [some .ok, some .ok, some .badArgument, some .ok, some .ok, some .badArgument] ∧
    answers (supervised false sRun) [.serviceArm .e, .serviceConfirm .e, .configureService .e 1] =
      [some .ok, some .noArm, some .alreadySet] ∧
    answers (supervised true sRun) [.serviceConfirm .e] = [some .ok] ∧
    answers (lapsed .e (supervised true sRun)) [.serviceConfirm .e] = [some .ok] := by decide +kernel

theorem test_witness_PortLapses :
    .portLapse .e ∈ dueRows (at_ 1000 (supervised false sRun)) ∧ .portLapse .e ∉ dueRows (at_ 999 (supervised false sRun)) ∧
    ((sPlays .held .play true false).pchan .p1).owner = portOwner .o ∧
    ((sPlays .held .play true false).pchan .p1).program = some (oneMessage .play true) ∧
    (oneMessage .play true).repeats = true ∧ ((sPlays .held .play true false).pchan .p1).state = .held := by decide +kernel

theorem test_witness_SegmentCount :
    answers State.reset [.setSegmentCount .o 0, .setSegmentCount .o 1, .setSegmentCount .o 24, .setSegmentCount .o 25] =
    [some .badArgument, some .ok, some .ok, some .badArgument] := by decide +kernel

theorem test_witness_LimitAndDerate :
    answers sUp [.setLimit .o 0 0, .setLimit .o 1 0, .setLimit .o 2 8000, .setLimit .o 2 8001, .setLimit .o 3 0,
      .setDerate .o 24, .setDerate .o 25, .setDerate .o 100, .setDerate .o 101] =
    [some .badArgument, some .ok, some .ok, some .badArgument, some .badArgument, some .badArgument, some .ok, some .ok,
      some .badArgument] ∧
    (upSeg 1).link = .present ∧ (upSeg 1).commanded = .active ∧ (upSeg 1).observed = some ⟨.active, false, .normal, .ok⟩ := by
  decide +kernel

theorem test_witness_PlainSettings :
    answers sSetup [.setSurveyPeriod .o 49, .setSurveyPeriod .o 50, .setSurveyPeriod .o 1000, .setSurveyPeriod .o 1010,
      .setSurveyPeriod .o 55, .setRampStep .o 49, .setRampStep .o 50, .setRampStep .o 2000, .setRampStep .o 2001] =
    [some .badArgument, some .ok, some .ok, some .badArgument, some .badArgument, some .badArgument, some .ok, some .ok,
      some .badArgument] ∧
    answers sSetup [.setPlayoutPriority .o 0, .setPlayoutPriority .o 1, .setPlayoutPriority .o 2, .setIncidentMessage .o 0,
      .setIncidentMessage .o 1, .setIncidentMessage .o 64, .setIncidentMessage .o 65] =
    [some .ok, some .ok, some .badArgument, some .ok, some .ok, some .ok, some .badArgument] := by decide +kernel

/-- A known claim on segment 1: LIVE_O is ON there. -/
def sClaimed : State := { sUp with brk.liveO := some 1 }

theorem test_witness_UnitModeCommand :
    answers sUp [.setUnitMode .o 0 0, .setUnitMode .o 3 0, .setUnitMode .o 1 3, .setUnitMode .o 1 0, .setUnitMode .o 2 2] =
    [some .badArgument, some .badArgument, some .badArgument, some .ok, some .ok] ∧
    answers sClaimed [.setUnitMode .o 1 2, .setUnitMode .o 2 2] = [some .converted, some .ok] ∧
    -- DORMANT is commanded already, and stays; a mode named again changes nothing.
    (let s := sClaimed.modSeg 0 fun r => { r with commanded := .dormant }
     answers s [.setUnitMode .o 1 2] = [some .converted] ∧ ((after (.setUnitMode .o 1 2) s).seg 0).commanded = .dormant) ∧
    -- A change in segment 1 reconciles segment 2 as well, whose MODE has ended without the mode.
    ((after (.setUnitMode .o 1 1) (sUp.modSeg 1 fun r => { r with commanded := .standby })).unit 1).modeSlot = some .standby ∧
    -- With another target queued and the commanded MODE in flight, the queued one is replaced (log 16).
    (let flying : Directive := ⟨.mode .standby, false, .main, 1, .left, none, some 10, none, false, .noReply⟩
     ((after (.setUnitMode .o 1 1) (sUp.modUnit 0 fun u => { u with modeSlot := some .active, inflight := some flying })).unit
       0).modeSlot = some .standby) ∧
    answers { sUp with loop.level := .incident } [.setUnitMode .o 1 1, .setUnitMode .o 1 0] = [some .incident, some .ok] := by
  decide +kernel

theorem test_witness_AllocationWrites :
    answers sUp [.setFloors .o 0 (.all 0), .setFloors .o 1 (.all 8000), .setFloors .o 4 (.all 0), .setFloors .o 3 (.all 8001),
      .setIncidentFloors .o 3 8000 0, .setIncidentFloors .o 3 0 8001, .setBroadcastRequest .o 3 8000,
      .setBroadcastRequest .o 3 8001, .setRescueRequest .e 3 0 8000, .setRescueRequest .e 3 8001 0] =
    [some .badArgument, some .ok, some .badArgument, some .badArgument, some .ok, some .badArgument, some .ok,
      some .badArgument, some .ok, some .badArgument] ∧
    ((after (.setBroadcastRequest .o 3 8000) (sUp.modUnit 0 fun u => { u with applied := some (.all 0) })).unit 0).levelsSlot =
      .levels := by decide +kernel

theorem test_witness_CarrierCommands :
    answers sUp [.setCarrierCap .o 0, .setCarrierCap .o 100, .setCarrierCap .o 101, .setCarrierRequest .c 0 1 0,
      .setCarrierRequest .c 1 1 8000, .setCarrierRequest .c 4 3 0, .setCarrierRequest .c 5 1 0, .setCarrierRequest .c 1 0 0,
      .setCarrierRequest .c 1 1 8001] =
    [some .ok, some .ok, some .badArgument, some .badArgument, some .ok, some .ok, some .badArgument, some .badArgument,
      some .badArgument] := by decide +kernel

theorem test_witness_MonitorSettings :
    answers sUp [.setAlertMode .c 1 6 0 0, .setAlertMode .c 1 0 2 0, .setAlertMode .c 1 0 0 2, .setAlertMode .c 1 4 1 1,
      .setAlertMode .c 0 0 1 1, .setAlertMode .c 3 3 1 1, .setAlertMode .e 1 4 0 0, .setAlertMode .o 1 5 0 0] =
    [some .badArgument, some .badArgument, some .badArgument, some .notPermitted, some .badArgument, some .ok, some .ok,
      some .ok] ∧
    answers sUp [.setMeterPolicy .o 2 0 0 0, .setMeterPolicy .o 1 50 15 15, .setMeterPolicy .o 64 0 0 0,
      .setMeterPolicy .o 4 51 0 0, .setMeterPolicy .o 4 0 16 0, .setMeterPolicy .o 4 0 0 16] =
    [some .badArgument, some .ok, some .ok, some .badArgument, some .badArgument, some .badArgument] := by decide +kernel

/-- Entry C1 of segment 1, applied at 1000 mW, not suspended, with these metering values. -/
def sMetered (settle count : Nat) (m : Nat) : State :=
  (sUp.modUnit 0 fun u => { u with applied := some (.all 1000) }).modMeter 0 .c1
    fun e => { e with settle := settle, count := count, raw := some m }

/-- Settling; in range and one past the tolerance of 20 % and 5 mW, each side; a count that persists and one that does not. -/
theorem test_witness_LevelComparisons :
    (sMetered 1 0 1000).unit 0 = { UnitRec.reset with applied := some (.all 1000) } ∧
    [(1, 0, 1000), (0, 0, 1205), (0, 0, 1206), (0, 0, 800), (0, 0, 799), (0, 4, 1206)].map (fun (settle, count, m) =>
      let t := compareEntry 0 (sMetered settle count m) .c1
      let x := (t.meters 0).get .c1
      (x.settle, x.isOver, x.isUnder, x.count, ((t.aseg 0).c.get .c1).suspended)) =
    [(0, false, false, 0, false), (0, false, false, 0, false), (0, true, false, 1, false), (0, false, false, 0, false),
      (0, false, true, 0, false), (0, true, false, 0, true)] := by decide +kernel

def sFire (f : FireLevel) (raw : Bool) (sense : FireSense) (arm : Bool) : State :=
  { sSetup with inc := { sSetup.inc with filtered := f, raw := raw, sense := sense, arm := arm } }

/-- Settling both ways, LEVEL and EDGE both ways, and SET FIRE SENSE. -/
theorem test_witness_FireLine :
    [sFire .unsettled true .level false, sFire .unsettled false .level false, sFire .deasserted true .level false,
      sFire .asserted false .level false, sFire .deasserted true .edge true, sFire .deasserted true .edge false,
      sFire .asserted false .edge false].map (fun s =>
        (decide (.fireFilterExpiry ∈ dueRows (at_ 50 s)), (after .fireFilterExpiry (at_ 50 s)).inc.claims.line,
          (after .fireFilterExpiry (at_ 50 s)).inc.arm)) =
    [(true, true, false), (true, false, true), (true, true, false), (true, false, false), (true, true, false),
      (true, false, false), (true, false, true)] ∧
    answers (sFire .asserted true .level false) [.setFireSense .o 0, .setFireSense .o 1, .setFireSense .o 2] =
      [some .ok, some .ok, some .badArgument] := by decide +kernel

def sClaims (c : Claims) : State := { sUp with inc := { sUp.inc with claims := c, level := .incident } }

theorem test_witness_ClaimCommands :
    answers sUp [.declareIncident .o, .declareIncident .e, .clearIncident .o 3, .clearIncident .e 0, .clearIncident .o 1,
      .clearIncident .o 0, .clearIncident .e 1, .clearIncident .o 2] =
    [some .ok, some .ok, some .badArgument, some .notPermitted, some .notPermitted, some .ok, some .ok, some .ok] ∧
    answers { sClaims ⟨false, false, true⟩ with inc.filtered := .asserted } [.clearIncident .o 2] = [some .lineActive] ∧
    answers (sClaims ⟨true, true, false⟩) [.declareIncident .o, .clearIncident .e 1] = [some .ok, some .ok] := by decide +kernel

/-- An onset with and without a READY incident message, and a return with P1 held. -/
theorem test_witness_OnsetAndReturn :
    ready (.declareIncident .o) { sStore with inc.message := some 0 } = true ∧
    sStore.inc.claims = ⟨false, false, false⟩ ∧ sStore.inc.level = .normal ∧ (sStore.msg 0).content.ready = true ∧
    (sStore.msg 1).content.ready = false ∧ ready (.clearIncident .o 0) (sClaims ⟨true, false, false⟩) = true ∧
    (0 : Byte) = claimCode .ops ∧ mayClear .o .ops = true ∧ (sClaims ⟨true, false, false⟩).inc.level = .incident ∧
    (sClaims ⟨true, false, false⟩).inc.claims = (⟨false, false, false⟩ : Claims).set .ops true ∧
    (after (.declareIncident .o) { sStore with inc.message := some 0 }).play.p1Held = true := by decide +kernel

theorem test_witness_CommitCommand :
    answers State.reset [.commitSetup .o] = [some .badArgument] ∧
    answers { sUp with sys.part := .setup } [.commitSetup .o] = [some .ok] ∧ sUp.loop.n ≠ 0 ∧ (sUp.seg 0).link = .present ∧
    ¬ ((2 : SegId).val < sUp.loop.n ∧ (sUp.seg 2).link = .present) := by decide +kernel

theorem test_witness_Resets :
    ready (.resetPart .o) sRun = true ∧ ¬ (sRun.sys.held = true ∧ sRun.sys.cause = .powerOn) ∧
    (held State.reset).sys.held = true ∧ (held State.reset).sys.cause = .powerOn := by decide +kernel

theorem test_witness_TalkSettings :
    answers sUp [.setTalkTimers .e 5100 10 0, .setTalkTimers .e 150 10 0, .setTalkTimers .e 0 9 0, .setTalkTimers .e 0 601 0,
      .setTalkTimers .e 0 10 601, .setTalkTimers .e 5000 600 600, .setCoverage .e 0 1, .setCoverage .e 3 1,
      .setCoverage .e 1 0, .setCoverage .e 1 3, .setCoverage .e 2 4] =
    [some .badArgument, some .badArgument, some .badArgument, some .badArgument, some .badArgument, some .ok, some .badArgument,
      some .badArgument, some .badArgument, some .ok, some .badArgument] ∧
    limitInForce sUp.talk ≠ limitInForce { sUp.talk with totS := 10 } ∧ (sUp.chan .t1).totStart = none ∧
    totDue { sUp with talk.totS := 10 } .t1 = false ∧ totDue { sUp with talk.totS := 10 } .t2 = false := by decide +kernel

/-- Every clause of R90 and R91, on T1: the reply's floor, pending side and key. -/
theorem test_witness_KeyCommand :
    answers sUp [.key .e 0 0, .key .e 3 0, .key .e 1 2, .key .e 1 0, .key .e 2 1] =
      [some .badArgument, some .badArgument, some .badArgument, some .ok, some .ok] ∧
    answers (talkWith (talkRec .idle none none .stuck) sUp) [.key .e 1 0] = [some .timedOut] ∧
    [talkRec .idle none none .unkeyed, talkRec .inbound none none .unkeyed, talkRec .outbound none none .keyed,
      talkRec .hang none (some .outbound) .unkeyed, talkRec .hang none (some .inbound) .unkeyed].map
        (fun r => payload? (.key .e 1 0) (talkWith r sUp)) =
      [[2, 0, 1], [1, 2, 1], [2, 0, 1], [2, 0, 1], [3, 2, 1]] ∧
    [talkRec .inbound none none .unkeyed, talkRec .outbound (some .inbound) none .keyed, talkRec .outbound none none .keyed,
      talkRec .idle none none .unkeyed, talkRec .hang (some .inbound) (some .outbound) .unkeyed].map
        (fun r => payload? (.key .e 1 1) (talkWith r sUp)) =
      [[2, 0, 1], [2, 0, 1], [2, 0, 1], [2, 0, 1], [2, 0, 1]] := by decide +kernel

theorem test_witness_UnkeyCommand :
    answers sUp [.unkey .e 0, .unkey .e 3] = [some .badArgument, some .badArgument] ∧
    [talkRec .outbound none none .keyed, talkRec .inbound (some .outbound) none .keyed, talkRec .idle none none .stuck,
      talkRec .idle none none .unkeyed].map (fun r => payload? (.unkey .e 1) (talkWith r sUp)) =
      [[3, 0, 0], [1, 0, 0], [0, 0, 0], [0, 0, 0]] := by decide +kernel

/-- A notice of the unit of segment 1: T1's carrier up at quality 3. -/
def notice : List Byte := encodeNotice ⟨1, 5, .t1, ⟨true, 3⟩⟩

theorem test_witness_NoticeTaken :
    sUp.sys.held = false ∧ decodeNotice [0] = none ∧ decodeNotice notice = some ⟨1, 5, .t1, ⟨true, 3⟩⟩ ∧
    noticeSegment sUp 1 = some 0 ∧ noticeSegment sUp 9 = none ∧ sUp.talk.seq[(0 : SegId)] ≠ some 5 ∧
    (after (.uplinkNotice .left notice) sUp).talk.seq[(0 : SegId)] = some 5 ∧
    ((after (.uplinkNotice .left notice) sUp).chan .t1).voted = some 0 ∧
    revote (after (.uplinkNotice .left notice) sUp) .t1 = some 0 := by decide +kernel

/-- The channel with both its timers started at the reset. -/
def timed (r : TalkRec) : TalkRec := { r with totStart := some 0, hangExpiry := some 2000 }

/-- Hang and TOT expiry on each floor, due and not; a mark of 100 ms. -/
theorem test_witness_TalkTimersRun :
    [talkRec .hang (some .outbound) (some .inbound) .keyed, talkRec .hang (some .inbound) (some .outbound) .unkeyed,
      talkRec .hang none (some .inbound) .unkeyed].map (fun r =>
        (decide (.hangExpiry .t1 ∈ dueRows (at_ 2000 (talkWith (timed r) sUp))),
          ((after (.hangExpiry .t1) (at_ 2000 (talkWith (timed r) sUp))).chan .t1).floor)) =
      [(true, .outbound), (true, .inbound), (true, .idle)] ∧
    [talkRec .inbound (some .outbound) none .keyed, talkRec .inbound none none .unkeyed, talkRec .outbound none none .keyed].map
        (fun r => (decide (.totExpiry .t1 ∈ dueRows (at_ 120000 (talkWith (timed r) sUp))),
          ((after (.totExpiry .t1) (at_ 120000 (talkWith (timed r) sUp))).chan .t1).floor)) =
      [(true, .outbound), (true, .hang), (true, .hang)] ∧
    (after (.totExpiry .t1) (at_ 119999 (talkWith (timed (talkRec .outbound none none .keyed)) sUp))).chan .t1 =
      timed (talkRec .outbound none none .keyed) ∧
    .airtimeMark ∈ dueRows (at_ 100 sUp) ∧ .airtimeMark ∉ dueRows (at_ 101 sUp) := by decide +kernel

theorem test_witness_BreakInCommands :
    answers sUp [.startBreakIn .o 0 0, .startBreakIn .o 4 0, .startBreakIn .o 3 1, .startBreakIn .e 1 0, .startBreakIn .e 1 4,
      .startBreakIn .o 3 0, .startBreakIn .e 1 1, .startBreakIn .e 3 3, .stopBreakIn .o, .stopBreakIn .e] =
    [some .badArgument, some .badArgument, some .badArgument, some .badArgument, some .badArgument, some .ok, some .ok,
      some .ok, some .ok, some .ok] ∧ ownersNow sUp = sUp.brk.owners := by decide +kernel

theorem test_witness_OpenCommand :
    answers sStore [.openMessage .o 0 1 0, .openMessage .o 65 1 0, .openMessage .o 3 0 0, .openMessage .o 3 1048577 0,
      .openMessage .o 3 1 16, .openMessage .o 1 1 0, .openMessage .o 3 1048576 15, .openMessage .o 64 1 0] =
    [some .badArgument, some .badArgument, some .badArgument, some .badArgument, some .badArgument, some .exists_, some .ok,
      some .ok] ∧
    answers (sRun.modMsg 0 fun r => { r with content := .closed ⟨0, 1024, 4194304, 0, 0⟩ 0 false }) [.openMessage .o 3 1 0] =
      [some .noSpace] := by decide +kernel

theorem test_witness_ChunkWrites :
    answers sStore [.writeChunk .o 0 0 [0], .writeChunk .o 65 0 [0], .writeChunk .o 3 0 [0], .writeChunk .o 1 0 [0],
      .writeChunk .o 2 0 [0], .writeChunk .o 2 256 (List.replicate 45 0), .writeChunk .o 2 256 (List.replicate 43 0),
      .writeChunk .o 2 256 (List.replicate 44 9)] =
    [some .badArgument, some .badArgument, some .notFound, some .badSequence, some .badSequence, some .badArgument,
      some .badArgument, some .ok] ∧ Memory.wf sStore.store.mem = true := by decide +kernel

def sFull (computed : Half) (uses : Nat) : State :=
  sRun.modMsg 1 fun _ => ⟨.loading ⟨1, 1, 300, 0, computed⟩ 300, uses⟩

theorem test_witness_CloseAndDelete :
    answers sStore [.closeMessage .o 0 0, .closeMessage .o 65 0, .closeMessage .o 3 0, .closeMessage .o 1 0,
      .closeMessage .o 2 0, .deleteMessage .o 0, .deleteMessage .o 65, .deleteMessage .o 3, .deleteMessage .o 1] =
    [some .badArgument, some .badArgument, some .notFound, some .badSequence, some .incomplete, some .badArgument,
      some .badArgument, some .notFound, some .ok] ∧
    payload? (.closeMessage .o 2 7) (sFull 7 0) = [2, 0, 7, 0, 7] ∧
    payload? (.closeMessage .o 2 8) (sFull 7 0) = [3, 0, 7, 0, 8] ∧
    answers (sFull 7 1) [.deleteMessage .o 2] = [some .inUse] := by decide +kernel

theorem test_witness_ProgramCommand :
    answers sStore [.programPlayout .o 0 0 0 1 [1], .programPlayout .o 5 0 0 1 [1], .programPlayout .o 1 2 0 1 [1],
      .programPlayout .o 1 0 2 1 [1], .programPlayout .o 1 0 0 1 [65], .programPlayout .o 1 0 0 0 [1],
      .programPlayout .o 1 1 0 1 [1], .programPlayout .o 4 0 1 3 [1, 64], .programPlayout .e 1 1 0 0 [1]] =
    [some .badArgument, some .badArgument, some .badArgument, some .badArgument, some .badArgument, some .badArgument,
      some .badArgument, some .ok, some .ok] ∧
    answers { sStore with play.p1Held := true } [.programPlayout .o 1 0 0 1 [1]] = [some .inUse] ∧
    answers (sPlays .held .play true false) [.programPlayout .o 1 0 0 1 [1]] = [some .busy] := by decide +kernel

theorem test_witness_StartAndStop :
    answers sStore [.startPlayout .o 0, .startPlayout .o 5, .startPlayout .o 1, .stopPlayout .o 0, .stopPlayout .o 1,
      .stopPlayout .e 1] =
      [some .badArgument, some .badArgument, some .notReady, some .badArgument, some .ok, some .notPermitted] ∧
    [sProg .play false, sProg .check false].map (fun s => (answer? (.startPlayout .o 1) s,
        ((after (.startPlayout .o 1) s).pchan .p1).state)) = [(some .ok, .held), (some .ok, .checking)] ∧
    answers (sPlays .held .play true false) [.startPlayout .o 1, .stopPlayout .o 1] = [some .busy, some .ok] ∧
    answers { sStore with play.p1Held := true } [.startPlayout .o 1] = [some .inUse] ∧
    answers (sStore.modPchan .p2 fun r => { r with program := some ⟨.play, true, [0, 1], 1⟩ }) [.startPlayout .o 2] =
      [some .notReady] := by decide +kernel

/-- P1 has read its message of one byte, with time for 15 more. -/
def sReads (st : PlayState) (kind : PlayKind) (repeats finish : Bool) : State :=
  (sPlays st kind repeats finish).modPchan .p1 fun r => { r with cur := some ⟨0, 1, 1875, 0⟩ }

/-- A last message of a program that repeats, that does not, and of one that is to finish; and of a CHECK program. The message that
follows has had the time beyond the end. -/
theorem test_witness_MessageEnds :
    ((sReads .playing .play true false).pchan .p1).program = some (oneMessage .play true) ∧
    .messageEnd .p1 ∈ dueRows (sReads .playing .play true false) ∧
    .messageEnd .p1 ∉ dueRows (sPlays .playing .play true false) ∧
    .checkMessageEnd .p1 ∈ dueRows (sReads .checking .check true false) ∧ 0 < (oneMessage .play true).playlist.length ∧
    [sReads .playing .play true false, sReads .playing .play false false, sReads .playing .play true true].map
        (fun s => (((after (.messageEnd .p1) s).pchan .p1).state, ((after (.messageEnd .p1) s).pchan .p1).cur)) =
      [(.playing, some ⟨0, 1, 1750, 0⟩), (.idle, none), (.idle, none)] ∧
    [sReads .checking .check true false, sReads .checking .check false false].map
        (fun s => ((after (.checkMessageEnd .p1) s).pchan .p1).state) = [.checking, .idle] ∧
    (sStore.msg 0).content = .closed ⟨0, 1, 1, 0, 0⟩ 0 false := by decide +kernel

def surveyed (l r : SurveyState) : State := { sUp with loop.surveys := ⟨l, r⟩ }
def surveyBack (d : Side) : List Byte := encodeSurvey ⟨d, false, 0, []⟩

theorem test_witness_SurveyRounds :
    sUp.sys.held = false ∧ portLinkUp sUp.plant .left = true ∧ .surveyRound ∈ dueRows (at_ 100 sUp) ∧
    .surveyTimeout .left ∈ dueRows (at_ 40 (surveyed (.inFlight 0) .none)) ∧
    .surveyTimeout .left ∉ dueRows (at_ 39 (surveyed (.inFlight 0) .none)) ∧
    (let cut := { sUp with plant.links := Vector.replicate 25 false }
     portLinkUp cut.plant .left = false ∧ portLinkUp cut.plant .right = false) ∧
    decodeSurvey [] = none ∧ decodeSurvey (surveyBack .left) = some ⟨.left, false, 0, []⟩ ∧ sUp.loop.round = 0 ∧
    (surveyed (.inFlight 0) .none).loop.surveys.side .left = .inFlight 0 ∧
    (surveyed (.inFlight 0) (.ended .notSent)).loop.surveys.side .right = .ended .notSent ∧
    ((sUp.loop.surveys.side .left).inFlight? = false) := by decide +kernel

def entry (serial : Word) : SurveyEntry := ⟨serial, .active, false, some .normal, .ok, ⟨none, none⟩, none⟩

/-- What an evaluation tells apart: an acquired unit, another unit, a lost one, one gone DORMANT. -/
theorem test_witness_Evaluated :
    [some (entry 1), some (entry 9), none].map (fun e => (acquires sUp 0 e, loses sUp 0 e, zeroes sUp 0 e)) =
      [(false, false, false), (true, true, false), (false, false, false)] ∧
    zeroes sUp 0 (some { entry 1 with mode := .dormant }) = true ∧
    loses (sUp.modSeg 0 fun r => { r with link := .missing, miss := 2 }) 0 none = true := by decide +kernel

/-- Segment 1 of a whole loop: compared, probed where it is marked, and its paused directive resumed at its return. -/
theorem test_witness_Evaluated_units :
    (let loud : SurveyEntry := { entry 1 with measured := some (.all 1206) }
     let t := evaluate (.crossed [loud, entry 2]) .timedOut (sMetered 0 0 0)
     ((t.meters 0).get .c1).isOver = true ∧ ((t.meters 0).get .c1).raw = some 1206 ∧ (t.unit 0).levelsSlot = .levels) ∧
    (let t := evaluate (.crossed [entry 1, entry 2]) .timedOut (sUp.modUnit 0 fun u => { u with marked := true })
     (t.unit 0).inflight.map (·.content) = some .probe ∧ t.wire.length = 1) ∧
    (let d : Directive := ⟨.mode .standby, false, .main, 1, .left, some 2, none, none, false, .noReply⟩
     let s := (sUp.modUnit 0 fun u => { u with inflight := some d }).modSeg 0 fun r => { r with link := .missing, miss := 1 }
     let t := evaluate (.crossed [entry 1, entry 2]) .timedOut s
     (t.unit 0).inflight.map (fun d => (d.attempt, d.paused)) = some (2, none) ∧ t.wire.length = 1) := by decide +kernel

/-- A crossed survey from either port, and a fold. -/
theorem test_witness_Sightings :
    (sighting 2 (.crossed [entry 1, entry 2]) .timedOut).fold = .whole ∧
    (sighting 2 .timedOut (.crossed [entry 2, entry 1])).seen 0 = some (entry 1) ∧
    (sighting 2 (.returned [entry 1]) .timedOut).fold = .folded 1 3 ∧
    (sighting 2 (.returned [entry 1]) .timedOut).seen 1 = none ∧
    (sighting 1 (.returned [entry 1, entry 2]) .timedOut).mismatch = true := by decide +kernel

/-- Segment 1 with these requests waiting and this applied level. -/
def asked (l : LevelsSlot) (m : Option TargetMode) (applied : Option (Six Nat)) : State :=
  sUp.modUnit 0 fun u => { u with levelsSlot := l, modeSlot := m, applied := applied }
def asleep (s : State) : State := s.modSeg 0 fun r => { r with observed := some ⟨.dormant, false, .normal, .ok⟩ }

/-- A zero reset, a mode and a level change, to a unit awake and asleep: one frame goes out, or none. -/
theorem test_witness_DirectiveIssued :
    sUp.sys.held = false ∧ sUp.sys.part = .run ∧ (sUp.seg 0).link = .present ∧ (sUp.unit 0).inflight = none ∧
    quietPassed sUp.sys.uptime (sUp.unit 0) = true ∧ modeHeldBack ((asked .empty (some .active) none).seg 0) = false ∧
    [asked .zeroReset none none, asleep (asked .zeroReset none none), asked .empty (some .standby) (some (.all 0)),
      asleep (asked .empty (some .active) none), asked .levels none (some (.all 0)), asked .levels none (some (.all 9))].map
        (fun s => ((after (.directiveIssue 0) s).wire.length,
          ((after (.directiveIssue 0) s).unit 0).inflight.map (·.step))) =
      [(1, some .main), (0, none), (1, some .main), (1, some .rouseWait), (0, none), (1, some .main)] := by decide +kernel

def inflight (c : Content) (st : DStep) (attempt : Nat) : Directive :=
  ⟨c, false, st, attempt, .left, none, some 10, none, false, .noReply⟩
def sFlight (d : Directive) : State := sUp.modUnit 0 fun u => { u with inflight := some d }
def reply (o : ReplyOutcome) : List Byte := encodeReply ⟨1, o⟩

/-- Each outcome against each kind of directive: what is still in flight, and the applied levels. -/
theorem test_witness_RepliesTaken :
    decodeReply [] = none ∧ decodeReply (reply .asleep) = some ⟨1, .asleep⟩ ∧
    replySegment (sFlight (inflight .probe .main 1)) 1 = some 0 ∧ replySegment sUp 9 = none ∧
    [(Content.levels (.all 5), DStep.main, ReplyOutcome.ack .active), (.levels (.all 5), .main, .ack .overheat),
      (.zeroReset, .main, .ack .active), (.probe, .main, .ack .active), (.mode .active, .main, .ack .active),
      (.mode .standby, .main, .ack .standby), (.zeroReset, .main, .wrongUnit), (.zeroReset, .main, .rating),
      (.zeroReset, .rouse2, .supplyLow), (.zeroReset, .main, .supplyLow), (.probe, .main, .rating),
      (.mode .active, .rouseWait, .rating), (.mode .active, .rouse2, .rating), (.zeroReset, .main, .asleep), (.probe, .main, .asleep), (.levels (.all 5), .main, .asleep),
      (.zeroReset, .rouseWait, .ack .standby), (.zeroReset, .rouse2, .ack .standby)].map (fun (c, st, o) =>
        let u := (after (.directiveReply .left (reply o)) (sFlight (inflight c st 1))).unit 0
        (u.inflight.map (·.step), u.applied.map (·.total))) =
      [(none, some 30), (none, some 0), (none, some 0), (none, some 0), (none, none), (none, some 0), (none, none), (none, none),
        (none, none), (some .main, none), (some .main, none), (some .rouseWait, none), (none, none), (none, some 0), (none, some 0),
        (some .rouseWait, some 0), (some .rouseWait, none), (some .main, none)] := by
  decide +kernel

/-- ASLEEP to a rouse sequence: its attempts 1, 2 and 3, and attempt 1 of a MISSING segment; the same for a late reply in the window of
ROUSE 2. -/
theorem test_witness_RepliesTaken_asleep :
    [DStep.main, .rouse2].flatMap (fun st =>
    [(1, LinkState.present), (2, .present), (3, .present), (1, .missing)].map fun (n, l) =>
      let s := (sFlight { inflight (.mode .active) st n with rouse := true }).modSeg 0 fun r => { r with link := l }
      let t := after (.directiveReply .left (reply .asleep)) s
      ((t.unit 0).inflight.map fun d => (d.attempt, d.paused), t.wire.length, t.ports.o.queue.length)) =
    [(some (2, none), 1, 0), (some (3, none), 1, 0), (none, 0, 1), (some (1, some 2), 0, 0),
      (some (2, none), 1, 0), (some (3, none), 1, 0), (none, 0, 1), (some (1, some 2), 0, 0)] := by decide +kernel

/-- The rouse sequence in flight to segment 1 (step, attempt, pause), and how many frames stand on the loop. -/
def rouseOf (s : State) : Option (DStep × Nat × Option Nat) × Nat :=
  (((s.unit 0).inflight.filter (·.rouse)).map fun d => (d.step, d.attempt, d.paused), s.wire.length)
/-- An ASLEEP to attempt 3 of a MODE ACTIVE, which converts it. -/
def converted (l : LinkState) : State :=
  after (.directiveReply .left (reply .asleep))
    ((sFlight (inflight (.mode .active) .main 3)).modSeg 0 fun r => { r with link := l })

/-- R32, R29: the attempt number returns to 1 at a conversion, also where the segment is not PRESENT and the directive waits; there a
late reply other than WRONG_UNIT changes nothing (log 47), and the return of the unit sends ROUSE 1. -/
theorem test_witness_RepliesTaken_converted :
    [converted .present, converted .missing, after (.directiveReply .left (reply .wrongUnit)) (converted .missing),
      evaluate (.crossed [entry 1, entry 2]) .timedOut (converted .missing)].map rouseOf =
    [(some (.rouseWait, 1, none), 1), (some (.rouse1, 1, some 1), 0), (none, 0), (some (.rouseWait, 1, none), 1)] ∧
    ([ReplyOutcome.ack .active, .asleep, .rating, .supplyLow].all fun o =>
      after (.directiveReply .left (reply o)) (converted .missing) = converted .missing) = true := by decide +kernel

/-- R28: the unit of a MISSING segment is sent no step: neither at the end of a rouse wait, nor at the ACK of ROUSE 2. An attempt 3
that had begun goes on to its own side when the unit is back. -/
theorem test_missing_is_sent_nothing :
    (let missing (d : Directive) : State := (sFlight d).modSeg 0 fun r => { r with link := .missing, miss := 1 }
     let wait : Directive := { inflight (.mode .active) .rouseWait 3 with rouse := true, window := none, waitUntil := some 10 }
     let t := after (.rouseWaitExpiry 0) (at_ 10 (missing wait))
     let u := after (.directiveReply .left (reply (.ack .standby))) (missing { wait with step := .rouse2, window := some 10 })
     decide (.rouseWaitExpiry 0 ∈ dueRows (at_ 10 (missing wait))) = true ∧
     [t, u].map (fun s => ((s.unit 0).inflight.map fun d => (d.attempt, d.paused), s.wire.length)) =
       [(some (3, some 3), 0), (some (3, some 3), 0)] ∧
     ((evaluate (.crossed [entry 1, entry 2]) .timedOut t).unit 0).inflight.map (fun d => (d.attempt, d.side, d.step)) =
       some (3, .left, .rouseWait)) := by decide +kernel

/-- R31, R25: after a NAK WRONG_UNIT neither new grants nor a new mode queue anything; another segment is reconciled as ever, and one
that is MISSING with acquired no takes its LEVELS. -/
theorem test_nothing_queued_after_wrong_unit :
    (let s := after (.directiveReply .left (reply .wrongUnit)) (sFlight (inflight .zeroReset .main 1))
     let known := s.modUnit 0 fun u => { u with applied := some (.all 0) }
     let t := after (.setBroadcastRequest .o 3 100) known
     let m := after (.setUnitMode .o 1 1) known
     let gone := known.modSeg 0 fun r => { r with link := .missing, miss := 1 }
     (s.seg 0).acquired = false ∧ (t.aseg 0).bc.grant = 100 ∧ (t.unit 0).levelsSlot = .empty ∧ (m.seg 0).commanded = .standby ∧
     ((after (.setBroadcastRequest .o 3 100) gone).unit 0).levelsSlot = .levels ∧
     (m.unit 0).modeSlot = none ∧ ((after (.setUnitMode .o 2 1) known).unit 1).modeSlot = some .standby) := by decide +kernel

/-- R37, R25: at a loss the slots are emptied, and the grants that fall to 0 then queue a LEVELS for the known applied levels; where
they are unknown, none. -/
theorem test_levels_queued_at_loss :
    [some (Six.all 5), none].map (fun applied =>
      let s := (sUp.modUnit 0 fun u => { u with applied := applied, levelsSlot := .zeroReset, modeSlot := some .active }).modSeg 0
        fun r => { r with link := .missing, miss := 2 }
      let t := evaluate .timedOut .timedOut s
      ((t.seg 0).link, (t.unit 0).levelsSlot, (t.unit 0).modeSlot)) =
    [(.lost, .levels, none), (.lost, .empty, none)] := by decide +kernel

/-- Attempts 1 to 3 of a segment reached from both sides, from one side, and out of reach; a probe; the two rouse waits. -/
theorem test_witness_TimeoutsAndWaits :
    [(inflight .zeroReset .main 1, Reach.both, LinkState.present), (inflight .zeroReset .main 2, .both, .present),
      (inflight .zeroReset .main 2, .left, .present), (inflight .zeroReset .main 3, .both, .present),
      (inflight .zeroReset .main 1, .none, .missing), (inflight .probe .main 1, .both, .present)].map (fun (d, r, l) =>
        let s := at_ 10 ((sFlight d).modSeg 0 fun x => { x with reach := r, link := l })
        let u := (after (.replyTimeout 0) s).unit 0
        (decide (.replyTimeout 0 ∈ dueRows s), u.inflight.map (·.attempt), u.inflight.map (·.paused), u.marked)) =
      [(true, some 2, some none, false), (true, some 3, some none, false), (true, none, none, true), (true, none, none, true),
        (true, some 1, some (some 2), false), (true, none, none, false)] ∧
    [false, true].map (fun awake =>
        let s := at_ 10 (sFlight { inflight .zeroReset .rouseWait 1 with awake := awake, window := none, waitUntil := some 10 })
        (decide (.rouseWaitExpiry 0 ∈ dueRows s), ((after (.rouseWaitExpiry 0) s).unit 0).inflight.map (·.step))) =
      [(true, some .rouse2), (true, some .main)] := by decide +kernel

def unitOf (m : UnitMode) (temp : TempClass) : LineUnit :=
  ⟨1, m, temp, .ok, false, .all 5, 0, none, ⟨some 3, none⟩⟩
def sUnit (u : LineUnit) : State := { sUp with plant := { sUp.plant with units := vupd sUp.plant.units 0 fun _ => some u, clock := 60 } }

theorem test_witness_UnitChanges :
    sUp.lineUnit 0 = none ∧ (sUnit (unitOf .active .normal)).lineUnit 0 = some (unitOf .active .normal) ∧
    sUp.downlink 0 = .off ∧ [UnitMode.active, .standby, .dormant, .overheat].map (fun m =>
      (sUnit (unitOf m .normal)).downlink 0) = [.transmits (.all 5), .muted, .off, .off] ∧
    [(UnitMode.active, TempClass.normal, TempClass.hot), (.dormant, .normal, .hot), (.active, .normal, .warm),
      (.overheat, .hot, .warm)].map (fun (m, x, y) =>
        ((after (.unitTemperatureChange 0 y) (sUnit (unitOf m x))).lineUnit 0).map (·.mode)) =
      [some .overheat, some .dormant, some .active, some .standby] ∧
    [Supply.ok, .low].map (fun x => ((after (.unitSupplyChange 0 x) (sUnit (unitOf .active .normal))).lineUnit 0).map (·.mode)) =
      [some .active, some .dormant] ∧
    [((true : Bool), (0 : BitVec 4)), (false, 4), (false, 5)].map (fun (c, q) =>
      (after (.unitUplinkChange 0 .t1 c q) (sUnit (unitOf .active .normal))).wire.length) = [2, 0, 2] := by decide +kernel

def directive (serial : Word) (b : DirectiveBody) : List Byte := encodeDirective ⟨1, serial, b⟩
def roused (m : UnitMode) (at_ : Option Nat) (supply : Supply) : LineUnit :=
  { unitOf m .normal with rouse := at_, supply := supply }

/-- Every answer of a unit to a directive, with the ends of the rouse window; a frame for another position; survey passes. -/
theorem test_witness_UnitFrames :
    decodeSurvey (surveyBack .left) = some ⟨.left, false, 0, []⟩ ∧
    (decodeDirective (encodeDirective ⟨2, 1, .rouse⟩)).map (·.hops) = some 2 ∧
    [(roused .active none .ok, directive 9 .rouse), (roused .dormant none .ok, directive 1 (.mode .active)),
      (roused .active none .ok, directive 1 (.levels ⟨8001, 0, 0, 0, 0, 0⟩)),
      (roused .active none .ok, directive 1 (.levels ⟨8000, 0, 0, 0, 0, 0⟩)), (roused .standby none .ok, directive 1 (.mode .active)),
      (roused .active none .ok, directive 1 .rouse), (roused .dormant (some 10) .low, directive 1 .rouse),
      (roused .dormant (some 55) .ok, directive 1 .rouse)].map (fun (u, f) =>
        ((after (.unitDirectiveTaken 0 .left f) (sUnit u)).wire.map (·.bytes)).getLast?) =
      [some (encodeReply ⟨9, .wrongUnit⟩), some (encodeReply ⟨1, .asleep⟩), some (encodeReply ⟨1, .rating⟩),
        some (encodeReply ⟨1, .ack .active⟩), some (encodeReply ⟨1, .ack .active⟩), some (encodeReply ⟨1, .ack .active⟩),
        some (encodeReply ⟨1, .supplyLow⟩), some (encodeReply ⟨1, .ack .standby⟩)] ∧
    [none, some 9, some 56].map (fun t => ((after (.unitDirectiveTaken 0 .left (directive 1 .rouse))
        (sUnit (roused .dormant t .ok))).lineUnit 0).map (·.rouse)) = [some (some 60), some (some 60), some (some 60)] ∧
    (after (.unitSurveyPass 0 (surveyBack .left) (.all 0)) (sUnit (roused .active none .ok))).wire.length = 1 := by decide +kernel

/-- R6, R1: a MODE STANDBY takes an ACTIVE unit to STANDBY with its levels zero; a unit in STANDBY keeps them (log 46). -/
theorem test_mode_standby_levels :
    [UnitMode.active, .standby].map (fun m =>
      ((after (.unitDirectiveTaken 0 .left (directive 1 (.mode .standby))) (sUnit (unitOf m .normal))).lineUnit 0).map fun u =>
        (u.mode, u.levels)) = [some (.standby, .all 0), some (.standby, .all 5)] := by decide +kernel

/-- Room for every request; room for the floors alone; none. -/
theorem test_witness_GrantRounds :
    (let w : Wants := ⟨.all ⟨10, 20⟩, ⟨5, 5⟩, ⟨5, 5⟩⟩
     w.rs.f ≤ w.rs.r ∧ w.bc.f ≤ w.bc.r ∧ (grantRound 90 w .c1).1 = ⟨20, 20, 20, 20, 5, 5⟩ ∧
      (grantRound 50 w .c1).1 = ⟨10, 10, 10, 10, 5, 5⟩ ∧ (grantRound 0 w .c1).1 = .all 0 ∧
      grantRound 53 w .c2 = (⟨10, 11, 11, 11, 5, 5⟩, .c3)) ∧
    wantsOf { sUp.alloc with level := .incident } 8000 { AllocSeg.reset with c := .all ⟨5000, 6000, false, 0⟩ } =
      ⟨.all ⟨4000, 4000⟩, ⟨0, 0⟩, ⟨0, 0⟩⟩ := by decide +kernel

theorem test_witness_CommandFramesReadBack :
    commandFields (.setDerate .o 70) = some (.o, 0x12, [70]) ∧ (Instr.setDerate .o 70).wellFormed = true ∧
    readPeriod .o (commandFrame 0x12 [70]) = .command (.setDerate .o 70) := by decide +kernel

/-- R181: an entry whose temperature bits are the unassigned code 3 leaves its survey a survey; it counts for N, and is ignored
beyond N. With 256 entries the count is sent as 0, and the frame is discarded. -/
theorem test_survey_with_spare_temperature :
    (let odd : SurveyEntry := { entry 9 with temp := none }
     let f : SurveyFrame := ⟨.left, false, 0, [entry 1, entry 2, odd]⟩
     decodeSurvey (encodeSurvey f) = some f ∧
     (sighting 2 (.crossed f.entries) .timedOut).seen 1 = some (entry 2) ∧
     (after (.unitSurveyPass 0 (encodeSurvey f) (.all 0)) (sUnit (unitOf .standby .normal))).wire.length = 1 ∧
     [entry 2, odd].map (fun e => (noteDraw (sighting 2 (.crossed [entry 1, e]) .timedOut) sUp).draws) = [0, 1]) ∧
    decodeSurvey (encodeSurvey ⟨.left, false, 0, List.replicate 256 (entry 1)⟩) = none := by decide +kernel

theorem test_witness_LoopFramesReadBack :
    ([] : List SurveyEntry).length < 256 ∧ 3 < notice.length ∧ notice.getD 3 0 ≠ 77 ∧ byteSum notice = 0 ∧
    decodeNotice (notice.set 3 77) = none := by decide +kernel

/-- The premises of the invariants hold together at reset, and a step from there answers a next state. -/
theorem test_witness_StepKeeps :
    MemoryCanonical State.reset ∧ LevelFollowsClaims State.reset ∧ (∃ t, step State.reset = .next t) :=
  ⟨reset_memory_wf, by unfold LevelFollowsClaims; decide, ⟨_, rfl⟩⟩

end Sys2Proof.Tests
end

/-! R77: READ ACCUMULATORS and RESET ACCUMULATORS. The period of a ready command is carried to the served state once; then
each block is said by an equation on a state, which the shift through the port does not touch. -/

namespace Sys2Proof.Machine

/-! ### From the block's reply to the served state -/

/-- R161: a block that replies on the shifted state, leaving the shift of `t`, serves its answer on `t`. -/
theorem portCommand_served {i : Instr} {s t : State} {p : Port} {code : Byte} {bytes out : List Byte} {st : Status}
    {body : State → State × Reply} (hf : commandFields i = some (p, code, bytes)) (hr : Ready i s)
    (hb : body (s.modPort p fun q => q.shift (commandFrame code bytes)) =
      (t.modPort p fun q => q.shift (commandFrame code bytes), ⟨st, out⟩)) :
    portCommand i body s = served i st out t := by
  rw [portCommand_of_ready hf hr, hb]
  simp only [served, hf]

/-- R164: READ ACCUMULATORS passes on every port, in every part state, LIVE or LAPSED. -/
theorem ready_readAccumulators (p : Port) {s : State} (hh : s.sys.held = false) : Ready (.readAccumulators p) s := by
  refine ⟨rfl, hh, ?_⟩
  cases p <;> simp [commandFields, admissionOf, admissionFailure, forAllPorts, Admission.port, Access.admits]

/-- R164: RESET ACCUMULATORS passes on a LIVE port O, in every part state. -/
theorem ready_resetAccumulators (accs : Byte) {s : State} (hh : s.sys.held = false) (hl : s.ports.o.lapsed = false) :
    Ready (.resetAccumulators .o accs) s := by
  have live : (s.port .o).lapsed = false := hl
  refine ⟨rfl, hh, ?_⟩
  simp [commandFields, admissionOf, admissionFailure, forO, Admission.port, Access.admits, live]

/-! ### READ ACCUMULATORS -/

/-- R77: the report, as a function of the level monitor's record. -/
def accumulatorFields (m : MeterRec) : List Byte :=
  (m.energy.toList.flatMap fun a => be6 a.value ++ fl a.wrapped) ++
    be4 m.airtime.t1.value ++ fl m.airtime.t1.wrapped ++ be4 m.airtime.t2.value ++ fl m.airtime.t2.wrapped

theorem readAccumulators_eq (s : State) : readAccumulators s = answer (accumulatorFields s.meter) s := by
  simp only [readAccumulators, accumulatorFields, Four.toList, List.flatMap_cons, List.flatMap_nil, List.append_nil,
    List.append_assoc]

theorem exec_readAccumulators (p : Port) {s : State} (hh : s.sys.held = false) :
    exec (.readAccumulators p) s = .next (served (.readAccumulators p) .ok (accumulatorFields s.meter) s) :=
  congrArg Host.Outcome.next
    (portCommand_served rfl (ready_readAccumulators p hh) (readAccumulators_eq _))

/-! ### RESET ACCUMULATORS -/

theorem clearAccumulators_energy (accs : Byte) (m : MeterRec) (c : Carrier) :
    (clearAccumulators accs m).energy.get c =
      if accs.getLsbD (carrierNumber c - 1) then ⟨0, false⟩ else m.energy.get c := by
  cases c <;> rfl

theorem clearAccumulators_airtime (accs : Byte) (m : MeterRec) (c : Chan) :
    (clearAccumulators accs m).airtime.get c =
      if accs.getLsbD (chanCode c + 3) then ⟨0, false⟩ else m.airtime.get c := by
  cases c <;> rfl

theorem clearAccumulators_frame (accs : Byte) (m : MeterRec) :
    { clearAccumulators accs m with energy := m.energy, airtime := m.airtime } = m := rfl

/-- R77: a set that is empty or names more than the six accumulators. -/
theorem resetAccumulators_refused {accs : Byte} (h : accs = 0 ∨ 63 < accs.toNat) (s : State) :
    resetAccumulators accs s = refuse .badArgument s := by
  have outside : ¬ (1 ≤ accs.toNat ∧ accs.toNat < 64) := by
    rcases h with rfl | h
    · decide
    · omega
  exact if_neg outside

theorem resetAccumulators_accepted {accs : Byte} (h₁ : 1 ≤ accs.toNat) (h₂ : accs.toNat ≤ 63) (s : State) :
    resetAccumulators accs s = accept { s with meter := clearAccumulators accs s.meter } :=
  if_pos ⟨h₁, by omega⟩

theorem refuses_resetAccumulators {accs : Byte} {s : State} (hh : s.sys.held = false) (hl : s.ports.o.lapsed = false)
    (h : accs = 0 ∨ 63 < accs.toNat) : Refuses (.resetAccumulators .o accs) s .badArgument :=
  congrArg Host.Outcome.next
    (portCommand_served rfl (ready_resetAccumulators accs hh hl) (resetAccumulators_refused h _))

theorem exec_resetAccumulators {accs : Byte} {s : State} (hh : s.sys.held = false) (hl : s.ports.o.lapsed = false)
    (h₁ : 1 ≤ accs.toNat) (h₂ : accs.toNat ≤ 63) :
    exec (.resetAccumulators .o accs) s =
      .next (served (.resetAccumulators .o accs) .ok [] { s with meter := clearAccumulators accs s.meter }) :=
  congrArg Host.Outcome.next
    (portCommand_served rfl (ready_resetAccumulators accs hh hl) (resetAccumulators_accepted h₁ h₂ _))

/-- Settles O9: the report is the block's own, and what a reset writes is read off `clearAccumulators`. -/
theorem accumulators : Obligations.Accumulators := by
  refine ⟨fun p s hh => exec_readAccumulators p hh, fun accs s hh hl => ⟨refuses_resetAccumulators hh hl, fun h₁ h₂ => ?_⟩⟩
  exact ⟨_, exec_resetAccumulators hh hl h₁ h₂, rfl, clearAccumulators_frame accs s.meter,
    clearAccumulators_energy accs s.meter, clearAccumulators_airtime accs s.meter⟩

end Sys2Proof.Machine

/-! READ CHUNK and OPEN MESSAGE (R115, R107, R108). First what the blocks read of the directory and of the memory: identifiers,
the first fit, the readable extent. Then one equation on a state for each answer of a block, in the order of its checks, which
`portCommand_served` carries to the served state. -/

namespace Sys2Proof.Machine

/-! ### Message identifiers -/

/-- R178: an identifier outside 1 to 64 names no record. -/
theorem msgIdOf_eq_none {id : Byte} (h : id.toNat = 0 ∨ 64 < id.toNat) : msgIdOf id = none :=
  dif_neg (by omega)

theorem msgIdOf_eq_some {id : Byte} {i : MsgId} (h : id.toNat = i.val + 1) : msgIdOf id = some i := by
  have named : 1 ≤ id.toNat ∧ id.toNat ≤ 64 := by omega
  simp only [msgIdOf, dif_pos named, Option.some.injEq, Fin.ext_iff]
  omega

theorem idByte_eq {id : Byte} {i : MsgId} (h : id.toNat = i.val + 1) : idByte i = id := by
  rw [idByte, ← h, BitVec.ofNat_toNat, BitVec.setWidth_eq]

/-! ### READ CHUNK -/

/-- R164: READ CHUNK passes on ports O and E, in every part state, LIVE or LAPSED. -/
theorem ready_readChunk {p : Port} (id : Byte) (offset : Word) (length : Half) {s : State} (hp : p ≠ .c)
    (hh : s.sys.held = false) : Ready (.readChunk p id offset length) s := by
  refine ⟨rfl, hh, ?_⟩
  cases p with
  | c => exact absurd rfl hp
  | o | e => simp [commandFields, admissionOf, admissionFailure, Admission.port, Access.admits]

/-- The bytes of a read stand at the addresses of the message's bytes, one after another. -/
theorem memLoad_eq_map (mem : List Host.Cell) (first j n : Nat) :
    memLoad mem first j n = (List.range n).map fun x => memRead mem (msgAddr first (j + x)) := by
  induction n generalizing j with
  | zero => rfl
  | succ n ih =>
    rw [memLoad, ih, List.range_succ_eq_map, List.map_cons, List.map_map]
    simp only [Function.comp_def, Nat.succ_eq_add_one, Nat.add_zero, Nat.add_assoc, Nat.add_comm 1]

/-- R115: LOADING, READY or DAMAGED, a message has its fields, and its readable extent follows its state. -/
theorem body_and_extent {c : MsgContent} {m : MsgBody} {extent : Nat}
    (h : c = .loading m extent ∨ ∃ declared damaged, c = .closed m declared damaged ∧ extent = m.length) :
    c.body? = some m ∧ readableExtent c = extent := by
  obtain rfl | ⟨declared, damaged, rfl, rfl⟩ := h <;> exact ⟨rfl, rfl⟩

section
variable {id : Byte} {offset : Word} {length : Half} {s : State}

theorem readChunk_badArgument
    (h : id.toNat = 0 ∨ 64 < id.toNat ∨ length.toNat = 0 ∨ 256 < length.toNat) :
    readChunk id offset length s = refuse .badArgument s := by
  by_cases named : 1 ≤ id.toNat ∧ id.toNat ≤ 64
  · have outside : ¬ (1 ≤ length.toNat ∧ length.toNat ≤ 256) := by omega
    simp only [readChunk, msgIdOf, dif_pos named, if_neg outside]
  · simp only [readChunk, msgIdOf, dif_neg named]

variable {i : MsgId} (hi : id.toNat = i.val + 1) (h₁ : 1 ≤ length.toNat) (h₂ : length.toNat ≤ 256)
include hi h₁ h₂

theorem readChunk_notFound (he : (s.msg i).content = .empty) :
    readChunk id offset length s = refuse .notFound s := by
  simp [readChunk, msgIdOf_eq_some hi, h₁, h₂, he, MsgContent.body?]

theorem readChunk_beyondExtent {m : MsgBody} (hb : (s.msg i).content.body? = some m)
    (hx : readableExtent (s.msg i).content < offset.toNat + length.toNat) :
    readChunk id offset length s = refuse .badArgument s := by
  simp [readChunk, msgIdOf_eq_some hi, h₁, h₂, hb, hx]

theorem readChunk_accepted {m : MsgBody} (hb : (s.msg i).content.body? = some m)
    (hx : offset.toNat + length.toNat ≤ readableExtent (s.msg i).content) :
    readChunk id offset length s =
      answer ([id] ++ be4 offset ++ b1 (msgStateCode (s.msg i).content) ++
        (List.range length.toNat).map fun j => memRead s.store.mem (msgAddr m.first (offset.toNat + j))) s := by
  simp [readChunk, msgIdOf_eq_some hi, h₁, h₂, hb, Nat.not_lt.mpr hx, memLoad_eq_map]

end

/-- A refusal of READ CHUNK's block, carried through its period. -/
theorem refuses_readChunk {p : Port} {id : Byte} {offset : Word} {length : Half} {s : State} {st : Status} (hp : p ≠ .c)
    (hh : s.sys.held = false) (h : ∀ q f, readChunk id offset length (s.modPort q f) = refuse st (s.modPort q f)) :
    Refuses (.readChunk p id offset length) s st :=
  congrArg Host.Outcome.next (portCommand_served rfl (ready_readChunk id offset length hp hh) (h _ _))

/-- Settles O12: each check of the block has its equation, and the shift through the port leaves directory and memory alone. -/
theorem chunkReads : Obligations.ChunkReads := by
  intro p id offset length s hp hh
  refine ⟨fun h => refuses_readChunk hp hh fun _ _ => readChunk_badArgument h, fun i hi h₁ h₂ => ?_⟩
  refine ⟨fun he => refuses_readChunk hp hh fun _ _ => readChunk_notFound hi h₁ h₂ he, fun m extent hc => ?_⟩
  obtain ⟨hb, rfl⟩ := body_and_extent hc
  refine ⟨fun hx => refuses_readChunk hp hh fun _ _ => readChunk_beyondExtent hi h₁ h₂ hb hx, fun hx => ?_⟩
  exact congrArg Host.Outcome.next
    (portCommand_served rfl (ready_readChunk id offset length hp hh) (readChunk_accepted hi h₁ h₂ hb hx))

/-! ### The first fit (R108) -/

/-- R105, R108: blocks `x` to `x + c - 1` are blocks of the memory, and no message holds one of them. -/
def RunFits (s : State) (c x : Nat) : Prop :=
  x + c ≤ 1024 ∧ ∀ j m, (s.msg j).content.body? = some m → x + c ≤ m.first ∨ m.first + m.blocks ≤ x

theorem runFree_heldRuns (s : State) (x c : Nat) :
    runFree (heldRuns s.store.dir) x c = true ↔
      ∀ j m, (s.msg j).content.body? = some m → x + c ≤ m.first ∨ m.first + m.blocks ≤ x := by
  simp only [runFree, heldRuns, List.all_eq_true, List.mem_filterMap, Vector.mem_toList_iff, Option.map_eq_some_iff,
    Bool.or_eq_true, decide_eq_true_eq, forall_exists_index, and_imp]
  constructor
  · intro free j m hm
    exact free _ (s.msg j) (Vector.getElem_mem _) m hm rfl
  · rintro apart _ r hr m hm rfl
    obtain ⟨j, hj, rfl⟩ := Vector.getElem_of_mem hr
    exact apart ⟨j, hj⟩ m hm

/-- What the search for a run looks at, below the last block from which `c` blocks go on. -/
theorem runFits_iff (s : State) (c x : Nat) :
    RunFits s c x ↔ x < Config.blockCount + 1 - c ∧ runFree (heldRuns s.store.dir) x c = true := by
  rw [RunFits, runFree_heldRuns, Config.blockCount]
  exact and_congr_left fun _ => by omega

theorem firstFit_eq_none {s : State} {c : Nat} (h : ∀ x, ¬ RunFits s c x) :
    firstFit (heldRuns s.store.dir) c = none := by
  rw [firstFit, List.find?_eq_none]
  intro x hx free
  exact h x ((runFits_iff s c x).mpr ⟨List.mem_range.mp hx, free⟩)

theorem firstFit_eq_some {s : State} {c x : Nat} (fits : RunFits s c x) (lowest : ∀ y, y < x → ¬ RunFits s c y) :
    firstFit (heldRuns s.store.dir) c = some x := by
  obtain ⟨inside, free⟩ := (runFits_iff s c x).mp fits
  rw [firstFit, List.find?_range_eq_some]
  refine ⟨free, List.mem_range.mpr inside, fun y hy => ?_⟩
  rw [Bool.not_eq_true', Bool.eq_false_iff]
  exact fun free' => lowest y hy ((runFits_iff s c y).mpr ⟨by omega, free'⟩)

/-! ### OPEN MESSAGE -/

theorem enqueue_shift (q : PortRec) (bytes : List Byte) (e : EventRec) :
    (q.shift bytes).enqueue e = (q.enqueue e).shift bytes := by
  by_cases room : q.queue.length < Config.queueCapacity <;> simp only [PortRec.enqueue, PortRec.shift, room, if_true, if_false]

/-- A period's shift and an event write different fields of the port. -/
theorem raise_shift (s : State) (p : Port) (bytes : List Byte) (d : Tri Bool) (k : EventKind) (x : Byte) (a b : Half) :
    (s.modPort p fun q => q.shift bytes).raise d k x a b = (s.raise d k x a b).modPort p fun q => q.shift bytes := by
  cases p <;> simp only [State.raise, State.modPort, Tri.get, Tri.set, enqueue_shift, apply_ite (PortRec.shift · bytes)]

/-- R116: so a record's change passes through the shift. -/
theorem changeMessage_shift (i : MsgId) (c : MsgContent) (cause : MsgCause) (s : State) (p : Port) (bytes : List Byte) :
    changeMessage i c cause (s.modPort p fun q => q.shift bytes) =
      (changeMessage i c cause s).modPort p fun q => q.shift bytes :=
  raise_shift (s.modMsg i fun r => { r with content := c }) ..

/-- R116: the MESSAGE_STATE that opening a message raises: LOADING, cause 1. -/
theorem changeMessage_open {id : Byte} {i : MsgId} (hi : id.toNat = i.val + 1) (m : MsgBody) (next : Nat) (s : State) :
    changeMessage i (.loading m next) .open_ s =
      (s.modMsg i fun r => { r with content := .loading m next }).raise toO .messageState id 0x0101 m.computed := by
  have detail : hiLo 1 1 = 0x0101 := by decide
  rw [changeMessage, idByte_eq hi, ← detail]
  rfl

/-- R107: what a record holds that has been opened on the run from block `x` on. -/
def openedBody (length : Word) (tag : Byte) (x : Nat) : MsgBody :=
  ⟨x, blocksFor length.toNat, length.toNat, tag.extractLsb' 0 4, 0⟩

section
variable {id : Byte} {length : Word} {tag : Byte} {s : State}

theorem openMessage_badArgument
    (h : id.toNat = 0 ∨ 64 < id.toNat ∨ length = 0 ∨ 1048576 < length.toNat ∨ 15 < tag.toNat) :
    openMessage id length tag s = refuse .badArgument s := by
  by_cases named : 1 ≤ id.toNat ∧ id.toNat ≤ 64
  · have outside : ¬ (1 ≤ length.toNat ∧ length.toNat ≤ Config.maxMessageBytes ∧ tag.toNat ≤ 15) := by
      rw [Config.maxMessageBytes]; bv_omega
    simp only [openMessage, msgIdOf, dif_pos named, if_neg outside]
  · simp only [openMessage, msgIdOf, dif_neg named]

variable {i : MsgId} (hi : id.toNat = i.val + 1) (h₁ : 1 ≤ length.toNat) (h₂ : length.toNat ≤ 1048576)
  (h₃ : tag.toNat ≤ 15)
include hi h₁ h₂ h₃

theorem openMessage_exists (he : (s.msg i).content ≠ .empty) :
    openMessage id length tag s = refuse .exists_ s := by
  simp [openMessage, msgIdOf_eq_some hi, Config.maxMessageBytes, h₁, h₂, h₃, he]

theorem openMessage_noSpace (he : (s.msg i).content = .empty)
    (hf : firstFit (heldRuns s.store.dir) (blocksFor length.toNat) = none) :
    openMessage id length tag s = refuse .noSpace s := by
  simp [openMessage, msgIdOf_eq_some hi, Config.maxMessageBytes, h₁, h₂, h₃, he, hf]

theorem openMessage_accepted (he : (s.msg i).content = .empty) {x : Nat}
    (hf : firstFit (heldRuns s.store.dir) (blocksFor length.toNat) = some x) :
    openMessage id length tag s =
      let t := changeMessage i (.loading (openedBody length tag x) 0) .open_ s
      (t, ⟨.ok, [id] ++ b2 x ++ b2 (blocksFor length.toNat) ++ b2 (freeBlocks (heldRuns t.store.dir))⟩) := by
  simp [openMessage, openedBody, msgIdOf_eq_some hi, Config.maxMessageBytes, h₁, h₂, h₃, he, hf]

end

/-- A refusal of OPEN MESSAGE's block, carried through its period. -/
theorem refuses_openMessage {p : Port} {id : Byte} {length : Word} {tag : Byte} {s : State} {st : Status}
    (hr : Ready (.openMessage p id length tag) s)
    (h : ∀ q f, openMessage id length tag (s.modPort q f) = refuse st (s.modPort q f)) :
    Refuses (.openMessage p id length tag) s st :=
  congrArg Host.Outcome.next (portCommand_served rfl hr (h _ _))

theorem exec_openMessage {p : Port} {id : Byte} {length : Word} {tag : Byte} {s : State}
    (hr : Ready (.openMessage p id length tag) s) {i : MsgId} (hi : id.toNat = i.val + 1) (h₁ : 1 ≤ length.toNat)
    (h₂ : length.toNat ≤ 1048576) (h₃ : tag.toNat ≤ 15) (he : (s.msg i).content = .empty) {x : Nat}
    (hf : firstFit (heldRuns s.store.dir) (blocksFor length.toNat) = some x) :
    let t := changeMessage i (.loading (openedBody length tag x) 0) .open_ s
    exec (.openMessage p id length tag) s = .next (served (.openMessage p id length tag) .ok
      ([id] ++ b2 x ++ b2 (blocksFor length.toNat) ++ b2 (freeBlocks (heldRuns t.store.dir))) t) := by
  refine congrArg Host.Outcome.next (portCommand_served rfl hr ?_)
  rw [openMessage_accepted (s := s.modPort p _) hi h₁ h₂ h₃ he hf, changeMessage_shift]
  rfl

/-- Settles O34: each check of the block has its equation; the run the search finds is the lowest that fits, and the event it
raises commutes with the shift through the port. -/
theorem openCommand : Obligations.OpenCommand := by
  intro p id length tag s hr
  refine ⟨fun h => refuses_openMessage hr fun _ _ => openMessage_badArgument h, fun i hi h₁ h₂ h₃ => ⟨?_, ?_, ?_⟩⟩
  · intro he
    exact refuses_openMessage hr fun _ _ => openMessage_exists hi h₁ h₂ h₃ he
  · intro he full
    exact refuses_openMessage hr fun _ _ => openMessage_noSpace hi h₁ h₂ h₃ he (firstFit_eq_none full)
  · intro x he fits lowest
    have accepted := exec_openMessage hr hi h₁ h₂ h₃ he (firstFit_eq_some fits lowest)
    rw [changeMessage_open hi] at accepted
    exact accepted

end Sys2Proof.Machine

/-! Command frames and READ EVENTS (R162, R171). A period of 4 or more bytes is read by its first three bytes and the rest: the
three checks of R162 are one equivalence, and each side of it has its answer. READ EVENTS is an equation of its block, which
writes other fields of the port than the shift of its period. -/

namespace Sys2Proof

/-! ### Command frames (R162) -/

theorem toNat_append_byte (hi lo : Byte) : (hi ++ lo).toNat = hi.toNat * 256 + lo.toNat := by
  rw [BitVec.toNat_append, ← Nat.shiftLeft_add_eq_or_of_lt lo.isLt, Nat.shiftLeft_eq]

/-- R176, R177: the payload length that the second and third byte of a frame announce. -/
def announcedLength (bytes : List Byte) : Nat := (bytes.getD 1 0).toNat * 256 + (bytes.getD 2 0).toNat

/-- A period that is no fetch: code, payload length and at least one more byte. -/
theorem eq_cons_of_four_le_length {bytes : List Byte} (h : 4 ≤ bytes.length) :
    ∃ code l₁ l₀ next rest, bytes = code :: l₁ :: l₀ :: next :: rest := by
  match bytes, h with
  | code :: l₁ :: l₀ :: next :: rest, _ => exact ⟨code, l₁, l₀, next, rest, rfl⟩

/-- R162: the checks of a frame. -/
theorem frameOk_iff {bytes : List Byte} (h : 4 ≤ bytes.length) :
    frameOk bytes = true ↔
      bytes.length = 4 + announcedLength bytes ∧ announcedLength bytes ≤ 264 ∧ byteSum bytes = 0 := by
  obtain ⟨code, l₁, l₀, next, rest, rfl⟩ := eq_cons_of_four_le_length h
  have announced : announcedLength (code :: l₁ :: l₀ :: next :: rest) = (l₁ ++ l₀).toNat :=
    (toNat_append_byte l₁ l₀).symm
  rw [announced]
  simp only [frameOk, Bool.and_eq_true, beq_iff_eq, decide_eq_true_eq, and_assoc]
  exact Iff.rfl

/-- R162: a period of 4 or more bytes that fails a check. -/
theorem readPeriod_of_not_frameOk (p : Port) {bytes : List Byte} (h : 4 ≤ bytes.length) (bad : frameOk bytes = false) :
    readPeriod p bytes = .badFrame (bytes.headD 0) := by
  obtain ⟨code, l₁, l₀, next, rest, rfl⟩ := eq_cons_of_four_le_length h
  simp only [readPeriod, bad, Bool.false_eq_true, if_false, List.headD_cons]

/-- R163, first check: a frame that passes R162 spells a command, or none. -/
theorem readPeriod_of_frameOk (p : Port) {bytes : List Byte} (h : 4 ≤ bytes.length) (ok : frameOk bytes = true) :
    readPeriod p bytes = .unknown (bytes.headD 0) ∨ ∃ i, readPeriod p bytes = .command i := by
  obtain ⟨code, l₁, l₀, next, rest, rfl⟩ := eq_cons_of_four_le_length h
  simp only [readPeriod, ok, if_true, List.headD_cons]
  cases decodePayload p code.toNat (next :: rest).dropLast with
  | none => exact .inl rfl
  | some i => exact .inr ⟨i, rfl⟩

end Sys2Proof

namespace Sys2Proof.Machine

/-- R162: the answer to a period whose bytes are no frame. -/
theorem exec_frameError_of_badFrame {p : Port} {bytes : List Byte} {first : Byte} {s : State} (hh : s.sys.held = false)
    (hr : readPeriod p bytes = .badFrame first) :
    exec (.frameError p bytes) s = .next (refusedPeriod p bytes .frameError first s) := by
  change chipSelect p bytes s = _
  simp only [chipSelect, hh, hr, Bool.false_eq_true, if_false]

/-- Settles O3: the three checks are `frameOk`, and what a period is read as follows from it. -/
theorem frameErrors : Obligations.FrameErrors := by
  refine ⟨fun code payload => ⟨rfl, byteSum_withCheck _⟩, fun p bytes s hh h => ⟨fun fails => ?_, fun passes => ?_⟩⟩
  · have bad : frameOk bytes = false := by
      rw [Bool.eq_false_iff, Ne, frameOk_iff h]
      rintro ⟨size, fits, sum⟩
      obtain wrongSize | tooLong | wrongSum := fails
      · exact wrongSize size
      · exact absurd tooLong (Nat.not_lt.mpr fits)
      · exact wrongSum sum
    exact exec_frameError_of_badFrame hh (readPeriod_of_not_frameOk p h bad)
  · exact readPeriod_of_frameOk p h ((frameOk_iff h).mpr passes)

/-! ### READ EVENTS (R171) -/

/-- R164: READ EVENTS passes on every port, in every part state, LIVE or LAPSED. -/
theorem ready_readEvents (p : Port) {s : State} (hh : s.sys.held = false) : Ready (.readEvents p) s := by
  refine ⟨rfl, hh, ?_⟩
  cases p <;> simp [commandFields, admissionOf, admissionFailure, forAllPorts, Admission.port, Access.admits]

/-- Two updates of one port's record that commute do so on the state. -/
theorem modPort_comm {f g : PortRec → PortRec} (h : ∀ q, f (g q) = g (f q)) (p : Port) (s : State) :
    (s.modPort p g).modPort p f = (s.modPort p f).modPort p g := by
  cases p <;> simp only [State.modPort, Tri.get, Tri.set, h]

/-- R171: the response of READ EVENTS, as a function of the port's record. -/
def eventFields (q : PortRec) : List Byte :=
  b1 (min 8 q.queue.length) ++ (q.queue.take 8).flatMap EventRec.bytes ++ b1 (q.queue.length - 8) ++ fl q.overflow

/-- R171: what READ EVENTS leaves in the port's record. -/
def eventsTaken (q : PortRec) : PortRec := { q with queue := q.queue.drop 8, overflow := false }

theorem readEvents_eq (p : Port) (s : State) :
    readEvents p s = (s.modPort p eventsTaken, ⟨.ok, eventFields (s.port p)⟩) := by
  simp only [readEvents, eventFields, counted, Config.eventsPerRead, List.length_map, List.length_take, List.length_drop,
    List.flatMap_def, Prod.mk.injEq, and_true]
  rfl

/-- The period's shift writes none of the fields that READ EVENTS reports or writes. -/
theorem readEvents_shift (p : Port) (bytes : List Byte) (s : State) :
    readEvents p (s.modPort p fun q => q.shift bytes) =
      ((s.modPort p eventsTaken).modPort p fun q => q.shift bytes, ⟨.ok, eventFields (s.port p)⟩) := by
  have commute (q : PortRec) : eventsTaken (q.shift bytes) = (eventsTaken q).shift bytes := rfl
  have reported : eventFields ((s.port p).shift bytes) = eventFields (s.port p) := rfl
  rw [readEvents_eq, modPort_comm commute, modPort_port, if_pos rfl, reported]

/-- Settles O11: the block's equation on the shifted state, carried to the served state. -/
theorem eventReads : Obligations.EventReads := by
  intro p s hh
  exact congrArg Host.Outcome.next (portCommand_served rfl (ready_readEvents p hh) (readEvents_shift p _ s))

end Sys2Proof.Machine

/-! The floor of a talk channel (R88 to R93, R95, R96), as one update of one record: each floor operation is `modChan` of a
function on records, so what it does is read off that function. -/

namespace Sys2Proof.Machine

/-! ### Updates of one channel -/

theorem modChan_congr {s : State} {c : Chan} {f g : TalkRec → TalkRec} (h : f (s.chan c) = g (s.chan c)) :
    s.modChan c f = s.modChan c g := congrArg (fun r => { s with talk.chans := s.talk.chans.set c r }) h

theorem modChan_of_fixed {s : State} {c : Chan} {f : TalkRec → TalkRec} (h : f (s.chan c) = s.chan c) :
    s.modChan c f = s := by
  have same : s.talk.chans.set c (s.chan c) = s.talk.chans := by cases c <;> rfl
  change ({ s with talk.chans := s.talk.chans.set c (f (s.chan c)) } : State) = s
  rw [h, same]

theorem modChan_modChan (s : State) (c : Chan) (f g : TalkRec → TalkRec) :
    (s.modChan c f).modChan c g = s.modChan c fun r => g (f r) := by cases c <;> rfl

@[simp] theorem modChan_chan_same (s : State) (c : Chan) (f : TalkRec → TalkRec) :
    (s.modChan c f).chan c = f (s.chan c) := by rw [modChan_chan, if_pos rfl]

/-! ### Eligibility reads coverage and barred set of the channel alone -/

theorem isEligible_modChan (s : State) (c : Chan) {f : TalkRec → TalkRec}
    (hc : (f (s.chan c)).coverage = (s.chan c).coverage) (hb : (f (s.chan c)).barred = (s.chan c).barred) (k : SegId) :
    isEligible (s.modChan c f) c k = isEligible s c k := by
  simp only [isEligible, modChan_chan_same, hc, hb]
  rfl

theorem bestVote_modChan (s : State) (c : Chan) {f : TalkRec → TalkRec}
    (hc : (f (s.chan c)).coverage = (s.chan c).coverage) (hb : (f (s.chan c)).barred = (s.chan c).barred) :
    bestVote (s.modChan c f) c = bestVote s c := by
  simp only [bestVote, funext (isEligible_modChan s c hc hb)]
  rfl

/-! ### Floor entries -/

theorem enterInbound_eq (c : Chan) (p : Option TalkSide) (s : State) :
    enterInbound c p s = s.modChan c (floorIn s.sys.uptime (bestVote s c) p) := rfl

theorem enterHang_eq (c : Chan) (side : TalkSide) (s : State) :
    enterHang c side s = s.modChan c (floorHang s.sys.uptime s.talk.hangMs side) := by
  unfold enterHang
  split
  · next h => exact modChan_congr (by simp only [floorHang, h, if_true])
  · next h => exact modChan_congr (by simp only [floorHang, if_neg h])

/-- R92. -/
theorem leaveOutbound_eq (c : Chan) (s : State) :
    leaveOutbound c s = s.modChan c (floorEnd s.sys.uptime s.talk.hangMs (bestVote s c)) := by
  unfold leaveOutbound
  split
  · next h => exact modChan_congr (by simp only [floorEnd, h, if_true, floorIn])
  · next h => rw [enterHang_eq]; exact modChan_congr (by simp only [floorEnd, if_neg h])

/-- R88, R89, R83. -/
theorem reactFloor_eq (c : Chan) (s : State) :
    reactFloor c s = s.modChan c
      (floorTable s.sys.uptime s.talk.hangMs (eligibleSet s c ≠ 0) (bestVote s c) (revote s c)) := by
  unfold reactFloor
  generalize decide (eligibleSet s c ≠ 0) = claim
  dsimp only
  cases hf : (s.chan c).floor with
  | idle =>
    cases claim with
    | true => rw [if_pos rfl, enterInbound_eq]; exact modChan_congr (by simp only [floorTable, hf])
    | false => exact (modChan_of_fixed (s := s) (by simp only [floorTable, hf])).symm
  | inbound =>
    cases claim with
    | true =>
      dsimp only
      rw [if_pos rfl]
      exact modChan_congr (by simp only [floorTable, hf])
    | false =>
      dsimp only
      rw [if_neg Bool.false_ne_true]
      split
      · next hp => exact modChan_congr (by simp only [floorTable, hf, hp, if_true, floorOut])
      · next hp => rw [enterHang_eq]; exact modChan_congr (by simp only [floorTable, hf, if_neg hp])
  | outbound => exact modChan_congr (by simp only [floorTable, hf])
  | hang =>
    dsimp only
    split
    · next hs => exact modChan_congr (by simp only [floorTable, hf, hs, if_true])
    · next hs =>
      cases claim with
      | true =>
        rw [if_pos rfl, enterInbound_eq]
        exact modChan_congr (by simp only [floorTable, hf, if_neg hs, if_true])
      | false => exact (modChan_of_fixed (s := s) (by simp only [floorTable, hf, if_neg hs]; rfl)).symm

/-! ### Key commands -/

/-- R90: the record after a KEY without priority. -/
def floorKey (now : Word) (t : TalkRec) : TalkRec :=
  match t.floor, t.hangSide with
  | .idle, _ => { floorOut now none t with key := .keyed }
  | .inbound, _ => { t with pending := some .outbound, key := .keyed }
  | .outbound, _ => t
  | .hang, some .outbound => { floorOut now t.pending t with key := .keyed }
  | .hang, _ => { t with pending := some .outbound, key := .keyed }

theorem keyFloor_eq (c : Chan) (s : State) : keyFloor c s = s.modChan c (floorKey s.sys.uptime) := by
  unfold keyFloor
  dsimp only
  split
  case h_3 hf => exact (modChan_of_fixed (by simp only [floorKey, hf])).symm
  all_goals
    simp only [enterOutbound, setPending, setKey, modChan_modChan, modChan_sys]
    exact modChan_congr (by simp only [floorKey, floorOut, *])

/-- R91: the segments that a KEY with priority bars. -/
def carriersUp (s : State) (c : Chan) : SegSet := setOf fun k => inSet (s.chan c).coverage k && ((s.upl k).get c).carrier

/-- R91: the record after a KEY with priority, where `up` are the carriers of the coverage set. -/
def floorPriority (now : Word) (up : SegSet) (t : TalkRec) : TalkRec :=
  let u : TalkRec := if t.floor = .inbound ∨ t.pending = some .inbound then { t with barred := t.barred ||| up } else t
  match t.floor with
  | .outbound => { u with pending := none, key := .keyed }
  | _ => { floorOut now none u with key := .keyed }

theorem keyPriority_eq (c : Chan) (s : State) :
    keyPriority c s = s.modChan c (floorPriority s.sys.uptime (carriersUp s c)) := by
  have bars : barCarriers c s = s.modChan c fun t => { t with barred := t.barred ||| carriersUp s c } := modChan_congr rfl
  unfold keyPriority
  simp only [bars]
  cases hf : (s.chan c).floor <;>
    by_cases hp : (s.chan c).pending = some .inbound <;>
    simp only [enterOutbound, setPending, setKey, hp, modChan_modChan, modChan_sys, reduceCtorEq, or_true, or_false,
      false_or, true_or, if_true, if_false] <;>
    exact modChan_congr (by simp only [floorPriority, floorOut, hf, hp, reduceCtorEq, or_true, or_false, if_true, if_false])

/-- R92: the record after an UNKEY. -/
def floorUnkey (now : Word) (hangMs : Nat) (vote : Option SegId) (t : TalkRec) : TalkRec :=
  match t.key, t.floor with
  | .keyed, .outbound => { floorEnd now hangMs vote t with key := .unkeyed }
  | .keyed, _ => { t with key := .unkeyed, pending := none }
  | .stuck, _ => { t with key := .unkeyed }
  | .unkeyed, _ => t

/-- A floor entry writes no key, and a key write no floor. -/
theorem floorEnd_key (now : Word) (hangMs : Nat) (vote : Option SegId) (x : KeyState) (t : TalkRec) :
    floorEnd now hangMs vote { t with key := x } = { floorEnd now hangMs vote t with key := x } := by
  simp only [floorEnd, floorIn, floorHang]; split <;> rfl

theorem leaveOutbound_setKey (c : Chan) (x : KeyState) (s : State) :
    leaveOutbound c (setKey c x s) =
      s.modChan c fun t => { floorEnd s.sys.uptime s.talk.hangMs (bestVote s c) t with key := x } := by
  rw [leaveOutbound_eq, setKey, bestVote_modChan s c (by rfl) (by rfl), modChan_modChan]
  simp only [floorEnd_key]
  rfl

theorem unkeyFloor_eq (c : Chan) (s : State) :
    unkeyFloor c s = s.modChan c (floorUnkey s.sys.uptime s.talk.hangMs (bestVote s c)) := by
  unfold unkeyFloor
  dsimp only
  split
  case h_1 hk hf => rw [leaveOutbound_setKey]; exact modChan_congr (by simp only [floorUnkey, hk, hf])
  case h_2 hk hf =>
    rw [setPending, setKey, modChan_modChan]
    refine modChan_congr ?_
    cases hg : (s.chan c).floor <;> simp_all [floorUnkey]
  case h_3 hk => exact modChan_congr (by simp only [floorUnkey, hk])
  case h_4 hk => exact (modChan_of_fixed (by simp only [floorUnkey, hk])).symm

/-! ### Timers -/

/-- R93: the record after a hang expiry. -/
def floorHangEnd (now : Word) (vote : Option SegId) (t : TalkRec) : TalkRec :=
  match t.floor, t.pending with
  | .hang, some .outbound => floorOut now none t
  | .hang, some .inbound => floorIn now vote none t
  | .hang, none =>
    { t with floor := .idle, voted := none, pending := none, hangSide := none, totStart := none, hangExpiry := none }
  | _, _ => t

theorem expireHang_eq (c : Chan) (s : State) :
    expireHang c s = s.modChan c (floorHangEnd s.sys.uptime (bestVote s c)) := by
  unfold expireHang
  split
  case h_4 => 
    refine (modChan_of_fixed ?_).symm
    unfold floorHangEnd
    split <;> simp_all
  all_goals exact modChan_congr (by simp only [floorHangEnd, *]; try rfl)

/-- R95: the record with every eligible segment barred. -/
def barEligible (s : State) (c : Chan) (t : TalkRec) : TalkRec := { t with barred := t.barred ||| eligibleSet s c }

/-- With every eligible segment barred, none is eligible. -/
theorem eligibleSet_barEligible (s : State) (c : Chan) : eligibleSet (s.modChan c (barEligible s c)) c = 0 := by
  have none_left (k : SegId) : isEligible (s.modChan c (barEligible s c)) c k = false := by
    have barred : inSet ((s.chan c).barred ||| eligibleSet s c) k = (inSet (s.chan c).barred k || isEligible s c k) := by
      simp only [inSet, BitVec.getLsbD_or, eligibleSet, setOf, BitVec.getLsbD_ofFnLE]
      simp
    rw [Bool.eq_false_iff]
    intro still
    simp only [isEligible, modChan_chan_same, barEligible, barred, Bool.not_or, Bool.and_eq_true, Bool.not_eq_true'] at still
    obtain ⟨reachable, notBarred, notEligible⟩ := still
    have eligible : isEligible s c k = true := by
      simp only [isEligible, Bool.and_eq_true, Bool.not_eq_true']
      exact ⟨reachable, notBarred⟩
    exact absurd eligible (by rw [isEligible, notEligible]; decide)
  have zero : (fun k => isEligible (s.modChan c (barEligible s c)) c k) = fun _ => false := funext none_left
  have empty : setOf (fun _ => false) = 0 := by decide
  rw [eligibleSet, ← empty]
  exact congrArg setOf zero

/-- R95, R96: the record after a TOT expiry. -/
def floorTot (s : State) (c : Chan) (t : TalkRec) : TalkRec :=
  match t.floor with
  | .inbound =>
    if t.pending = some .outbound then floorOut s.sys.uptime none (barEligible s c t)
    else floorHang s.sys.uptime s.talk.hangMs .inbound (barEligible s c t)
  | .outbound => { floorEnd s.sys.uptime s.talk.hangMs (bestVote s c) t with key := .stuck }
  | _ => t

theorem expireTot_eq (c : Chan) (s : State) : expireTot c s = s.modChan c (floorTot s c) := by
  unfold expireTot
  split
  · next hf =>
    change reactFloor c (s.modChan c (barEligible s c)) = _
    rw [reactFloor_eq, eligibleSet_barEligible, modChan_modChan]
    refine modChan_congr ?_
    simp only [floorTable, floorTot, barEligible, hf, ne_eq, not_true_eq_false, decide_false]
    split <;> rfl
  · next hf => rw [leaveOutbound_setKey]; exact modChan_congr (by simp only [floorTot, hf])
  · next h1 h2 =>
    refine (modChan_of_fixed ?_).symm
    cases hf : (s.chan c).floor <;> simp_all [floorTot]

end Sys2Proof.Machine

/-! What an update keeps, said once for every property that a step is to keep. `Kept x s t` says that the change from `s` to `t`
keeps the law `x`: an invariant carries over, a component is the same. It is reflexive and transitive, so each operation of the
model has one lemma for all laws (but for those it names as broken), and an operation made of others follows its own text. -/

namespace Sys2Proof.Machine

/-- The invariants of Sys2Proof/Safety.lean that are kept update by update, and the components that an event may leave alone. -/
inductive Law where
  | memory | queues | level | limits | grants | relays | keys | settings | runs
  | sys | inc | store | plant | owners | loop | meter

/-- The change from `s` to `t` keeps a law. -/
def Kept : Law → State → State → Prop
  | .memory, s, t => MemoryCanonical s → MemoryCanonical t
  | .queues, s, t => QueuesBounded s → QueuesBounded t
  | .level, s, t => LevelFollowsClaims s → LevelFollowsClaims t
  | .limits, s, t => LimitsRight s → LimitsRight t
  | .grants, s, t => GrantsBounded s → GrantsBounded t
  | .relays, s, t => RelaysRight s → RelaysRight t
  | .keys, s, t => KeysRight s → KeysRight t
  | .settings, s, t => SettingsInRange s → SettingsInRange t
  | .runs, s, t => RunsApart s → RunsApart t
  | .sys, s, t => t.sys = s.sys
  | .inc, s, t => t.inc = s.inc
  | .store, s, t => t.store = s.store
  | .plant, s, t => t.plant = s.plant
  | .owners, s, t => t.brk.owners = s.brk.owners
  | .loop, s, t => { t.loop with segs := s.loop.segs } = s.loop
  | .meter, s, t => { t.meter with recs := s.meter.recs } = s.meter

namespace Kept
variable {x : Law}

theorem refl (s : State) : Kept x s s := by cases x <;> first | exact id | rfl

theorem trans {s t u : State} (h : Kept x s t) (g : Kept x t u) : Kept x s u := by
  cases x with
  | sys | inc | store | plant | owners => exact Eq.trans g h
  | loop => have a := h; simp only [Kept] at a g ⊢; rw [← g] at a; exact a
  | meter => have a := h; simp only [Kept] at a g ⊢; rw [← g] at a; exact a
  | _ => exact fun p => g (h p)

theorem foldl {α : Type} {f : State → α → State} (hf : ∀ s a, Kept x s (f s a)) (l : List α) (s : State) :
    Kept x s (l.foldl f s) := by
  induction l generalizing s with
  | nil => exact refl s
  | cons a l ih => exact (hf s a).trans (ih _)

theorem forSegs {f : SegId → State → State} (hf : ∀ k s, Kept x s (f k s)) (s : State) : Kept x s (Machine.forSegs f s) :=
  foldl (fun t k => by split; exact hf k t; exact refl t) _ s

theorem forSet {m : SegSet} {f : SegId → State → State} (hf : ∀ k s, Kept x s (f k s)) (s : State) :
    Kept x s (Machine.forSet m f s) :=
  forSegs (fun k t => by split; exact hf k t; exact refl t) s

theorem ite {c : Prop} [Decidable c] {s t u : State} (ht : c → Kept x s t) (hu : ¬ c → Kept x s u) :
    Kept x s (if c then t else u) := by
  split
  · exact ht ‹_›
  · exact hu ‹_›

end Kept

/-! ### Updates of one record -/

section
variable {x : Law} {s : State}

/-- Updates of what no law reads: metering records, uplink table, notice numbers, playout, live records, frames. -/
theorem kept_meters (k : SegId) (f : Six MeterEntry → Six MeterEntry) : Kept x s (s.modMeters k f) := by
  cases x <;> first | exact id | rfl

theorem kept_meter (k : SegId) (e : Entry) (f : MeterEntry → MeterEntry) : Kept x s (s.modMeter k e f) := kept_meters k _

theorem kept_accumulators (hx : x ≠ .meter) (e : Four EnergyAcc) (a : Pair AirtimeAcc) :
    Kept x s { s with meter := { s.meter with energy := e, airtime := a } } := by
  cases x with
  | meter => exact absurd rfl hx
  | _ => first | exact id | rfl

theorem kept_transmit (w : Sender) (bs : List Byte) : Kept x s (s.transmit w bs) := by
  cases x <;> first | exact id | rfl

theorem kept_uplinkTable (v : Vector (Pair UplinkRec) 24) (q : Vector (Option Byte) 24) :
    Kept x s { s with talk := { s.talk with uplink := v, seq := q } } := by
  cases x <;> first | exact id | rfl

theorem kept_talkLevel (l : Level) : Kept x s { s with talk.level := l } := by
  cases x <;> first | exact id | rfl

theorem kept_play (p : PlayTable) : Kept x s { s with play := p } := by
  cases x <;> first | exact id | rfl

theorem kept_pchan (c : PChan) (f : PlayRec → PlayRec) : Kept x s (s.modPchan c f) := kept_play _

theorem kept_live (e : Option LiveE) (o : Option SegSet) : Kept x s { s with brk := { s.brk with liveE := e, liveO := o } } := by
  cases x <;> first | exact id | rfl

theorem kept_priority (p : Priority) : Kept x s { s with brk.priority := p } := by
  cases x <;> first | exact id | rfl

theorem kept_owners (hx : x ≠ .owners) (v : Vector Source 24) : Kept x s { s with brk.owners := v } := by
  cases x with
  | owners => exact absurd rfl hx
  | _ => first | exact id | rfl

theorem kept_draws (n : Nat) : Kept x s { s with draws := n } := by
  cases x <;> first | exact id | rfl

theorem kept_lastMark (m : Option Word) : Kept x s { s with lastMark := m } := by
  cases x <;> first | exact id | rfl

theorem kept_pending (l : List Instr) : Kept x s { s with pending := l } := by
  cases x <;> first | exact id | rfl

theorem kept_plant (hx : x ≠ .plant) (p : PlantRec) (w : List WireFrame) : Kept x s { s with plant := p, wire := w } := by
  cases x with
  | plant => exact absurd rfl hx
  | _ => first | exact id | rfl

/-- A unit record but for its mark. -/
theorem kept_unit {k : SegId} {f : UnitRec → UnitRec} (hf : (f (s.unit k)).marked = (s.unit k).marked) :
    Kept x s (s.modUnit k f) := by
  cases x with
  | limits =>
    intro h j hj
    have mark : ((s.modUnit k f).unit j).marked = (s.unit j).marked := by
      rw [modUnit_unit]
      split
      · next e => subst e; exact hf
      · rfl
    rw [mark]
    exact h j hj
  | _ => first | exact id | rfl

/-- Of a segment record the limits read these fields. -/
def SegRec.limitView (r : SegRec) : LinkState × Option Observed × TargetMode × Nat :=
  (r.link, r.observed, r.commanded, r.limit)

theorem limitOf_congr {r r' : SegRec} (h : r.limitView = r'.limitView) (m : Bool) (d : Nat) :
    limitOf r m d = limitOf r' m d := by
  simp only [SegRec.limitView, Prod.mk.injEq] at h
  obtain ⟨link, observed, commanded, limit⟩ := h
  simp only [limitOf, link, observed, commanded, limit]

/-- What an update of one segment record keeps: it leaves E and the rated limit alone, and, for the limits, what they read. -/
theorem kept_seg {k : SegId} {f : SegRec → SegRec} (he : (f (s.seg k)).eff = (s.seg k).eff)
    (hl : (f (s.seg k)).limit = (s.seg k).limit) (hv : x = .limits → (f (s.seg k)).limitView = (s.seg k).limitView) :
    Kept x s (s.modSeg k f) := by
  have eff (j : SegId) : ((s.modSeg k f).seg j).eff = (s.seg j).eff := by
    rw [modSeg_seg]
    split
    · next e => subst e; exact he
    · rfl
  have limit (j : SegId) : ((s.modSeg k f).seg j).limit = (s.seg j).limit := by
    rw [modSeg_seg]
    split
    · next e => subst e; exact hl
    · rfl
  cases x with
  | limits =>
    intro h j hj
    have view : ((s.modSeg k f).seg j).limitView = (s.seg j).limitView := by
      rw [modSeg_seg]
      split
      · next e => subst e; exact hv rfl
      · rfl
    rw [eff, limitOf_congr view]
    exact h j hj
  | grants => exact fun h => ⟨fun j hj => by rw [eff]; exact h.1 j hj, h.2⟩
  | settings =>
    intro h
    simp only [SettingsInRange, limit]
    exact h
  | _ => first | exact id | rfl

/-- An allocation record but for its grants. -/
theorem kept_aseg {k : SegId} {f : AllocSeg → AllocSeg} (hf : (f (s.aseg k)).grants = (s.aseg k).grants) :
    Kept x s (s.modAseg k f) := by
  have grants (j : SegId) : ((s.modAseg k f).aseg j).grants = (s.aseg j).grants := by
    rw [modAseg_aseg]
    split
    · next e => subst e; exact hf
    · rfl
  cases x with
  | grants =>
    exact fun h => ⟨fun j hj => by rw [grants]; exact h.1 j hj, fun hp j => by rw [grants]; exact h.2 hp j⟩
  | relays =>
    intro h c j
    have rs : ((s.modAseg k f).aseg j).rs.grant = (s.aseg j).rs.grant := congrArg Six.rs (grants j)
    rw [rs]
    exact h c j
  | _ => first | exact id | rfl

theorem kept_activity (b : Bool) : Kept x s { s with alloc.activity := b } := by
  cases x <;> first | exact id | rfl

theorem kept_allocLevel (l : Level) : Kept x s { s with alloc.level := l } := by
  cases x <;> first | exact id | rfl

theorem kept_raise (d : Tri Bool) (e : EventKind) (y : Byte) (a b : Half) : Kept x s (s.raise d e y a b) := by
  cases x with
  | queues =>
    intro h p
    rw [raise_port]
    have room := h p
    split
    · unfold PortRec.enqueue
      split
      · next full => simp only [Config.queueCapacity] at full; simp only [List.length_append, List.length_cons, List.length_nil]; omega
      · exact room
    · exact room
  | keys =>
    intro h c
    have lapsed : (s.raise d e y a b).ports.e.lapsed = s.ports.e.lapsed := by
      have settings := congrArg PortRec.lapsed ((raise_undisturbed s d e y a b).port .e)
      exact settings
    rw [lapsed]
    exact h c
  | _ => first | exact id | rfl

/-- A port record whose queue grows no longer and whose port does not lapse. -/
theorem kept_port {p : Port} {f : PortRec → PortRec} (hq : (f (s.port p)).queue.length ≤ (s.port p).queue.length)
    (hl : x = .keys → (f (s.port p)).lapsed = true → (s.port p).lapsed = true) : Kept x s (s.modPort p f) := by
  cases x with
  | queues =>
    intro h q
    rw [modPort_port]
    split
    · exact Nat.le_trans hq (h p)
    · exact h q
  | keys =>
    intro h c
    obtain ⟨keyed, live, idle, hang⟩ := h c
    refine ⟨keyed, fun hk => ?_, idle, hang⟩
    have was := live hk
    change ((s.modPort p f).port .e).lapsed = false
    rw [modPort_port]
    split
    · next e =>
      subst e
      rw [Bool.eq_false_iff]
      exact fun now => absurd (hl rfl now) (by rw [show (s.port .e).lapsed = false from was]; decide)
    · exact was
  | _ => first | exact id | rfl

theorem kept_hold (p : Port) (code : Byte) (r : Reply) : Kept x s (s.hold p code r) := kept_port (Nat.le_refl _) fun _ => id

/-! ### Talk channel records -/

/-- R86, R87: what `KeysRight` says of one record. -/
def KeyRule (r : TalkRec) : Prop :=
  (r.key = .keyed ↔ r.floor = .outbound ∨ r.pending = some .outbound) ∧ (r.floor = .idle → r.pending = none) ∧
  (r.floor = .hang → r.hangSide = some .outbound → r.pending ≠ some .outbound)

theorem keysRight_iff : KeysRight s ↔ ∀ c, KeyRule (s.chan c) ∧ ((s.chan c).key = .keyed → s.ports.e.lapsed = false) :=
  forall_congr' fun _ =>
    ⟨fun ⟨a, b, c, d⟩ => ⟨⟨a, c, d⟩, b⟩, fun ⟨⟨a, c, d⟩, b⟩ => ⟨a, b, c, d⟩⟩

/-- A record update that keeps coverage and relay set, keeps the rule of keys, and keys only where it was keyed or port E is
LIVE. -/
theorem kept_chan {c : Chan} {f : TalkRec → TalkRec} (hc : (f (s.chan c)).coverage = (s.chan c).coverage)
    (hr : (f (s.chan c)).relay = (s.chan c).relay)
    (hk : x = .keys → KeyRule (s.chan c) → KeyRule (f (s.chan c)) ∧
      ((f (s.chan c)).key = .keyed → (s.chan c).key = .keyed ∨ s.ports.e.lapsed = false)) :
    Kept x s (s.modChan c f) := by
  cases x with
  | relays =>
    intro h d j
    have unchanged : ((s.modChan c f).chan d).relay = (s.chan d).relay ∧
        ((s.modChan c f).chan d).coverage = (s.chan d).coverage := by
      rw [modChan_chan]
      split
      · next e => subst e; exact ⟨hr, hc⟩
      · exact ⟨rfl, rfl⟩
    rw [unchanged.1, unchanged.2]
    exact h d j
  | keys =>
    intro h
    rw [keysRight_iff] at h ⊢
    intro d
    rw [modChan_chan]
    split
    · next e =>
      subst e
      obtain ⟨rule, live⟩ := h c
      obtain ⟨rule', keyed⟩ := hk rfl rule
      exact ⟨rule', fun now => (keyed now).elim live id⟩
    · exact h d
  | _ => first | exact id | rfl

/-- A channel's coverage set may be replaced where the relay sets are computed anew. -/
theorem kept_coverage (hx : x ≠ .relays) (c : Chan) (m : SegSet) :
    Kept x s (s.modChan c fun t => { t with coverage := m }) := by
  cases x with
  | relays => exact absurd rfl hx
  | keys =>
    intro h
    rw [keysRight_iff] at h ⊢
    intro d
    rw [modChan_chan]
    split
    · next e => subst e; exact h c
    · exact h d
  | _ => first | exact id | rfl

/-! ### The message directory -/

/-- Directory `d'` holds no run that `d` does not hold in the same place. -/
def SameRuns (d d' : Vector MsgRec 64) : Prop :=
  ∀ (i : MsgId) m, d'[i].content.body? = some m → ∃ m', d[i].content.body? = some m' ∧ m'.first = m.first ∧ m'.blocks = m.blocks

theorem kept_dir (hx : x ≠ .store) {d : Vector MsgRec 64} (hd : SameRuns s.store.dir d) : Kept x s { s with store.dir := d } := by
  cases x with
  | store => exact absurd rfl hx
  | runs =>
    rintro ⟨inside, apart⟩
    refine ⟨fun i m hm => ?_, fun i j m m' ne hm hm' => ?_⟩
    · obtain ⟨r, hr, first, blocks⟩ := hd i m hm
      rw [← first, ← blocks]
      exact inside i r hr
    · obtain ⟨r, hr, first, blocks⟩ := hd i m hm
      obtain ⟨r', hr', first', blocks'⟩ := hd j m' hm'
      rw [← first, ← blocks, ← first', ← blocks']
      exact apart i j r r' ne hr hr'
  | _ => first | exact id | rfl

theorem kept_msg (hx : x ≠ .store) {i : MsgId} {f : MsgRec → MsgRec}
    (hf : ∀ m, (f (s.msg i)).content.body? = some m →
      ∃ m', (s.msg i).content.body? = some m' ∧ m'.first = m.first ∧ m'.blocks = m.blocks) : Kept x s (s.modMsg i f) := by
  refine kept_dir hx fun j m hm => ?_
  rw [vupd_get] at hm
  split at hm
  · next e => subst e; exact hf m hm
  · exact ⟨m, hm, rfl, rfl⟩

/-! ### Relay sets -/

theorem inSet_setOf (f : SegId → Bool) (k : SegId) : inSet (setOf f) k = f k := by
  simp [inSet, setOf]

@[simp] theorem refreshRelay_chan (s : State) (c : Chan) :
    (refreshRelay s).chan c = { s.chan c with relay := relayOf s.alloc (s.chan c).coverage } := by cases c <;> rfl

/-- R84: computed anew, the relay sets are right. -/
theorem refreshRelay_right (s : State) : RelaysRight (refreshRelay s) := by
  intro c k
  rw [refreshRelay_chan]
  dsimp only
  rw [relayOf, inSet_setOf, Bool.and_eq_true, decide_eq_true_eq]
  exact Iff.rfl

theorem kept_refreshRelay : Kept x s (refreshRelay s) := by
  cases x with
  | relays => exact fun _ => refreshRelay_right s
  | keys =>
    intro h
    rw [keysRight_iff] at h ⊢
    intro c
    rw [refreshRelay_chan]
    exact h c
  | _ => first | exact id | rfl

end

end Sys2Proof.Machine

/-! The grant round (R48 to R51), phase by phase. Each phase is a recursion along the rotation order; its lemma says what one carrier
receives from what stands before it in that order. The round is then a list of amounts, and its bounds are arithmetic. -/

namespace Sys2Proof.Machine

/-! ### The rotation order -/

theorem rotationFrom_eq (p : Carrier) :
    rotationFrom p = [p, nextCarrier p, nextCarrier (nextCarrier p), nextCarrier (nextCarrier (nextCarrier p))] := by
  cases p <;> rfl

theorem rotationFrom_nodup (p : Carrier) : (rotationFrom p).Nodup := by cases p <;> decide

theorem mem_rotationFrom (p c : Carrier) : c ∈ rotationFrom p := by cases p <;> cases c <;> decide

/-- A sum over the four carriers does not depend on where the rotation starts. -/
theorem sum_rotationFrom (p : Carrier) (f : Carrier → Nat) :
    ((rotationFrom p).map f).sum = f .c1 + f .c2 + f .c3 + f .c4 := by
  cases p <;> simp only [rotationFrom, List.map_cons, List.map_nil, List.sum_cons, List.sum_nil] <;> omega

theorem Four_total (v : Four Nat) : v.total = v.get .c1 + v.get .c2 + v.get .c3 + v.get .c4 := rfl

theorem Four_get_map {α β : Type} (f : α → β) (v : Four α) (c : Carrier) : (v.map f).get c = f (v.get c) := by cases c <;> rfl

theorem Four_get_zipWith {α β γ : Type} (f : α → β → γ) (v : Four α) (w : Four β) (c : Carrier) :
    (v.zipWith f w).get c = f (v.get c) (w.get c) := by cases c <;> rfl

/-! ### The floor phase (R49) -/

theorem floorPhase_left (f : Four Nat) (cs : List Carrier) (a : Nat) (g : Four Nat) :
    (floorPhase f cs a g).2 = a - (cs.map f.get).sum := by
  induction cs generalizing a g with
  | nil => rfl
  | cons c cs ih => rw [floorPhase, ih, List.map_cons, List.sum_cons]; omega

theorem floorPhase_get {f : Four Nat} {cs : List Carrier} (hn : cs.Nodup) (a : Nat) (g : Four Nat) (c : Carrier) :
    (floorPhase f cs a g).1.get c =
      if c ∈ cs then min (f.get c) (a - ((cs.takeWhile (· ≠ c)).map f.get).sum) else g.get c := by
  induction cs generalizing a g with
  | nil => rfl
  | cons d cs ih =>
    obtain ⟨hd, hn⟩ := List.nodup_cons.mp hn
    rw [floorPhase, ih hn, Four_get_set]
    by_cases e : d = c
    · subst e
      simp [hd]
    · have e' : c ≠ d := Ne.symm e
      simp only [List.mem_cons, e', false_or, e, if_false, List.takeWhile_cons, ne_eq, not_false_eq_true, decide_true,
        if_true, List.map_cons, List.sum_cons]
      split
      · congr 1
        omega
      · rfl

/-! ### The leftover milliwatts (R51) -/

theorem handOut_get {x : Four Nat} {cs : List Carrier} (hn : cs.Nodup) (d : Nat) (g : Four Nat) (c : Carrier) :
    (handOut x cs d g).get c =
      g.get c + if c ∈ cs ∧ 0 < x.get c ∧ ((cs.takeWhile (· ≠ c)).filter fun e => 0 < x.get e).length < d then 1 else 0 := by
  induction cs generalizing d g with
  | nil => simp [handOut]
  | cons b cs ih =>
    obtain ⟨hb, hn⟩ := List.nodup_cons.mp hn
    rw [handOut]
    by_cases e : b = c
    · subst e
      by_cases take : 0 < d ∧ 0 < x.get b
      · simp [ih hn, take, hb, Four_get_set]
      · by_cases asks : 0 < x.get b
        · have none_left : d = 0 := by omega
          simp [ih hn, hb, none_left]
        · simp [ih hn, hb, asks]
    · have e' : c ≠ b := Ne.symm e
      by_cases asks : 0 < x.get b
      · by_cases left : 0 < d
        · have count (n : Nat) : n < d - 1 ↔ n + 1 < d := by omega
          simp [ih hn, left, asks, e, e', Four_get_set, count]
        · have none_left : d = 0 := by omega
          simp [ih hn, none_left, e']
      · simp [ih hn, asks, e, e']

/-- How many milliwatts are handed out: as many as there are, or one for each carrier that asks. -/
theorem handOut_sum {x : Four Nat} {cs : List Carrier} (hn : cs.Nodup) (d : Nat) (g : Four Nat) :
    (cs.map (handOut x cs d g).get).sum =
      (cs.map g.get).sum + min d (cs.filter fun e => 0 < x.get e).length := by
  induction cs generalizing d g with
  | nil => simp [handOut]
  | cons b cs ih =>
    obtain ⟨hb, hn'⟩ := List.nodup_cons.mp hn
    have first (d' : Nat) (g' : Four Nat) : (handOut x cs d' g').get b = g'.get b := by
      rw [handOut_get hn', if_neg (fun h => hb h.1), Nat.add_zero]
    have others (v : Nat) : cs.map (g.set b v).get = cs.map g.get :=
      List.map_congr_left fun c hc => by rw [Four_get_set, if_neg (by rintro rfl; exact hb hc)]
    rw [handOut]
    by_cases asks : 0 < x.get b
    · by_cases left : 0 < d
      · simp only [left, asks, decide_true, Bool.and_self, if_true, List.map_cons, List.sum_cons, first, ih hn', others,
          Four_get_set, List.filter_cons, List.length_cons]
        omega
      · have none_left : d = 0 := by omega
        simp [none_left, first, ih hn']
    · simp [asks, first, ih hn']
      omega

/-! ### Shares (R51) -/

/-- The shares leave less than a milliwatt for each carrier that asks. -/
theorem shares_leave (x : Four Nat) (a : Nat) (ha : a < x.total) :
    (x.map fun xi => a * xi / x.total).total ≤ a ∧
    a - (x.map fun xi => a * xi / x.total).total ≤ ([Carrier.c1, .c2, .c3, .c4].filter fun e => 0 < x.get e).length := by
  have pos : 0 < x.total := by omega
  have part (n : Nat) : x.total * (a * n / x.total) + a * n % x.total = a * n := Nat.div_add_mod _ _
  have rest (n : Nat) : a * n % x.total ≤ x.total * (if 0 < n then 1 else 0) := by
    split
    · have := Nat.mod_lt (a * n) pos; omega
    · next h => simp [show n = 0 by omega]
  have asking : ([Carrier.c1, .c2, .c3, .c4].filter fun e => 0 < x.get e).length =
      (if 0 < x.get .c1 then 1 else 0) + (if 0 < x.get .c2 then 1 else 0) + (if 0 < x.get .c3 then 1 else 0) +
        (if 0 < x.get .c4 then 1 else 0) := by
    simp only [← List.countP_eq_length_filter, List.countP_cons, List.countP_nil, decide_eq_true_eq]
    omega
  have whole : a * x.get .c1 + a * x.get .c2 + a * x.get .c3 + a * x.get .c4 = x.total * a := by
    simp only [Four_total, ← Nat.mul_add, Nat.mul_comm]
  have e1 := part (x.get .c1); have e2 := part (x.get .c2); have e3 := part (x.get .c3); have e4 := part (x.get .c4)
  have r1 := rest (x.get .c1); have r2 := rest (x.get .c2); have r3 := rest (x.get .c3); have r4 := rest (x.get .c4)
  rw [asking, Four_total (x.map _)]
  simp only [Four_get_map]
  constructor
  · refine Nat.le_of_mul_le_mul_left ?_ pos
    simp only [Nat.mul_add]
    omega
  · refine Nat.le_of_mul_le_mul_left ?_ pos
    simp only [Nat.mul_add, Nat.mul_sub]
    omega

/-! ### The round, as a list of amounts -/

/-- R48 to R51: the amounts of one grant round, in the order in which the phases give them. -/
structure Amounts where
  rsFloor : Nat
  bcFloor : Nat
  /-- What the floors of RS and BC leave. -/
  afterFloors : Nat
  /-- The carriers' floors. -/
  floors : Four Nat
  rsMore : Nat
  bcMore : Nat
  /-- What is left for the carriers' excess. -/
  left : Nat
  /-- The carriers' excess. -/
  excess : Four Nat

/-- The amounts of a round from effective limit `eff`, with the rotation pointer at `p`. -/
def amounts (eff : Nat) (w : Wants) (p : Carrier) : Amounts :=
  let rsFloor := min w.rs.f eff
  let bcFloor := min w.bc.f (eff - rsFloor)
  let a2 := eff - rsFloor - bcFloor
  let floors := (floorPhase (w.c.map (·.f)) (rotationFrom p) a2 (.all 0)).1
  let a3 := (floorPhase (w.c.map (·.f)) (rotationFrom p) a2 (.all 0)).2
  let rsMore := min (w.rs.r - rsFloor) a3
  let bcMore := min (w.bc.r - bcFloor) (a3 - rsMore)
  { rsFloor := rsFloor, bcFloor := bcFloor, afterFloors := a2, floors := floors, rsMore := rsMore, bcMore := bcMore,
    left := a3 - rsMore - bcMore, excess := (w.c.map (·.r)).zipWith (· - ·) floors }

/-- The carriers' shares of what is left. -/
def Amounts.shares (x : Amounts) : Four Nat := x.excess.map fun xi => x.left * xi / x.excess.total

/-- What the shares leave over. -/
def Amounts.leftover (x : Amounts) : Nat := x.left - x.shares.total

section
variable (eff : Nat) (w : Wants) (p : Carrier)

theorem grantRound_rs : (grantRound eff w p).1.rs = (amounts eff w p).rsFloor + (amounts eff w p).rsMore := rfl

theorem grantRound_bc : (grantRound eff w p).1.bc = (amounts eff w p).bcFloor + (amounts eff w p).bcMore := rfl

theorem grantRound_carrier (c : Carrier) : (grantRound eff w p).1.get c.entry =
    (excessPhase (w.c.map (·.r)) (amounts eff w p).floors (amounts eff w p).left p).1.get c := by cases c <;> rfl

theorem grantRound_ptr : (grantRound eff w p).2 =
    (excessPhase (w.c.map (·.r)) (amounts eff w p).floors (amounts eff w p).left p).2 := rfl

theorem amounts_floor (c : Carrier) : (amounts eff w p).floors.get c =
    min (w.c.get c).f ((amounts eff w p).afterFloors - (((rotationFrom p).takeWhile (· ≠ c)).map fun d => (w.c.get d).f).sum) := by
  have name (d : Carrier) : (w.c.map (·.f)).get d = (w.c.get d).f := Four_get_map _ _ d
  have rule := floorPhase_get (f := w.c.map (·.f)) (rotationFrom_nodup p) (amounts eff w p).afterFloors (.all 0) c
  rw [if_pos (mem_rotationFrom p c), name, funext name] at rule
  exact rule

theorem amounts_left : (amounts eff w p).left = (amounts eff w p).afterFloors - (w.c.map (·.f)).total -
    (amounts eff w p).rsMore - (amounts eff w p).bcMore := by
  have left := floorPhase_left (w.c.map (·.f)) (rotationFrom p) (amounts eff w p).afterFloors (.all 0)
  rw [sum_rotationFrom] at left
  exact congrArg (· - (amounts eff w p).rsMore - (amounts eff w p).bcMore) left

/-- The floors take what the floor phase no longer leaves. -/
theorem floors_total : (amounts eff w p).floors.total =
    min (w.c.map (·.f)).total (amounts eff w p).afterFloors := by
  have rule := amounts_floor eff w p
  simp only [Four_total, Four_get_map] at *
  rw [rule, rule, rule, rule]
  cases p <;> simp only [rotationFrom, List.takeWhile, ne_eq, reduceCtorEq, not_false_eq_true, not_true_eq_false, decide_true,
    decide_false, List.map_cons, List.map_nil, List.sum_cons, List.sum_nil] <;> omega

/-- What RS and BC receive above their floors comes out of what the floors leave. -/
theorem amounts_more : (amounts eff w p).rsMore + (amounts eff w p).bcMore ≤
    (amounts eff w p).afterFloors - (w.c.map (·.f)).total := by
  have left := floorPhase_left (w.c.map (·.f)) (rotationFrom p) (amounts eff w p).afterFloors (.all 0)
  rw [sum_rotationFrom] at left
  rw [Four_total, ← left]
  have within (a b c : Nat) : min a c + min b (c - min a c) ≤ c := by omega
  exact within _ _ _

theorem excessPhase_of_fits {r g : Four Nat} {a : Nat} (h : (r.zipWith (· - ·) g).total ≤ a) (p : Carrier) :
    excessPhase r g a p = (g.zipWith (· + ·) (r.zipWith (· - ·) g), p) := if_pos h

theorem excessPhase_of_shared {r g : Four Nat} {a : Nat} (h : a < (r.zipWith (· - ·) g).total) (p : Carrier) :
    let x := r.zipWith (· - ·) g
    let share := x.map fun xi => a * xi / x.total
    excessPhase r g a p = (handOut x (rotationFrom p) (a - share.total) (g.zipWith (· + ·) share),
      if 0 < a - share.total then nextCarrier p else p) := if_neg (Nat.not_le.mpr h)

/-- R51: where every excess fits, it is given, and the pointer stays. -/
theorem grantRound_of_fits (h : (amounts eff w p).excess.total ≤ (amounts eff w p).left) :
    (∀ c : Carrier, (grantRound eff w p).1.get c.entry = (amounts eff w p).floors.get c + (amounts eff w p).excess.get c) ∧
    (grantRound eff w p).2 = p := by
  have phase := excessPhase_of_fits (r := w.c.map (·.r)) (g := (amounts eff w p).floors) h p
  refine ⟨fun c => ?_, (grantRound_ptr eff w p).trans (congrArg Prod.snd phase)⟩
  rw [grantRound_carrier, phase]
  exact Four_get_zipWith ..

/-- R51: elsewhere each carrier has its share, and one of the leftover milliwatts where its turn comes. -/
theorem grantRound_of_shared (h : (amounts eff w p).left < (amounts eff w p).excess.total) :
    (∀ c : Carrier, (grantRound eff w p).1.get c.entry =
      (amounts eff w p).floors.get c + (amounts eff w p).shares.get c +
        if 0 < (amounts eff w p).excess.get c ∧
          (((rotationFrom p).takeWhile (· ≠ c)).filter fun e => 0 < (amounts eff w p).excess.get e).length <
            (amounts eff w p).leftover then 1 else 0) ∧
    (grantRound eff w p).2 = if 0 < (amounts eff w p).leftover then nextCarrier p else p := by
  have phase := excessPhase_of_shared (r := w.c.map (·.r)) (g := (amounts eff w p).floors) h p
  refine ⟨fun c => ?_, (grantRound_ptr eff w p).trans (congrArg Prod.snd phase)⟩
  rw [grantRound_carrier, phase]
  dsimp only
  rw [handOut_get (rotationFrom_nodup p), Four_get_zipWith]
  simp only [mem_rotationFrom, true_and]
  rfl

/-- R51: all that is left is given where the requests do not fit. -/
theorem excess_of_shared (h : (amounts eff w p).left < (amounts eff w p).excess.total) :
    ((rotationFrom p).map fun c : Carrier => (grantRound eff w p).1.get c.entry).sum =
      (amounts eff w p).floors.total + (amounts eff w p).left := by
  obtain ⟨fits, enough⟩ := shares_leave (amounts eff w p).excess (amounts eff w p).left h
  have given := handOut_sum (x := (amounts eff w p).excess) (rotationFrom_nodup p) (amounts eff w p).leftover
    ((amounts eff w p).floors.zipWith (· + ·) (amounts eff w p).shares)
  have each (c : Carrier) : (grantRound eff w p).1.get c.entry =
      (handOut (amounts eff w p).excess (rotationFrom p) (amounts eff w p).leftover
        ((amounts eff w p).floors.zipWith (· + ·) (amounts eff w p).shares)).get c := by
    rw [grantRound_carrier, excessPhase_of_shared (r := w.c.map (·.r)) (g := (amounts eff w p).floors) h p]
    rfl
  have asking : ((rotationFrom p).filter fun e => 0 < (amounts eff w p).excess.get e).length =
      ([Carrier.c1, .c2, .c3, .c4].filter fun e => 0 < (amounts eff w p).excess.get e).length := by
    simp only [← List.countP_eq_length_filter]
    refine List.Perm.countP_eq _ ?_
    cases p <;> decide
  rw [funext each, given, sum_rotationFrom, asking]
  simp only [Four_get_zipWith, Amounts.leftover, Amounts.shares, Four_total] at *
  omega

/-- R48: a round never gives more than E. -/
theorem grantRound_total_le : (grantRound eff w p).1.total ≤ eff := by
  have carriers := sum_rotationFrom p fun c : Carrier => (grantRound eff w p).1.get c.entry
  have total : (grantRound eff w p).1.total = ((grantRound eff w p).1.get Carrier.c1.entry +
      (grantRound eff w p).1.get Carrier.c2.entry + (grantRound eff w p).1.get Carrier.c3.entry +
      (grantRound eff w p).1.get Carrier.c4.entry) + (grantRound eff w p).1.rs + (grantRound eff w p).1.bc := rfl
  have floors := floors_total eff w p
  have left := amounts_left eff w p
  have parts : (amounts eff w p).afterFloors = eff - (amounts eff w p).rsFloor - (amounts eff w p).bcFloor := rfl
  have rs : (amounts eff w p).rsFloor ≤ eff := Nat.min_le_right ..
  have bc : (amounts eff w p).bcFloor ≤ eff - (amounts eff w p).rsFloor := Nat.min_le_right ..
  have more := amounts_more eff w p
  rw [total, ← carriers, grantRound_rs, grantRound_bc]
  by_cases h : (amounts eff w p).excess.total ≤ (amounts eff w p).left
  · rw [funext (grantRound_of_fits eff w p h).1, sum_rotationFrom]
    simp only [Four_total] at *
    omega
  · rw [excess_of_shared eff w p (Nat.not_le.mp h)]
    omega

end

end Sys2Proof.Machine

/-! What the operations of the blocks keep, in the order of the model: directive engine slots, allocator, talk controller, directives,
message store, break-in selector, playout engine. An operation that computes E, the grants or the relay sets anew keeps the laws
about them because it computes them as the laws say. -/

namespace Sys2Proof.Machine

section
variable {x : Law} {s : State}

/-! ### Slots, levels, events of the allocator -/

@[simp] theorem requestLevels_marked (u : UnitRec) : u.requestLevels.marked = u.marked := by
  unfold UnitRec.requestLevels
  split
  · rfl
  · split <;> rfl

@[simp] theorem requestDrain_marked (u : UnitRec) : u.requestDrain.marked = u.marked := by
  unfold UnitRec.requestDrain
  split
  · split
    · exact requestLevels_marked u
    · rfl
  · rfl

@[simp] theorem requestMode_marked (u : UnitRec) (t : TargetMode) : (u.requestMode t).marked = u.marked := by
  unfold UnitRec.requestMode
  split
  · rfl
  · exact requestDrain_marked _

theorem kept_setApplied (k : SegId) (v : Option (Six Nat)) : Kept x s (s.setApplied k v) :=
  (kept_unit (k := k) rfl).trans (kept_meters ..)

theorem kept_engineTakesGrants (k : SegId) : Kept x s (engineTakesGrants k s) :=
  Kept.ite (fun _ => kept_unit (requestLevels_marked _)) fun _ => .refl s

theorem kept_raiseGrantChange (k : SegId) (old new : Six Nat) (e : Entry) : Kept x s (raiseGrantChange k old new s e) :=
  Kept.ite (fun _ => .refl s) fun _ => kept_raise ..

/-! ### Grant rounds -/

@[simp] theorem withGrants_grants (a : AllocSeg) (g : Six Nat) (p : Carrier) :
    ({ a.withGrants g with ptr := p } : AllocSeg).grants = g := rfl

/-- R48: the grants that a round writes are within E; in SETUP no round runs. -/
theorem kept_newGrants (hx : x ≠ .relays) (k : SegId) (hr : s.sys.part = .run) :
    Kept x s (s.modAseg k fun a => { a.withGrants (s.roundResult k).1 with ptr := (s.roundResult k).2 }) := by
  cases x with
  | relays => exact absurd rfl hx
  | grants =>
    rintro ⟨bound, setup⟩
    refine ⟨fun j hj => ?_, fun hs => ?_⟩
    · rw [modAseg_aseg]
      split
      · next e => subst e; exact grantRound_total_le ..
      · exact bound j hj
    · rw [modAseg_sys, hr] at hs
      exact absurd hs (by decide)
  | _ => first | exact id | rfl

theorem kept_runRound (k : SegId) : Kept x s (runRound k s) := by
  by_cases h : s.sys.part = .run ∧ k.val < s.loop.n
  · rw [runRound, if_pos h]
    dsimp only
    refine Kept.trans ?_ (kept_engineTakesGrants k)
    by_cases hx : x = .relays
    · subst hx
      exact fun _ => refreshRelay_right _
    · exact ((kept_newGrants hx k h.1).trans (Kept.foldl (fun _ _ => kept_raiseGrantChange ..) _ _)).trans kept_refreshRelay
  · rw [runRound, if_neg h]
    exact .refl s

theorem kept_roundsWhereChanged (old : AllocRec) : Kept x s (roundsWhereChanged old s) :=
  Kept.forSegs (fun k t => Kept.ite (fun _ => .refl t) fun _ => kept_runRound k) s

/-- The entries of a segment change, but for its grants. -/
theorem kept_writeEntries {m : SegSet} {f : AllocSeg → AllocSeg} (hf : ∀ a, (f a).grants = a.grants) :
    Kept x s (writeEntries m f s) :=
  (Kept.forSet (fun _ _ => kept_aseg (hf _)) s).trans (kept_roundsWhereChanged _)

theorem kept_writeEntry {k : SegId} {f : AllocSeg → AllocSeg} (hf : ∀ a, (f a).grants = a.grants) :
    Kept x s (writeEntry k f s) :=
  Kept.ite (fun _ => kept_aseg (hf _)) fun _ => (kept_aseg (hf _)).trans (kept_runRound k)

theorem kept_setActivity (b : Bool) : Kept x s (setActivity b s) :=
  (kept_activity b).trans (Kept.forSegs (fun k _ => kept_runRound k) _)

theorem kept_setAllocLevel (l : Level) : Kept x s (allocLevel l s) :=
  (kept_allocLevel l).trans (Kept.forSegs (fun k _ => kept_runRound k) _)

theorem withCarrier_grants (a : AllocSeg) (c : Carrier) (e : CarrierEntry) (he : e.grant = (a.c.get c).grant) :
    ({ a with c := a.c.set c e } : AllocSeg).grants = a.grants := by
  cases c <;> simp only [AllocSeg.grants, Four.set, he, Four.get]

theorem kept_suspendEntry (k : SegId) (c : Carrier) : Kept x s (suspendEntry k c s) :=
  Kept.ite (fun _ => .refl s) fun _ =>
    ((kept_aseg (by exact withCarrier_grants _ _ _ rfl)).trans (kept_raise ..)).trans (kept_runRound k)

/-! ### The effective limit -/

/-- E is no part of what the limit is computed from. -/
theorem limitOf_withEff (r : SegRec) (e : Nat) (m : Bool) (d : Nat) : limitOf { r with eff := e } m d = limitOf r m d := rfl

theorem modSeg_eff_seg (s : State) (k j : SegId) (e : Nat) :
    (s.modSeg k fun r => { r with eff := e }).seg j = { s.seg j with eff := if k = j then e else (s.seg j).eff } := by
  rw [modSeg_seg]
  split
  · next h => subst h; rfl
  · rfl

/-- A block's own records are not what the others' operations write. -/
theorem raiseGrantChanges_alloc (k : SegId) (g g' : Six Nat) (l : List Entry) (s : State) :
    (l.foldl (raiseGrantChange k g g') s).alloc = s.alloc := by
  induction l generalizing s with
  | nil => rfl
  | cons e l ih =>
    rw [List.foldl_cons, ih]
    unfold raiseGrantChange
    split <;> rfl

theorem engineTakesGrants_alloc (k : SegId) (s : State) : (engineTakesGrants k s).alloc = s.alloc := by
  unfold engineTakesGrants
  split <;> rfl

/-- R48, R52: in RUN a round gives grants and pointer in its segment; every other entry stays. -/
theorem runRound_aseg (k j : SegId) (s : State) :
    (runRound k s).aseg j =
      if s.sys.part = .run ∧ k.val < s.loop.n ∧ k = j then
        { (s.aseg k).withGrants (s.roundResult k).1 with ptr := (s.roundResult k).2 }
      else s.aseg j := by
  by_cases h : s.sys.part = .run ∧ k.val < s.loop.n
  · have alloc : (runRound k s).alloc =
        (s.modAseg k fun a => { a.withGrants (s.roundResult k).1 with ptr := (s.roundResult k).2 }).alloc := by
      rw [runRound, if_pos h]
      exact (engineTakesGrants_alloc ..).trans (raiseGrantChanges_alloc ..)
    rw [show (runRound k s).aseg j = _ from congrArg (fun a : AllocRec => a.segs[j]) alloc]
    simp only [h, true_and]
    exact modAseg_aseg s k j _
  · rw [runRound, if_neg h, if_neg fun g => h ⟨g.1, g.2.1⟩]

/-- What a round leaves of the limits' inputs: everything. -/
theorem runRound_loop (k : SegId) (s : State) : (runRound k s).loop = s.loop := by
  unfold runRound
  split
  · dsimp only
    have raised (t : State) (l : List Entry) (g g' : Six Nat) : (l.foldl (raiseGrantChange k g g') t).loop = t.loop := by
      induction l generalizing t with
      | nil => rfl
      | cons e l ih =>
        rw [List.foldl_cons, ih]
        unfold raiseGrantChange
        split <;> rfl
    have engine (t : State) : (engineTakesGrants k t).loop = t.loop := by
      unfold engineTakesGrants
      split <;> rfl
    rw [engine]
    exact raised ..
  · rfl

/-- R21: E of the segment is right after a recomputation, and the others' E is as before. -/
theorem recomputeLimit_seg (k j : SegId) (s : State) :
    (recomputeLimit k s).seg j =
      { s.seg j with eff := if k = j then limitOf (s.seg k) (s.unit k).marked s.loop.derate else (s.seg j).eff } := by
  unfold recomputeLimit
  dsimp only
  split
  · next h =>
    split
    · next e => subst e; rw [h]
    · rfl
  · have loop := runRound_loop k (s.modSeg k fun r =>
      { r with eff := limitOf (s.seg k) (s.unit k).marked s.loop.derate })
    rw [show (runRound k _).seg j = _ from congrArg (fun l : LoopRec => l.segs[j]) loop]
    exact modSeg_eff_seg s k j _

theorem recomputeLimit_marked (k j : SegId) (s : State) : ((recomputeLimit k s).unit j).marked = (s.unit j).marked := by
  have settings := congrArg UnitRec.marked ((recomputeLimit_undisturbed k s).unit j)
  exact settings

theorem recomputeLimit_derate (k : SegId) (s : State) : (recomputeLimit k s).loop.derate = s.loop.derate := by
  have loop := congrArg LoopRec.derate (recomputeLimit_undisturbed k s).loop
  exact loop

/-- After a recomputation the limit of `k` is right; another's is right where it was, on inputs that the recomputation leaves. -/
theorem recomputeLimit_right {k : SegId} {s : State}
    (h : ∀ j : SegId, j ≠ k → j.val < s.loop.n → (s.seg j).eff = limitOf (s.seg j) (s.unit j).marked s.loop.derate) :
    LimitsRight (recomputeLimit k s) := by
  intro j hj
  rw [(recomputeLimit_undisturbed k s).n] at hj
  rw [recomputeLimit_seg, recomputeLimit_marked, recomputeLimit_derate, limitOf_withEff]
  by_cases e : k = j
  · subst e
    exact if_pos rfl
  · simp only [if_neg e]
    exact h j (Ne.symm e) hj

/-- R21, R55: a new E, with the round that it asks for. In SETUP the grants are 0, so any E bounds them. -/
theorem kept_newLimit (hx : x ≠ .limits) (k : SegId) (e : Nat) :
    Kept x s (runRound k (s.modSeg k fun r => { r with eff := e })) := by
  cases x with
  | limits => exact absurd rfl hx
  | grants =>
    rintro ⟨bound, setup⟩
    have n : (runRound k (s.modSeg k fun r => { r with eff := e })).loop.n = s.loop.n :=
      (runRound_undisturbed k _).n
    have sys : (runRound k (s.modSeg k fun r => { r with eff := e })).sys = s.sys := (runRound_undisturbed k _).sys
    have eff (j : SegId) : ((runRound k (s.modSeg k fun r => { r with eff := e })).seg j).eff =
        if k = j then e else (s.seg j).eff := by
      rw [show (runRound k _).seg j = _ from congrArg (fun l : LoopRec => l.segs[j]) (runRound_loop k _)]
      exact congrArg SegRec.eff (modSeg_eff_seg s k j e)
    refine ⟨fun j hj => ?_, fun hs j => ?_⟩
    · rw [n] at hj
      rw [eff, runRound_aseg]
      by_cases hk : k = j
      · subst hk
        cases hp : s.sys.part with
        | run =>
          rw [if_pos ⟨hp, hj, rfl⟩, withGrants_grants]
          refine Nat.le_trans (grantRound_total_le ..) ?_
          rw [modSeg_eff_seg]
        | setup =>
          rw [if_neg (by simp [hp]), show ((s.modSeg k _).aseg k).grants = zeroLevels from setup hp k]
          exact Nat.zero_le _
      · rw [if_neg (fun g => hk g.2.2), if_neg hk]
        exact bound j hj
    · rw [sys] at hs
      rw [runRound_aseg, if_neg (by simp [hs])]
      exact setup hs j
  | settings =>
    refine Kept.trans (x := .settings) ?_ (kept_runRound k)
    intro h
    have limit (j : SegId) : ((s.modSeg k fun r => { r with eff := e }).seg j).limit = (s.seg j).limit := by
      rw [modSeg_eff_seg]
    simp only [SettingsInRange, limit]
    exact h
  | _ =>
    refine Kept.trans ?_ (kept_runRound k)
    first | exact id | rfl

/-- R21: a recomputation keeps every law, the limits because it makes them right. -/
theorem kept_recomputeLimit (k : SegId) : Kept x s (recomputeLimit k s) := by
  by_cases hx : x = .limits
  · subst hx
    exact fun h => recomputeLimit_right fun j _ hj => h j hj
  · exact Kept.ite (fun _ => .refl s) fun _ => kept_newLimit hx k _

/-- R21, R35: a unit record changes, its mark too, and E is recomputed. -/
theorem kept_mark (k : SegId) (f : UnitRec → UnitRec) : Kept x s (recomputeLimit k (s.modUnit k f)) := by
  by_cases hx : x = .limits
  · subst hx
    refine fun h => recomputeLimit_right fun j hj hn => ?_
    rw [modUnit_unit, if_neg (Ne.symm hj)]
    exact h j hn
  · refine Kept.trans ?_ (kept_recomputeLimit k)
    cases x with
    | limits => exact absurd rfl hx
    | _ => first | exact id | rfl

/-- R19, R22: a segment record changes, but for its E, and E is recomputed. -/
theorem kept_segLimit {k : SegId} {f : SegRec → SegRec} (he : (f (s.seg k)).eff = (s.seg k).eff)
    (hl : x = .settings → (f (s.seg k)).limit ≤ 8000 ∨ (f (s.seg k)).limit = (s.seg k).limit) :
    Kept x s (recomputeLimit k (s.modSeg k f)) := by
  by_cases hx : x = .limits
  · subst hx
    refine fun h => recomputeLimit_right fun j hj hn => ?_
    rw [modSeg_seg, if_neg (Ne.symm hj)]
    exact h j hn
  · refine Kept.trans ?_ (kept_recomputeLimit k)
    cases x with
    | limits => exact absurd rfl hx
    | grants =>
      have eff (j : SegId) : ((s.modSeg k f).seg j).eff = (s.seg j).eff := by
        rw [modSeg_seg]
        split
        · next e => subst e; exact he
        · rfl
      exact fun h => ⟨fun j hj => by rw [eff]; exact h.1 j hj, h.2⟩
    | settings =>
      rintro ⟨n, run, p₁, p₂, p₃, d₁, d₂, limits, rest⟩
      refine ⟨n, run, p₁, p₂, p₃, d₁, d₂, fun j => ?_, rest⟩
      rw [modSeg_seg]
      split
      · next e => subst e; exact (hl rfl).elim id fun same => same ▸ limits k
      · exact limits j
    | _ => first | exact id | rfl

/-! ### The talk controller -/

theorem KeyRule.floorIn {t : TalkRec} (now : Word) (vote : Option SegId) {p : Option TalkSide} 
    (hk : t.key = .keyed ↔ p = some .outbound) : KeyRule (Machine.floorIn now vote p t) := by
  refine ⟨?_, ?_, ?_⟩ <;> simp [Machine.floorIn, hk]

theorem KeyRule.floorOut {t : TalkRec} (now : Word) (p : Option TalkSide) (hk : t.key = .keyed) :
    KeyRule (Machine.floorOut now p t) := by
  refine ⟨?_, ?_, ?_⟩ <;> simp [Machine.floorOut, hk]

theorem KeyRule.floorHang {t : TalkRec} (now : Word) (hangMs : Nat) (side : TalkSide) (hk : t.key ≠ .keyed) :
    KeyRule (Machine.floorHang now hangMs side t) := by
  refine ⟨?_, ?_, ?_⟩ <;> simp [Machine.floorHang, hk] <;> split <;> simp

/-- R88, R89: the floor's reaction to a claim. -/
theorem KeyRule.floorTable {t : TalkRec} (h : KeyRule t) (now : Word) (hangMs : Nat) (claim : Bool) (vote kept : Option SegId) :
    KeyRule (Machine.floorTable now hangMs claim vote kept t) := by
  obtain ⟨keyed, idle, hang⟩ := h
  unfold Machine.floorTable
  split
  · next hf _ => exact .floorIn now vote (by simp_all)
  · exact ⟨keyed, idle, hang⟩
  · exact ⟨keyed, idle, hang⟩
  · next hf _ =>
    split
    · next hp => exact .floorOut now none (keyed.mpr (.inr hp))
    · next hp => exact .floorHang now hangMs _ (by simp_all)
  · next hf =>
    have isKeyed : t.key = .keyed := keyed.mpr (.inl hf)
    refine ⟨?_, ?_, ?_⟩ <;> simp [hf, isKeyed]
  · next claim hf =>
    split
    · next hs =>
      have unkeyed : t.key ≠ .keyed := by simp [keyed, hf, hang hf hs]
      refine ⟨?_, ?_, ?_⟩ <;> cases claim <;> simp [hf, unkeyed]
    · split
      · exact .floorIn now vote (by simp_all)
      · exact ⟨keyed, idle, hang⟩

@[simp] theorem floorTable_frame (now : Word) (hangMs : Nat) (claim : Bool) (vote kept : Option SegId) (t : TalkRec) :
    (floorTable now hangMs claim vote kept t).coverage = t.coverage ∧
    (floorTable now hangMs claim vote kept t).relay = t.relay ∧ (floorTable now hangMs claim vote kept t).key = t.key ∧
    (floorTable now hangMs claim vote kept t).barred = t.barred := by
  unfold floorTable floorIn floorOut floorHang
  split <;> (try split) <;> (try split) <;> exact ⟨rfl, rfl, rfl, rfl⟩

theorem kept_reactFloor (c : Chan) : Kept x s (reactFloor c s) := by
  rw [reactFloor_eq]
  have frame := floorTable_frame s.sys.uptime s.talk.hangMs (eligibleSet s c ≠ 0) (bestVote s c) (revote s c) (s.chan c)
  obtain ⟨coverage, relay, key, -⟩ := frame
  exact kept_chan coverage relay fun _ h => ⟨h.floorTable .., fun now => .inl (key ▸ now)⟩

theorem kept_reactBoth : Kept x s (reactBoth s) := (kept_reactFloor .t1).trans (kept_reactFloor .t2)

end

end Sys2Proof.Machine

/-! What the operations of the talk controller, the directive engine, the loop controller and the message store keep. -/

namespace Sys2Proof.Machine

section
variable {x : Law} {s : State}

/-! ### The uplink table -/

theorem kept_writeUplink (k : SegId) (c : Chan) (u : UplinkRec) : Kept x s (writeUplink k c u s) :=
  Kept.ite (fun _ => (kept_uplinkTable _ s.talk.seq).trans (kept_chan rfl rfl fun _ h => ⟨h, .inl⟩))
    fun _ => kept_uplinkTable _ s.talk.seq

theorem kept_clearUplink (k : SegId) : Kept x s (clearUplink k s) := (kept_writeUplink ..).trans (kept_writeUplink ..)

theorem kept_setSeq (k : SegId) (q : Option Byte) : Kept x s (setSeq k q s) := kept_uplinkTable s.talk.uplink _

/-! ### Keys and timers -/

/-- A floor that is left on the outbound side with the key no longer keyed. -/
theorem KeyRule.floorEnd {t : TalkRec} (now : Word) (hangMs : Nat) (vote : Option SegId) {y : KeyState} (hy : y ≠ .keyed) :
    KeyRule { Machine.floorEnd now hangMs vote t with key := y } := by
  rw [← floorEnd_key]
  unfold Machine.floorEnd
  split
  · exact .floorIn now vote (by simp [hy])
  · exact .floorHang now hangMs _ hy

@[simp] theorem floorEnd_frame (now : Word) (hangMs : Nat) (vote : Option SegId) (t : TalkRec) :
    (floorEnd now hangMs vote t).coverage = t.coverage ∧ (floorEnd now hangMs vote t).relay = t.relay ∧
    (floorEnd now hangMs vote t).key = t.key ∧ (floorEnd now hangMs vote t).barred = t.barred := by
  unfold floorEnd floorIn floorHang
  split <;> exact ⟨rfl, rfl, rfl, rfl⟩

theorem kept_expireTot (c : Chan) : Kept x s (expireTot c s) := by
  rw [expireTot_eq]
  cases hf : (s.chan c).floor with
  | inbound =>
    by_cases hp : (s.chan c).pending = some .outbound
    · refine kept_chan ?_ ?_ fun _ ⟨keyed, _, _⟩ => ?_ <;> simp only [floorTot, hf, hp, if_true]
      · rfl
      · rfl
      · have isKeyed : (s.chan c).key = .keyed := keyed.mpr (.inr hp)
        exact ⟨.floorOut _ none isKeyed, fun _ => .inl isKeyed⟩
    · refine kept_chan ?_ ?_ fun _ ⟨keyed, _, _⟩ => ?_ <;> simp only [floorTot, hf, if_neg hp]
      · rfl
      · rfl
      · have unkeyed : (s.chan c).key ≠ .keyed := by simp [keyed, hf, hp]
        exact ⟨.floorHang _ _ _ unkeyed, fun now => .inl now⟩
  | outbound =>
    obtain ⟨coverage, relay, -, -⟩ := floorEnd_frame s.sys.uptime s.talk.hangMs (bestVote s c) (s.chan c)
    refine kept_chan ?_ ?_ fun _ _ => ?_ <;> simp only [floorTot, hf]
    · exact coverage
    · exact relay
    · exact ⟨.floorEnd _ _ _ (by decide), fun now => absurd now (by decide)⟩
  | idle | hang =>
    rw [modChan_of_fixed (by simp only [floorTot, hf])]
    exact .refl s

theorem kept_retime (old : Option Nat) : Kept x s (retime old s) := by
  refine Kept.ite (fun _ => .refl s) fun _ => ?_
  have first : Kept x s (if totDue s .t1 then expireTot .t1 s else s) := Kept.ite (fun _ => kept_expireTot .t1) fun _ => .refl s
  exact first.trans (Kept.ite (fun _ => kept_expireTot .t2) fun _ => .refl _)

theorem kept_talkFinish (before : State) : Kept x s (talkFinish before s) := by
  have told (c : Chan) (t : State) : Kept x t (raiseTalkIfChanged before c t) :=
    Kept.ite (fun _ => .refl t) fun _ => kept_raise ..
  exact ((told .t1 s).trans (told .t2 _)).trans (Kept.ite (fun _ => .refl _) fun _ => kept_setActivity _)

theorem kept_keyFloor (c : Chan) (live : s.ports.e.lapsed = false) : Kept x s (keyFloor c s) := by
  rw [keyFloor_eq]
  refine kept_chan ?_ ?_ fun _ h => ⟨?_, fun _ => .inr live⟩
  · unfold floorKey floorOut; split <;> rfl
  · unfold floorKey floorOut; split <;> rfl
  · unfold floorKey
    split
    · exact .floorOut (t := { s.chan c with key := .keyed }) _ none rfl
    · next hf => refine ⟨?_, ?_, ?_⟩ <;> simp [hf]
    · exact h
    · exact .floorOut (t := { s.chan c with key := .keyed }) _ _ rfl
    · next hf hs => refine ⟨?_, ?_, ?_⟩ <;> simp_all

theorem kept_keyPriority (c : Chan) (live : s.ports.e.lapsed = false) : Kept x s (keyPriority c s) := by
  rw [keyPriority_eq]
  refine kept_chan ?_ ?_ fun _ _ => ⟨?_, fun _ => .inr live⟩
  · unfold floorPriority floorOut; dsimp only; split <;> split <;> rfl
  · unfold floorPriority floorOut; dsimp only; split <;> split <;> rfl
  · unfold floorPriority
    dsimp only
    have floor : (if (s.chan c).floor = .inbound ∨ (s.chan c).pending = some .inbound then
        { s.chan c with barred := (s.chan c).barred ||| carriersUp s c } else s.chan c).floor = (s.chan c).floor := by
      split <;> rfl
    generalize (if (s.chan c).floor = .inbound ∨ (s.chan c).pending = some .inbound then
      { s.chan c with barred := (s.chan c).barred ||| carriersUp s c } else s.chan c) = u at floor ⊢
    split
    · next hf => refine ⟨?_, ?_, ?_⟩ <;> simp [floor, hf]
    · exact .floorOut (t := { u with key := .keyed }) _ none rfl

/-- R92: an unkeyed key. -/
theorem KeyRule.floorUnkey {t : TalkRec} (h : KeyRule t) (now : Word) (hangMs : Nat) (vote : Option SegId) :
    KeyRule (Machine.floorUnkey now hangMs vote t) := by
  obtain ⟨keyed, idle, hang⟩ := h
  unfold Machine.floorUnkey
  split
  · exact .floorEnd now hangMs vote (by decide)
  · next hk hf => refine ⟨?_, ?_, ?_⟩ <;> simp_all
  · next hk => refine ⟨?_, ?_, ?_⟩ <;> simp_all
  · exact ⟨keyed, idle, hang⟩

theorem floorUnkey_frame (now : Word) (hangMs : Nat) (vote : Option SegId) (t : TalkRec) :
    (floorUnkey now hangMs vote t).coverage = t.coverage ∧ (floorUnkey now hangMs vote t).relay = t.relay ∧
    (floorUnkey now hangMs vote t).key = .unkeyed := by
  obtain ⟨coverage, relay, -, -⟩ := floorEnd_frame now hangMs vote t
  unfold floorUnkey
  split
  · exact ⟨coverage, relay, rfl⟩
  · exact ⟨rfl, rfl, rfl⟩
  · exact ⟨rfl, rfl, rfl⟩
  · next hk => exact ⟨rfl, rfl, hk⟩

theorem kept_unkeyFloor (c : Chan) : Kept x s (unkeyFloor c s) := by
  rw [unkeyFloor_eq]
  obtain ⟨coverage, relay, key⟩ := floorUnkey_frame s.sys.uptime s.talk.hangMs (bestVote s c) (s.chan c)
  exact kept_chan coverage relay fun _ h => ⟨h.floorUnkey .., fun now => absurd (key.symm.trans now) (by decide)⟩

theorem kept_expireHang (c : Chan) : Kept x s (expireHang c s) := by
  rw [expireHang_eq]
  refine kept_chan ?_ ?_ fun _ h => ?_
  · unfold floorHangEnd floorOut floorIn; split <;> rfl
  · unfold floorHangEnd floorOut floorIn; split <;> rfl
  · obtain ⟨keyed, idle, hang⟩ := h
    unfold floorHangEnd
    split
    · next hf hp => exact ⟨.floorOut _ none (keyed.mpr (.inr hp)), fun _ => .inl (keyed.mpr (.inr hp))⟩
    · next hf hp => exact ⟨.floorIn _ _ (by simp [keyed, hf, hp]), fun now => .inl now⟩
    · next hf hp =>
      have unkeyed : (s.chan c).key ≠ .keyed := by simp [keyed, hf, hp]
      exact ⟨by refine ⟨?_, ?_, ?_⟩ <;> simp [unkeyed], fun now => .inl now⟩
    · exact ⟨⟨keyed, idle, hang⟩, .inl⟩

theorem kept_setTalkLevel (l : Level) : Kept x s (talkLevel l s) :=
  ((kept_talkLevel l).trans (kept_retime _)).trans (kept_talkFinish s)

/-! ### The directive engine -/

theorem kept_modFlight (k : SegId) (f : Directive → Directive) : Kept x s (modFlight k f s) := kept_unit rfl

theorem kept_sendDirective (k : SegId) (d : Side) (b : DirectiveBody) : Kept x s (sendDirective k d b s) := kept_transmit ..

theorem kept_openWindow (k : SegId) (n : DStep) : Kept x s (openWindow k n s) := (kept_modFlight ..).trans (kept_unit rfl)

theorem kept_sendMain (k : SegId) (d : Directive) : Kept x s (sendMain k d s) :=
  (kept_sendDirective ..).trans (kept_openWindow ..)

theorem kept_sendRouse2 (k : SegId) (d : Directive) : Kept x s (sendRouse2 k d s) :=
  (kept_sendDirective ..).trans (kept_openWindow ..)

theorem kept_sendRouse1 (k : SegId) (d : Directive) : Kept x s (sendRouse1 k d s) :=
  (kept_sendDirective ..).trans (kept_modFlight ..)

theorem kept_startAttempt (k : SegId) (d : Directive) (n : Nat) (side : Side) : Kept x s (startAttempt k d n side s) :=
  Kept.ite (fun _ => (kept_unit rfl).trans (kept_sendRouse1 ..)) fun _ => (kept_unit rfl).trans (kept_sendMain ..)

theorem kept_pauseDirective (k : SegId) (d : Directive) (n : Nat) : Kept x s (pauseDirective k d n s) := kept_unit rfl

theorem kept_dueAttempt (k : SegId) (d : Directive) (n : Nat) (side : Side) : Kept x s (dueAttempt k d n side s) :=
  Kept.ite (fun _ => kept_startAttempt ..) fun _ => kept_pauseDirective ..

theorem kept_dueStep (k : SegId) (d : Directive) {send : State → State} (h : Kept x s (send s)) : Kept x s (dueStep k d send s) :=
  Kept.ite (fun _ => h) fun _ => kept_pauseDirective ..

theorem kept_launch (k : SegId) (c : Content) (rouse : Bool) : Kept x s (launch k c rouse s) := kept_startAttempt ..

theorem kept_endDirective (k : SegId) : Kept x s (endDirective k s) := kept_unit rfl

theorem kept_clearMark (k : SegId) : Kept x s (clearMark k s) := kept_mark ..

theorem kept_failDirective (k : SegId) (d : Directive) (r : FailReason) : Kept x s (failDirective k d r s) :=
  Kept.ite (fun _ => kept_endDirective k) fun _ =>
    have dropped : Kept x s ((raiseFailed k d r s).modUnit k UnitRec.drop) := (kept_raise ..).trans (kept_unit rfl)
    Kept.ite (fun _ => dropped.trans (kept_mark ..)) fun _ => dropped

theorem kept_nextAttempt (k : SegId) (d : Directive) (r : FailReason) : Kept x s (nextAttempt k d r s) :=
  Kept.ite (fun _ => kept_endDirective k) fun _ => Kept.ite (fun _ => kept_dueAttempt ..) fun _ =>
    Kept.ite (fun _ => kept_dueAttempt ..) fun _ => kept_failDirective ..

theorem kept_resumeDirective (k : SegId) : Kept x s (resumeDirective k s) := by
  unfold resumeDirective
  split
  · split
    · exact Kept.ite (fun _ => kept_failDirective ..) fun _ => kept_startAttempt ..
    · exact .refl s
  · exact .refl s

theorem kept_issue (k : SegId) : Kept x s (issue k s) := by
  unfold issue
  split
  · exact .refl s
  · exact Kept.ite (fun _ => (kept_unit rfl).trans (kept_setApplied ..)) fun _ => (kept_unit rfl).trans (kept_launch ..)
  · exact Kept.ite (fun _ => kept_unit rfl) fun _ => (kept_unit rfl).trans (kept_launch ..)
  · exact (kept_unit rfl).trans (kept_launch ..)

theorem kept_issueProbe (k : SegId) : Kept x s (issueProbe k s) :=
  Kept.ite (fun _ => Kept.ite (fun _ => (kept_setApplied ..).trans (kept_clearMark k)) fun _ => kept_launch ..) fun _ => .refl s

/-- R30: the applied levels after an ACK to the MAIN frame. -/
def ackStored (k : SegId) (c : Content) (m : UnitMode) (t : State) : State :=
  match ackLevels c m with
  | some v => t.setApplied k (some v)
  | none => t

/-- R30, R35: what an ACK to the MAIN frame asks for after it. -/
def ackFollowed (k : SegId) (c : Content) (m : UnitMode) (t : State) : State :=
  match c, m with
  | .probe, _ => clearMark k t
  | .levels _, .active => if (t.unit k).behind (t.aseg k).grants then t.modUnit k UnitRec.requestLevels else t
  | _, _ => t

theorem takeAck_eq (k : SegId) (d : Directive) (m : UnitMode) (s : State) :
    takeAck k d m s =
      (ackFollowed k d.content m (ackStored k d.content m (endDirective k s))).modUnit k UnitRec.requestDrain := rfl

theorem kept_takeAck (k : SegId) (d : Directive) (m : UnitMode) : Kept x s (takeAck k d m s) := by
  have stored (t : State) : Kept x t (ackStored k d.content m t) := by
    unfold ackStored
    split
    · exact kept_setApplied ..
    · exact .refl t
  have followed (t : State) : Kept x t (ackFollowed k d.content m t) := by
    unfold ackFollowed
    split
    · exact kept_clearMark k
    · exact Kept.ite (fun _ => kept_unit (requestLevels_marked _)) fun _ => .refl t
    · exact .refl t
  rw [takeAck_eq]
  exact (((kept_endDirective k).trans (stored _)).trans (followed _)).trans (kept_unit (requestDrain_marked _))

theorem kept_takeWrongUnit (k : SegId) : Kept x s (takeWrongUnit k s) :=
  (kept_unit (k := k) rfl).trans (kept_seg rfl rfl fun _ => rfl)

theorem kept_takeAsleep (k : SegId) (d : Directive) : Kept x s (takeAsleep k d s) := by
  have zeroed : Kept x s (s.setApplied k (some zeroLevels)) := kept_setApplied ..
  unfold takeAsleep
  split
  · exact zeroed.trans (kept_endDirective k)
  · exact (zeroed.trans (kept_endDirective k)).trans (kept_clearMark k)
  · refine zeroed.trans ?_
    exact Kept.ite (fun _ => kept_endDirective k) fun _ => Kept.ite (fun _ => kept_endDirective k) fun _ =>
      Kept.ite (fun _ => kept_endDirective k) fun _ => Kept.ite (fun _ => kept_nextAttempt ..) fun _ => kept_dueAttempt ..

theorem kept_takeReply (k : SegId) (d : Directive) (o : ReplyOutcome) : Kept x s (takeReply k d o s) := by
  have rating : Kept x s (takeRating k d s) := Kept.ite (fun _ => .refl s) fun _ => kept_failDirective ..
  unfold takeReply
  split
  · exact kept_takeAck ..
  · exact kept_takeAsleep ..
  · exact kept_takeAsleep ..
  · exact rating
  · exact rating
  · exact kept_takeWrongUnit k
  · exact .refl s
  · exact Kept.ite (fun _ => kept_failDirective ..) fun _ => .refl s
  · exact kept_failDirective ..
  · exact kept_modFlight ..
  · exact kept_dueStep k d (kept_sendMain k d)
  · exact .refl s

theorem kept_directiveReply (frame : List Byte) : Kept x s (directiveReply frame s) := by
  unfold directiveReply
  split
  · exact .refl s
  · split
    · exact .refl s
    · split
      · exact kept_takeReply ..
      · exact .refl s

theorem kept_replyTimeout (k : SegId) : Kept x s (replyTimeout k s) := by
  unfold replyTimeout
  split
  · exact Kept.ite (fun _ => (kept_unit rfl).trans (kept_nextAttempt ..)) fun _ => .refl s
  · exact .refl s

theorem kept_rouseWaitExpiry (k : SegId) : Kept x s (rouseWaitExpiry k s) := by
  unfold rouseWaitExpiry
  split
  · next d _ =>
    refine Kept.ite (fun _ => kept_dueStep k d ?_) fun _ => .refl s
    split
    · exact kept_sendMain k d
    · exact kept_sendRouse2 k d
  · exact .refl s

/-! ### The loop controller -/

theorem kept_reconcile (k : SegId) : Kept x s (reconcile k s) := by
  unfold reconcile
  refine Kept.ite (fun _ => ?_) fun _ => .refl s
  split
  · exact kept_unit (requestMode_marked ..)
  · exact .refl s

theorem kept_commandMode (k : SegId) (m : TargetMode) : Kept x s (commandMode k m s) :=
  (kept_segLimit rfl fun _ => .inr rfl).trans (Kept.forSegs (fun k _ => kept_reconcile k) _)

/-- R16: an acquisition clears the mark, so E is computed anew after it. -/
theorem kept_acquireRecords (hx : x ≠ .limits) (k : SegId) : Kept x s (acquireRecords k s) := by
  unfold acquireRecords
  refine Kept.trans ?_ (kept_meters ..)
  refine Kept.trans ?_ (kept_setSeq k none)
  refine Kept.trans ?_ (kept_clearUplink k)
  have acquired : Kept x s (s.modSeg k fun r => { r with acquired := true }) := kept_seg rfl rfl fun h => absurd h hx
  refine (acquired.trans (kept_setApplied k none)).trans ?_
  cases x with
  | limits => exact absurd rfl hx
  | _ => first | exact id | rfl

/-- What a round or a survey writes of the loop controller's record. -/
theorem kept_surveys (hx : x ≠ .loop) (v : Pair SurveyState) : Kept x s { s with loop.surveys := v } := by
  cases x with
  | loop => exact absurd rfl hx
  | _ => first | exact id | rfl

theorem kept_startSurvey (hx : x ≠ .loop) (d : Side) : Kept x s (startSurvey d s) :=
  Kept.ite (fun _ => (kept_surveys hx _).trans (kept_transmit ..)) fun _ => kept_surveys hx _

theorem kept_startRound (hx : x ≠ .loop) : Kept x s (startRound s) := by
  have timer : Kept x s { s with loop.round := s.loop.round + 1, loop.timerStart := s.sys.uptime,
                                 loop.timerPeriod := s.loop.period } := by
    cases x with
    | loop => exact absurd rfl hx
    | _ => first | exact id | rfl
  exact (timer.trans (kept_startSurvey hx .left)).trans (kept_startSurvey hx .right)

/-! ### The message store -/

theorem kept_changeMessage (hx : x ≠ .store) {i : MsgId} {c : MsgContent} (cause : MsgCause)
    (hc : ∀ m, c.body? = some m → ∃ m', (s.msg i).content.body? = some m' ∧ m'.first = m.first ∧ m'.blocks = m.blocks) :
    Kept x s (changeMessage i c cause s) := (kept_msg hx hc).trans (kept_raise ..)

/-- R111: the count of a message after a channel's program changes. -/
def usesAfter (old new : Option Program) (i : MsgId) (n : Nat) : Nat :=
  match programNames old i, programNames new i with
  | true, false => n - 1
  | false, true => n + 1
  | _, _ => n

theorem adjustUses_msg (old new : Option Program) (s : State) (i : MsgId) :
    (adjustUses old new s).msg i = { s.msg i with uses := usesAfter old new i (s.msg i).uses } := by
  simp only [State.msg, adjustUses, usesAfter, Fin.getElem_fin, Vector.getElem_ofFn]
  cases programNames old i <;> cases programNames new i <;> rfl

theorem kept_adjustUses (hx : x ≠ .store) (old new : Option Program) : Kept x s (adjustUses old new s) := by
  refine kept_dir hx fun i m hm => ⟨m, ?_, rfl, rfl⟩
  exact (congrArg (fun r : MsgRec => r.content.body?) (adjustUses_msg old new s i)).symm.trans hm

theorem kept_takeVerdict (hx : x ≠ .store) (i : MsgId) (sum : Half) : Kept x s (takeVerdict i sum s) := by
  unfold takeVerdict
  split
  · next m declared damaged hc =>
    have same (m' : MsgBody) (h : some { m with computed := sum } = some m') :
        ∃ m'', (s.msg i).content.body? = some m'' ∧ m''.first = m'.first ∧ m''.blocks = m'.blocks := by
      obtain rfl := Option.some.inj h
      exact ⟨m, by rw [hc]; rfl, rfl, rfl⟩
    exact Kept.ite (fun _ => .refl s) fun _ => Kept.ite (fun _ => kept_msg hx same) fun _ => kept_changeMessage hx _ same
  · exact .refl s

end

end Sys2Proof.Machine

/-! The owners of the segments (R142 to R144). A recomputation makes them right; what leaves the selector's inputs alone, or changes
the record of a channel that owns nothing, keeps them right. -/

namespace Sys2Proof.Machine

section
variable {s t : State}

/-! ### The selector's inputs -/

/-- The records that the selector reads are the same: N, the grants, the channels and the live records. -/
structure SameSelector (s t : State) : Prop where
  n : t.loop.n = s.loop.n
  alloc : t.alloc = s.alloc
  play : t.play = s.play
  brk : t.brk = s.brk

namespace SameSelector

theorem refl (s : State) : SameSelector s s := ⟨rfl, rfl, rfl, rfl⟩

theorem trans {u : State} (h : SameSelector s t) (g : SameSelector t u) : SameSelector s u :=
  ⟨g.n.trans h.n, g.alloc.trans h.alloc, g.play.trans h.play, g.brk.trans h.brk⟩

theorem ite {c : Prop} [Decidable c] {u : State} (ht : c → SameSelector s t) (hu : ¬ c → SameSelector s u) :
    SameSelector s (if c then t else u) := by
  split
  · exact ht ‹_›
  · exact hu ‹_›

theorem foldl {α : Type} {f : State → α → State} (hf : ∀ s a, SameSelector s (f s a)) (l : List α) (s : State) :
    SameSelector s (l.foldl f s) := by
  induction l generalizing s with
  | nil => exact refl s
  | cons a l ih => exact (hf s a).trans (ih _)

theorem forSet {m : SegSet} {f : SegId → State → State} (hf : ∀ k s, SameSelector s (f k s)) (s : State) :
    SameSelector s (Machine.forSet m f s) :=
  foldl (fun t k => ite (fun _ => ite (fun _ => hf k t) fun _ => refl t) fun _ => refl t) _ s

theorem raise (d : Tri Bool) (e : EventKind) (y : Byte) (a b : Half) : SameSelector s (s.raise d e y a b) := by
  constructor <;> simp only [raise_loop, raise_alloc, raise_play, raise_brk]

theorem modUnit (k : SegId) (f : UnitRec → UnitRec) : SameSelector s (s.modUnit k f) := ⟨rfl, rfl, rfl, rfl⟩

theorem modMeters (k : SegId) (f : Six MeterEntry → Six MeterEntry) : SameSelector s (s.modMeters k f) := ⟨rfl, rfl, rfl, rfl⟩

theorem modPort (p : Port) (f : PortRec → PortRec) : SameSelector s (s.modPort p f) := ⟨rfl, rfl, rfl, rfl⟩

theorem hold (p : Port) (code : Byte) (r : Reply) : SameSelector s (s.hold p code r) := ⟨rfl, rfl, rfl, rfl⟩

theorem transmit (w : Sender) (bs : List Byte) : SameSelector s (s.transmit w bs) := ⟨rfl, rfl, rfl, rfl⟩

end SameSelector

theorem isCandidate_eq (s : State) (k : SegId) (y : Source) :
    isCandidate s k y = (decide (k.val < s.loop.n) && (sourceZone s y).any (inSet · k)) := by
  unfold isCandidate
  cases sourceZone s y <;> rfl

/-- R143: the owner of every segment is a function of the inputs. -/
theorem ownerNow_congr (h : selectorInputs t = selectorInputs s) (k : SegId) : ownerNow t k = ownerNow s k := by
  simp only [selectorInputs, SelectorInputs.mk.injEq, Prod.mk.injEq] at h
  obtain ⟨n, ⟨liveE, liveO⟩, granted, zones, rank⟩ := h
  have zone (x : Source) : sourceZone t x = sourceZone s x := by
    have chan (c : PChan) : playZone (t.play.chans.pget c) = playZone (s.play.chans.pget c) := by
      have read := congrArg (Four.pget · c) zones
      cases c <;> exact read
    cases x with
    | none => rfl
    | liveE => exact liveE
    | liveO => exact liveO
    | p1 => exact chan .p1
    | p2 => exact chan .p2
    | p3 => exact chan .p3
    | p4 => exact chan .p4
  have bc : bcGranted t k = bcGranted s k := by
    have read := congrArg (inSet · k) granted
    simpa only [inSet_setOf] using read
  have candidate : isCandidate t k = isCandidate s k := funext fun x => by simp only [isCandidate_eq, zone, n]
  simp only [ownerNow, candidates, bc, rank, candidate]

/-- Of the channels the selector reads zones, the owner of P1 and the rotation. -/
theorem inputs_of_zones (n : t.loop.n = s.loop.n) (alloc : t.alloc = s.alloc) (brk : t.brk = s.brk)
    (zones : t.play.chans.map playZone = s.play.chans.map playZone) (owner : (t.pchan .p1).owner = (s.pchan .p1).owner)
    (rotation : t.play.rotation = s.play.rotation) : selectorInputs t = selectorInputs s := by
  have grants : bcGranted t = bcGranted s := by
    unfold bcGranted State.aseg
    rw [alloc]
  have liveE : sourceZone t .liveE = sourceZone s .liveE := by
    unfold sourceZone
    rw [brk]
  have liveO : sourceZone t .liveO = sourceZone s .liveO := congrArg BreakRec.liveO brk
  have rank : ranking t = ranking s := by
    unfold ranking playRanking
    rw [owner, rotation, brk]
  simp only [selectorInputs, n, zones, grants, liveE, liveO, rank]

theorem SameSelector.inputs (h : SameSelector s t) : selectorInputs t = selectorInputs s :=
  inputs_of_zones h.n h.alloc h.brk (by rw [h.play]) (by rw [State.pchan, State.pchan, h.play]) (by rw [h.play])

/-- The same inputs and the same owners: still right. -/
theorem ownersRight_of_inputs (ho : t.brk.owners = s.brk.owners) (hi : selectorInputs t = selectorInputs s)
    (h : OwnersRight s) : OwnersRight t := by
  intro k
  rw [State.owner, ho, ownerNow_congr hi]
  exact h k

theorem ownersRight_of_same (hs : SameSelector s t) (h : OwnersRight s) : OwnersRight t :=
  ownersRight_of_inputs (congrArg BreakRec.owners hs.brk) hs.inputs h

/-! ### A channel that owns nothing -/

/-- The sources but for the playout channels do not depend on a channel; a channel's zone is its record's. -/
theorem sourceZone_modPchan (c : PChan) (f : PlayRec → PlayRec) (y : Source) :
    sourceZone (s.modPchan c f) y = if y = sourceOf c then playZone (f (s.pchan c)) else sourceZone s y := by
  cases c <;> cases y <;> rfl

/-- A channel's record moves no other source in the ranking. -/
theorem ranking_modPchan (c : PChan) (f : PlayRec → PlayRec) :
    (ranking (s.modPchan c f)).filter (· ≠ sourceOf c) = (ranking s).filter (· ≠ sourceOf c) := by
  have others (l : List PChan) : (((l.filter fun d => d ≠ .p1).map sourceOf).filter (· ≠ Source.p1)) =
      (l.map sourceOf).filter (· ≠ Source.p1) := by
    induction l with
    | nil => rfl
    | cons d l ih => cases d <;> simpa [sourceOf] using ih
  have plays : playRanking (s.modPchan c f) = playRanking s := rfl
  unfold ranking
  rw [plays, modPchan_pchan]
  by_cases hc : c = .p1
  · subst hc
    rw [if_pos rfl]
    split
    · split
      · rfl
      · rw [List.filter_append, List.filter_append, sourceOf, others]
        rfl
    · split
      · rw [List.filter_append, List.filter_append, sourceOf, others]
        rfl
      · rfl
  · rw [if_neg hc]

theorem head?_filter_of_head? {α : Type} {p : α → Bool} {l : List α} (h : ∀ a, l.head? = some a → p a = true) :
    (l.filter p).head? = l.head? := by
  cases l with
  | nil => rfl
  | cons a l => simp [h a rfl]

/-- A record of the same zone and owner. -/
theorem inputs_modPchan {c : PChan} {f : PlayRec → PlayRec} (hz : playZone (f (s.pchan c)) = playZone (s.pchan c))
    (ho : (f (s.pchan c)).owner = (s.pchan c).owner) : selectorInputs (s.modPchan c f) = selectorInputs s := by
  refine inputs_of_zones rfl rfl rfl ?_ ?_ rfl
  · have written : (s.modPchan c f).play.chans.map playZone =
        (s.play.chans.map playZone).pset c (playZone (f (s.pchan c))) := by cases c <;> rfl
    rw [written, hz]
    cases c <;> rfl
  · rw [modPchan_pchan]
    split
    · next e => subst e; exact ho
    · rfl

/-- R142: a channel that is nowhere the owner ends its candidacy: the owners stay. -/
theorem ownerNow_modPchan {c : PChan} {f : PlayRec → PlayRec} (gone : playZone (f (s.pchan c)) = none) (k : SegId)
    (hk : ownerNow s k ≠ sourceOf c) : ownerNow (s.modPchan c f) k = ownerNow s k := by
  have bc : bcGranted (s.modPchan c f) k = bcGranted s k := rfl
  have candidate (y : Source) : isCandidate (s.modPchan c f) k y = (isCandidate s k y && decide (y ≠ sourceOf c)) := by
    rw [isCandidate_eq, isCandidate_eq, sourceZone_modPchan, modPchan_loop]
    by_cases e : y = sourceOf c
    · simp [e, gone]
    · simp [e]
  have left : candidates (s.modPchan c f) k = (candidates s k).filter (· ≠ sourceOf c) := by
    unfold candidates
    rw [show isCandidate (s.modPchan c f) k = fun y => isCandidate s k y && decide (y ≠ sourceOf c) from funext candidate,
      ← List.filter_filter, ranking_modPchan, List.filter_filter, List.filter_filter]
    exact List.filter_congr fun y _ => Bool.and_comm ..
  unfold ownerNow at hk ⊢
  rw [bc, left]
  cases hb : bcGranted s k with
  | false => rfl
  | true =>
    rw [hb, if_pos rfl] at hk
    rw [head?_filter_of_head?]
    intro y hy
    rw [hy] at hk
    exact decide_eq_true hk

theorem ownersRight_modPchan {c : PChan} {f : PlayRec → PlayRec} (gone : playZone (f (s.pchan c)) = none)
    (hc : ∀ k, s.owner k ≠ sourceOf c) (h : OwnersRight s) : OwnersRight (s.modPchan c f) := by
  intro k
  rw [ownerNow_modPchan gone k (by rw [← h k]; exact hc k)]
  exact h k

theorem sourceOf_ne_none (c : PChan) : sourceOf c ≠ .none := by cases c <;> decide

/-- A channel that is no candidate owns nothing. -/
theorem owner_ne_of_playZone {c : PChan} (h : OwnersRight s) (hz : playZone (s.pchan c) = none) (k : SegId) :
    s.owner k ≠ sourceOf c := by
  have zone : sourceZone s (sourceOf c) = none := by cases c <;> exact hz
  have candidate : isCandidate s k (sourceOf c) = false := by rw [isCandidate_eq, zone, Option.any_none, Bool.and_false]
  rw [h k, ownerNow]
  split
  · cases hd : (candidates s k).head? with
    | none => exact (sourceOf_ne_none c).symm
    | some y =>
      rintro rfl
      have member := (List.mem_filter.mp (List.mem_of_mem_head? hd)).2
      have not : isCandidate s k (sourceOf c) ≠ true := Bool.eq_false_iff.mp candidate
      exact not member
  · exact (sourceOf_ne_none c).symm

/-- So the record of a channel that is a candidate neither before nor after may change. -/
theorem ownersRight_noCandidate {c : PChan} {f : PlayRec → PlayRec} (hz : playZone (s.pchan c) = none)
    (gone : playZone (f (s.pchan c)) = none) (h : OwnersRight s) : OwnersRight (s.modPchan c f) :=
  ownersRight_modPchan gone (owner_ne_of_playZone h hz) h

/-! ### A recomputation -/

theorem playZone_of_idle {r : PlayRec} (h : r.state = .idle) : playZone r = none := by
  unfold playZone
  split
  · rw [if_neg (by simp [h])]
  · rfl

/-- R144 step 4: holding a channel, or ending one that owns nothing, leaves the owners right. -/
theorem ownersRight_holdChannel (c : PChan) (h : OwnersRight s) : OwnersRight (holdChannel s c) := by
  unfold holdChannel
  dsimp only
  split
  · next hc =>
    obtain ⟨zone, playing, owns⟩ := hc
    have nowhere (k : SegId) : s.owner k ≠ sourceOf c := by
      intro e
      have owned : inSet (ownedBy s.brk.owners (sourceOf c)) k = true := by rw [ownedBy, inSet_setOf]; exact decide_eq_true e
      rw [owns] at owned
      simp [inSet] at owned
    split
    · exact ownersRight_modPchan (playZone_of_idle rfl) nowhere h
    · refine ownersRight_of_inputs (s := s) rfl ?_ h
      have held : playZone { s.pchan c with state := .held, cur := (s.pchan c).cur.map fun q => startCursor q.index } =
          playZone (s.pchan c) := by
        unfold playZone
        simp only [playing, true_or, or_true, and_true]
      exact inputs_modPchan held rfl
  · exact h

theorem OwnersRight.foldl {α : Type} {f : State → α → State} (hf : ∀ t a, OwnersRight t → OwnersRight (f t a)) (l : List α)
    (h : OwnersRight s) : OwnersRight (l.foldl f s) := by
  induction l generalizing s with
  | nil => exact h
  | cons a l ih => exact ih (hf s a h)

theorem ownersNow_get (s : State) (k : SegId) : (ownersNow s)[k] = ownerNow s k := by
  simp only [ownersNow, Fin.getElem_fin, Vector.getElem_ofFn]

theorem ownersRight_written {v : Vector Source 24} (h : ∀ k : SegId, v[k] = ownerNow s k) :
    OwnersRight { s with brk.owners := v } := h

theorem ownersRight_stored (s : State) : OwnersRight { s with brk.owners := ownersNow s } :=
  ownersRight_written (ownersNow_get s)

theorem ownersRight_raiseOwner (v : Vector Source 24) (k : SegId) (h : OwnersRight s) : OwnersRight (raiseOwner v s k) :=
  ownersRight_of_same (.ite (fun _ => .refl s) fun _ => .raise ..) h

theorem ownersRight_raiseHoldResume (before : State) (starting : Option PChan) (c : PChan) (h : OwnersRight s) :
    OwnersRight (raiseHoldResume before starting s c) := by
  refine ownersRight_of_same (.ite (fun _ => .refl s) fun _ => ?_) h
  split
  · exact .raise ..
  · exact .raise ..
  · exact .raise ..
  · exact .raise ..
  · exact .refl s

/-- R143, R144: a recomputation ends with the owners right. -/
theorem recomputeOwners_right (starting : Option PChan) (s : State) : OwnersRight (recomputeOwners starting s) := by
  unfold recomputeOwners
  dsimp only
  refine OwnersRight.foldl (fun _ c => ownersRight_raiseHoldResume s starting c) _ ?_
  refine OwnersRight.foldl (fun _ k => ownersRight_raiseOwner s.brk.owners k) _ ?_
  exact OwnersRight.foldl (fun _ c => ownersRight_holdChannel c) _ (ownersRight_stored _)

/-- R143: an event that has left the owners as they were ends with them right. -/
theorem settle_right (ho : t.brk.owners = s.brk.owners) (h : OwnersRight s) : OwnersRight (settle s t) := by
  unfold settle
  split
  · next hi => exact ownersRight_of_inputs ho hi.symm h
  · exact recomputeOwners_right none t

/-- R55, R142: in SETUP no segment has a broadcast grant, so right is what has no owner. -/
theorem ownersRight_of_setup (hg : GrantsBounded s) (hp : s.sys.part = .setup) :
    OwnersRight s ↔ ∀ k, s.owner k = .none := by
  have none (k : SegId) : ownerNow s k = .none := by
    have grant : (s.aseg k).bc.grant = 0 := congrArg Six.bc (hg.2 hp k)
    simp [ownerNow, bcGranted, grant]
  exact forall_congr' fun k => by rw [none k]

/-! ### The end of an event -/

/-- What an event keeps: a law, or, of the owners, that they are right. -/
def Ended : Law → State → State → Prop
  | .owners, s, t => OwnersRight s → OwnersRight t
  | x, s, t => Kept x s t

namespace Ended
variable {x : Law} {u : State}

theorem of_kept (h : Kept x s t) (hx : x = .owners → OwnersRight s → OwnersRight t) : Ended x s t := by
  cases x with
  | owners => exact hx rfl
  | _ => exact h

theorem same (h : Kept x s t) (hs : SameSelector s t) : Ended x s t := of_kept h fun _ => ownersRight_of_same hs

theorem refl (s : State) : Ended x s s := same (.refl s) (.refl s)

theorem of_eq (h : t = s) : Ended x s t := by
  subst h
  exact .refl t

theorem kept (h : Ended x s t) (hx : x ≠ .owners) : Kept x s t := by
  cases x with
  | owners => exact absurd rfl hx
  | _ => exact h

theorem trans (h : Ended x s t) (g : Ended x t u) : Ended x s u := by
  by_cases hx : x = .owners
  · subst hx
    exact fun right => g (h right)
  · exact of_kept ((h.kept hx).trans (g.kept hx)) fun e => absurd e hx

theorem ite {c : Prop} [Decidable c] (ht : c → Ended x s t) (hu : ¬ c → Ended x s u) : Ended x s (if c then t else u) := by
  split
  · exact ht ‹_›
  · exact hu ‹_›

end Ended

end

end Sys2Proof.Machine

/-! What the operations of the break-in selector, the playout engine, the incident controller and the survey evaluation keep. -/

namespace Sys2Proof.Machine

section
variable {x : Law} {s : State}

/-! ### The break-in selector -/

theorem kept_goIdle (c : PChan) : Kept x s (goIdle c s) := kept_pchan ..

theorem kept_raisePlayout (c : PChan) (r : PlayRec) (a b : Byte) : Kept x s (raisePlayout c r a b s) := kept_raise ..

theorem kept_raiseStarted (c : PChan) : Kept x s (raiseStarted c s) := kept_raise ..

theorem kept_endChannel (c : PChan) (e : EndCause) : Kept x s (endChannel c e s) := (kept_goIdle c).trans (kept_raisePlayout ..)

theorem kept_resumeChannel (v : Vector Source 24) (c : PChan) : Kept x s (resumeChannel v s c) :=
  Kept.ite (fun _ => Kept.ite (fun _ => kept_pchan ..) fun _ => kept_goIdle c) fun _ => .refl s

theorem kept_resumeRounds (n : Nat) : Kept x s (resumeRounds n s) := by
  induction n generalizing s with
  | zero => exact .refl s
  | succ n ih =>
    have round : Kept x s (PChan.every.foldl (resumeChannel (ownersNow s)) s) :=
      Kept.foldl (fun _ c => kept_resumeChannel _ c) _ s
    exact Kept.ite (fun _ => round.trans ih) fun _ => round

theorem kept_holdChannel (c : PChan) : Kept x s (holdChannel s c) :=
  Kept.ite (fun _ => Kept.ite (fun _ => kept_goIdle c) fun _ => kept_pchan ..) fun _ => .refl s

theorem kept_raiseOwner (v : Vector Source 24) (k : SegId) : Kept x s (raiseOwner v s k) :=
  Kept.ite (fun _ => .refl s) fun _ => kept_raise ..

theorem kept_raiseHoldResume (before : State) (starting : Option PChan) (c : PChan) :
    Kept x s (raiseHoldResume before starting s c) := by
  refine Kept.ite (fun _ => .refl s) fun _ => ?_
  split
  · exact kept_raisePlayout ..
  · exact kept_raisePlayout ..
  · exact kept_raisePlayout ..
  · exact kept_raisePlayout ..
  · exact .refl s

theorem kept_recomputeOwners (hx : x ≠ .owners) (starting : Option PChan) : Kept x s (recomputeOwners starting s) :=
  ((((kept_resumeRounds 5).trans (kept_owners hx _)).trans (Kept.foldl (fun _ c => kept_holdChannel c) _ _)).trans
    (Kept.foldl (fun _ k => kept_raiseOwner _ k) _ _)).trans (Kept.foldl (fun _ c => kept_raiseHoldResume s starting c) _ _)

theorem kept_settle (hx : x ≠ .owners) (before : State) : Kept x s (settle before s) :=
  Kept.ite (fun _ => .refl s) fun _ => kept_recomputeOwners hx none

/-- The end of an event: what it keeps up to its one recomputation. -/
theorem Ended.settle {t : State} (h : Kept x s t) : Ended x s (settle s t) := by
  by_cases hx : x = .owners
  · subst hx
    exact settle_right h
  · exact .of_kept (h.trans (kept_settle hx s)) fun e => absurd e hx

theorem Ended.recompute {t : State} (h : Kept x s t) (starting : Option PChan) : Ended x s (recomputeOwners starting t) := by
  by_cases hx : x = .owners
  · subst hx
    exact fun _ => recomputeOwners_right starting t
  · exact .of_kept (h.trans (kept_recomputeOwners hx starting)) fun e => absurd e hx

theorem Ended.raise (d : Tri Bool) (e : EventKind) (y : Byte) (a b : Half) : Ended x s (s.raise d e y a b) :=
  .same (kept_raise ..) (.raise ..)

theorem kept_writeLive (z : SegSet) (f : Option Feed) : Kept x s (writeLive z f s) := by
  unfold writeLive
  split
  · exact kept_live _ s.brk.liveO
  · exact kept_live s.brk.liveE _

theorem kept_clearLive (p : Port) : Kept x s (clearLive p s) := by
  cases p with
  | o => exact kept_live s.brk.liveE none
  | e => exact kept_live none s.brk.liveO
  | c => exact .refl s

/-! ### The playout engine -/

theorem kept_setProgram (hx : x ≠ .store) (c : PChan) (p : Program) : Kept x s (setProgram c p s) :=
  (kept_pchan ..).trans (kept_adjustUses hx ..)

theorem kept_beginRun (c : PChan) (k : PlayKind) (o : PlayOwner) : Kept x s (beginRun c k o s) := kept_pchan ..

theorem kept_advance (c : PChan) : Kept x s (advance c s) := by
  unfold advance
  dsimp only
  split
  · exact Kept.ite (fun _ => kept_endChannel ..) fun _ => Kept.ite (fun _ => kept_endChannel ..) fun _ =>
      Kept.ite (fun _ => (kept_pchan ..).trans (kept_pchan ..)) fun _ => (kept_pchan ..).trans (kept_endChannel ..)
  · exact .refl s

theorem ended_playMessageEnd (c : PChan) : Ended x s (playMessageEnd c s) :=
  .ite (fun _ => .settle ((kept_play _).trans (kept_advance c))) fun _ => .refl s

theorem playZone_of_checking {r : PlayRec} (h : r.state = .checking) : playZone r = none := by
  unfold playZone
  split
  · rw [if_neg (by simp [h])]
  · rfl

theorem ownersRight_endChannel {c : PChan} (e : EndCause) (hc : (s.pchan c).state = .checking) (h : OwnersRight s) :
    OwnersRight (endChannel c e s) :=
  ownersRight_of_same (.raise ..) (ownersRight_noCandidate (playZone_of_checking hc) (playZone_of_idle rfl) h)

/-- R128: a CHECKING channel is no candidate, in its next message neither. -/
theorem ownersRight_advance {c : PChan} (hc : (s.pchan c).state = .checking) (h : OwnersRight s) :
    OwnersRight (advance c s) := by
  unfold advance
  dsimp only
  split
  · next p q _ _ =>
    generalize (if q.index + 1 = p.playlist.length then 0 else q.index + 1) = next
    have moved : OwnersRight (s.modPchan c fun r => { r with cur := some { startCursor next with frac := q.frac } }) :=
      ownersRight_noCandidate (playZone_of_checking hc) (playZone_of_checking hc) h
    have checking : ((s.modPchan c fun r => { r with cur := some { startCursor next with frac := q.frac } }).pchan c).state =
        .checking := by rw [modPchan_pchan, if_pos rfl]; exact hc
    generalize (s.modPchan c fun r => { r with cur := some { startCursor next with frac := q.frac } }) = t at moved checking
    split
    · exact ownersRight_endChannel _ hc h
    · split
      · exact ownersRight_endChannel _ hc h
      · split
        · have read : (readFor t 0 (t.pchan c)).state = .checking := by
            have frame := congrArg PlayRec.state (readFor_frame t 0 (t.pchan c))
            exact frame.trans checking
          exact ownersRight_noCandidate (playZone_of_checking checking) (playZone_of_checking read) moved
        · exact ownersRight_endChannel _ checking moved
  · exact h

theorem kept_checkMessageEnd (hx : x ≠ .store) (c : PChan) : Kept x s (checkMessageEnd c s) := by
  unfold checkMessageEnd
  dsimp only
  split
  · exact Kept.ite (fun _ => ((kept_takeVerdict hx ..).trans (kept_raisePlayout ..)).trans (kept_advance c)) fun _ => .refl s
  · exact .refl s

theorem sameSelector_takeVerdict (i : MsgId) (sum : Half) : SameSelector s (takeVerdict i sum s) := by
  unfold takeVerdict
  split
  · refine .ite (fun _ => .refl s) fun _ => .ite (fun _ => ⟨rfl, rfl, rfl, rfl⟩) fun _ => ?_
    exact SameSelector.trans (t := s.modMsg i _) ⟨rfl, rfl, rfl, rfl⟩ (.raise ..)
  · exact .refl s

theorem ended_checkMessageEnd (hx : x ≠ .store) (c : PChan) : Ended x s (checkMessageEnd c s) := by
  refine .of_kept (kept_checkMessageEnd hx c) fun _ h => ?_
  unfold checkMessageEnd
  dsimp only
  split
  · next q i _ _ =>
    split
    · next due =>
      rw [endDue, Bool.and_eq_true, decide_eq_true_eq] at due
      have same : SameSelector s (raisePlayout c (s.pchan c) 4 (if verdict i q.sum s then 0 else 1) (takeVerdict i q.sum s)) :=
        (sameSelector_takeVerdict i q.sum).trans (.raise ..)
      refine ownersRight_advance ?_ (ownersRight_of_same same h)
      rw [State.pchan, same.play]
      exact due.1
    · exact h
  · exact h

theorem kept_lapseChannel (o : PlayOwner) (c : PChan) : Kept x s (lapseChannel o s c) :=
  Kept.ite (fun _ => Kept.ite (fun _ => (kept_pchan ..).trans (kept_endChannel ..)) fun _ => kept_pchan ..) fun _ => .refl s

theorem kept_playoutLapse (p : Port) : Kept x s (playoutLapse p s) := by
  cases p with
  | c => exact .refl s
  | o | e => exact Kept.foldl (fun _ c => kept_lapseChannel _ c) _ s

theorem kept_endRunning (c : PChan) (e : EndCause) :
    Kept x s (if (s.pchan c).state = .idle then s else endChannel c e s) :=
  Kept.ite (fun _ => .refl s) fun _ => kept_endChannel ..

theorem kept_p1Held (b : Bool) : Kept x s { s with play.p1Held := b } := kept_play _

theorem kept_takeOverP1 (hx : x ≠ .store) (i : MsgId) : Kept x s (takeOverP1 i s) := by
  have ended : Kept x s (setProgram .p1 (incidentProgram i)
      (if (s.pchan .p1).state = .idle then s else endChannel .p1 .overridden s)) :=
    (kept_endRunning ..).trans (kept_setProgram hx ..)
  have held := ended.trans (kept_p1Held true)
  exact held.trans (kept_beginRun .p1 .play .incident)

theorem kept_playoutOnset (hx : x ≠ .store) : Kept x s (playoutOnset s) := by
  unfold playoutOnset
  split
  · exact kept_takeOverP1 hx _
  · unfold raiseMessageMissing
    split
    · exact kept_raise ..
    · exact kept_raise ..

theorem kept_releaseP1 : Kept x s (releaseP1 s) :=
  Kept.ite (fun _ => ((kept_endRunning .p1 .stopped).trans (kept_play _)).trans (kept_pchan ..)) fun _ => .refl s

/-! ### Every limit computed anew -/

/-- The limit of one segment is what its record gives. -/
def LimitRight (s : State) (j : SegId) : Prop := (s.seg j).eff = limitOf (s.seg j) (s.unit j).marked s.loop.derate

theorem recomputeLimit_limitRight (k j : SegId) (s : State) (h : k = j ∨ LimitRight s j) : LimitRight (recomputeLimit k s) j := by
  rw [LimitRight, recomputeLimit_seg, recomputeLimit_marked, recomputeLimit_derate, limitOf_withEff]
  split
  · next e => subst e; rfl
  · next e => exact h.resolve_left e

/-- A pass of updates over the segments 1 to N that keep N: what each makes right in its own segment, and keeps right in another,
is right after the pass, in the segments passed and in those where it was right before. -/
theorem foldl_right {P : State → SegId → Prop} {f : SegId → State → State} (hn : ∀ k t, (f k t).loop.n = t.loop.n)
    (hf : ∀ k j t, k = j ∨ P t j → P (f k t) j) (l : List SegId) (t : State) (j : SegId) (hj : j.val < t.loop.n)
    (h : j ∈ l ∨ P t j) : P (l.foldl (fun t k => if k.val < t.loop.n then f k t else t) t) j := by
  induction l generalizing t with
  | nil => exact h.resolve_left List.not_mem_nil
  | cons k l ih =>
    rw [List.foldl_cons]
    by_cases hk : k.val < t.loop.n
    · rw [if_pos hk]
      refine ih _ (by rw [hn]; exact hj) ?_
      by_cases e : k = j
      · exact .inr (hf k j t (.inl e))
      · exact (h.imp_left fun m => (List.mem_cons.mp m).resolve_left (Ne.symm e)).imp_right fun r => hf k j t (.inr r)
    · rw [if_neg hk]
      refine ih _ hj (h.imp_left fun m => (List.mem_cons.mp m).resolve_left ?_)
      rintro rfl
      exact hk hj

theorem forSegs_right {P : State → SegId → Prop} {f : SegId → State → State} (hn : ∀ k t, (f k t).loop.n = t.loop.n)
    (hf : ∀ k j t, k = j ∨ P t j → P (f k t) j) (s : State) (j : SegId) (hj : j.val < s.loop.n) : P (forSegs f s) j :=
  foldl_right hn hf _ s j hj (.inl (List.mem_finRange j))

theorem forSegs_n {f : SegId → State → State} (hn : ∀ k t, (f k t).loop.n = t.loop.n) (s : State) :
    (forSegs f s).loop.n = s.loop.n := by
  rw [forSegs]
  generalize List.finRange 24 = l
  induction l generalizing s with
  | nil => rfl
  | cons k l ih =>
    rw [List.foldl_cons, ih]
    split
    · exact hn k s
    · rfl

/-- R21: computed anew in every segment 1 to N, the limits are right. -/
theorem recomputeLimits_right (s : State) : LimitsRight (forSegs recomputeLimit s) := by
  have n (k : SegId) (t : State) : (recomputeLimit k t).loop.n = t.loop.n := (recomputeLimit_undisturbed k t).n
  intro j hj
  rw [forSegs_n n] at hj
  exact forSegs_right (P := LimitRight) n recomputeLimit_limitRight s j hj

/-- So whatever came before, the laws but for the limits, and then the limits. -/
theorem kept_recomputeLimits {t : State} (h : x ≠ .limits → Kept x s t) : Kept x s (forSegs recomputeLimit t) := by
  by_cases hx : x = .limits
  · subst hx
    exact fun _ => recomputeLimits_right t
  · exact (h hx).trans (Kept.forSegs (fun k _ => kept_recomputeLimit k) t)

/-! ### The incident controller -/

/-- All segment records at once, where limits and effective limits stay. -/
theorem kept_segs (hx : x ≠ .limits) {v : Vector SegRec 24} (he : ∀ j : SegId, v[j].eff = (s.seg j).eff)
    (hl : ∀ j : SegId, v[j].limit = (s.seg j).limit) : Kept x s { s with loop.segs := v } := by
  cases x with
  | limits => exact absurd rfl hx
  | grants => exact fun h => ⟨fun j hj => by rw [State.seg, he]; exact h.1 j hj, h.2⟩
  | settings =>
    rintro ⟨n, run, least, most, tens, derate, derate', limit, rest⟩
    exact ⟨n, run, least, most, tens, derate, derate', fun j => by rw [State.seg, hl]; exact limit j, rest⟩
  | _ => first | exact id | rfl

theorem kept_allSegs (hx : x ≠ .limits) {f : SegRec → SegRec} (he : ∀ r, (f r).eff = r.eff) (hl : ∀ r, (f r).limit = r.limit) :
    Kept x s (s.modSegs f) :=
  kept_segs hx (fun j => by rw [vall_get, he]; rfl) fun j => by rw [vall_get, hl]; rfl

theorem kept_loopLevel (hx : x ≠ .loop) (l : Level) : Kept x s { s with loop.level := l } := by
  cases x with
  | loop => exact absurd rfl hx
  | _ => first | exact id | rfl

theorem kept_loopOnset (hx : x ≠ .loop) : Kept x s (loopOnset s) := by
  unfold loopOnset
  dsimp only
  refine Kept.trans ?_ (Kept.forSegs (fun k _ => kept_reconcile k) _)
  refine kept_recomputeLimits fun hl => ?_
  have commanded : Kept x s (s.modSegs fun r => { r with commanded := .active }) := kept_allSegs hl (fun _ => rfl) fun _ => rfl
  exact commanded.trans (kept_loopLevel hx .incident)

/-- The laws that every step keeps, that of the owners at its end; the others name a component. -/
def Law.isInvariant : Law → Bool
  | .memory | .queues | .level | .limits | .grants | .relays | .keys | .settings | .runs | .owners => true
  | _ => false

theorem Law.ne {x : Law} (hx : x.isInvariant = true) (y : Law) (hy : y.isInvariant = false := by rfl) : x ≠ y := by
  rintro rfl
  rw [hx] at hy
  exact nomatch hy

theorem ended_onset (hx : x.isInvariant = true) {t : State} (h : Kept x s t) : Ended x s (onset s t) := by
  have upToOwners : Kept x s (playoutOnset (talkLevel .incident (loopOnset (allocLevel .incident t)))) :=
    (((h.trans (kept_setAllocLevel _)).trans (kept_loopOnset (Law.ne hx .loop))).trans (kept_setTalkLevel _)).trans
      (kept_playoutOnset (Law.ne hx .store))
  unfold onset
  dsimp only
  split
  · exact (Ended.recompute upToOwners _).trans (.raise ..)
  · exact .settle upToOwners

theorem ended_returnToNormal (hx : x.isInvariant = true) {t : State} (h : Kept x s t) : Ended x s (returnToNormal s t) :=
  .settle ((((h.trans (kept_setAllocLevel _)).trans (kept_loopLevel (Law.ne hx .loop) _)).trans (kept_setTalkLevel _)).trans
    kept_releaseP1)

theorem levelOf_eq_incident (c : Claims) : levelOf c = .incident ↔ c.ops = true ∨ c.rescue = true ∨ c.line = true := by
  unfold levelOf
  split
  · next h => simpa [or_assoc] using h
  · next h => simpa [or_assoc] using h

/-- R150: the level is written with the claims. -/
theorem kept_claims (hx : x ≠ .inc) (c : Claims) : Kept x s { s with inc.claims := c, inc.level := levelOf c } := by
  cases x with
  | inc => exact absurd rfl hx
  | level => exact fun _ => levelOf_eq_incident c
  | _ => first | exact id | rfl

theorem ended_changeClaim (hx : x.isInvariant = true) (c : Claim) (b : Bool) (cause : ClaimCause) :
    Ended x s (changeClaim c b cause s) := by
  refine .ite (fun _ => .refl s) fun _ => ?_
  have claimed := kept_claims (s := s) (Law.ne hx .inc) (s.inc.claims.set c b)
  have announced : Kept x s (raiseIncident c cause
      { s with inc.claims := s.inc.claims.set c b, inc.level := levelOf (s.inc.claims.set c b) }) :=
    claimed.trans (kept_raise ..)
  dsimp only
  split
  · exact ended_onset hx announced
  · exact ended_returnToNormal hx announced
  · exact (Ended.same claimed ⟨rfl, rfl, rfl, rfl⟩).trans (.raise ..)

/-- What of the incident controller's record no law reads. -/
theorem kept_incRec (hx : x ≠ .inc) {r : IncRec} (hc : r.claims = s.inc.claims) (hl : r.level = s.inc.level) :
    Kept x s { s with inc := r } := by
  cases x with
  | inc => exact absurd rfl hx
  | level =>
    intro h
    show r.level = .incident ↔ r.claims.ops = true ∨ r.claims.rescue = true ∨ r.claims.line = true
    rw [hc, hl]
    exact h
  | _ => first | exact id | rfl

theorem ended_incRec (hx : x ≠ .inc) {r : IncRec} (hc : r.claims = s.inc.claims) (hl : r.level = s.inc.level) :
    Ended x s { s with inc := r } := .same (kept_incRec hx hc hl) ⟨rfl, rfl, rfl, rfl⟩

theorem ended_changeSense (hx : x.isInvariant = true) (sense : FireSense) : Ended x s (changeSense sense s) := by
  have inc := Law.ne hx .inc
  have sensed : Ended x s { s with inc.sense := sense } := ended_incRec inc rfl rfl
  unfold changeSense
  dsimp only
  split
  · exact ended_incRec inc rfl rfl
  · exact ended_incRec inc rfl rfl
  · exact sensed.trans (ended_changeClaim hx ..)
  · exact sensed.trans (ended_changeClaim hx ..)
  · exact sensed

theorem ended_takeFireLevel (hx : x.isInvariant = true) : Ended x s (takeFireLevel s) := by
  have claim (b : Bool) (t : State) : Ended x t (changeClaim .line b .fire t) := ended_changeClaim hx ..
  have filtered : Ended x s { s with inc.filtered := heldLevel s.inc.raw } := ended_incRec (Law.ne hx .inc) rfl rfl
  have armed (b : Bool) : Ended x s { s with inc.filtered := heldLevel s.inc.raw, inc.arm := b } :=
    ended_incRec (Law.ne hx .inc) rfl rfl
  unfold takeFireLevel
  dsimp only
  split
  · exact (armed false).trans (claim true _)
  · exact armed true
  · split
    · exact filtered.trans (claim true _)
    · exact .ite (fun _ => (armed false).trans (claim true _)) fun _ => filtered
  · split
    · exact filtered.trans (claim false _)
    · exact armed true
  · exact .refl s

/-! ### The survey evaluation -/

theorem kept_moveSegment (hx : x ≠ .limits) (g : Sighting) (k : SegId) : Kept x s (moveSegment g k s) := by
  have frame (spare : TempClass) (r : SegRec) (seen : Option SurveyEntry) (reach : Reach) :
      (transition spare r seen reach).eff = r.eff ∧ (transition spare r seen reach).limit = r.limit := by
    unfold transition
    dsimp only
    split
    · exact ⟨rfl, rfl⟩
    · split
      · exact ⟨rfl, rfl⟩
      · split <;> exact ⟨rfl, rfl⟩
      · exact ⟨rfl, rfl⟩
  have moved : Kept x s (s.modSeg k fun r => transition (spareTemp s.draws k) r (g.seen k) (g.reach k)) :=
    kept_seg (frame ..).1 (frame ..).2 fun h => absurd h hx
  have told (c : Prop) [Decidable c] (t u : State) (h : Kept x t u) : Kept x t (if c then u else t) :=
    Kept.ite (fun _ => h) fun _ => .refl t
  have mode (t : State) (o : Option Observed) : Kept x t (raiseModeChange k o t) := by
    unfold raiseModeChange
    split
    · exact Kept.ite (fun _ => .refl t) fun _ => kept_raise ..
    · exact .refl t
  unfold moveSegment
  dsimp only
  exact ((((moved.trans (told _ _ _ (kept_raise ..))).trans (told _ _ _ (kept_raise ..))).trans (told _ _ _ (mode _ _))).trans
    (told _ _ _ (kept_unit rfl))).trans (told _ _ _ (kept_setApplied ..))

theorem kept_evaluateEnergy (hx : x ≠ .meter) : Kept x s (evaluateEnergy s) := by
  refine Kept.ite (fun _ => Kept.foldl (fun t c => ?_) _ s) fun _ => .refl s
  have gained (a : Four EnergyAcc) : Kept x t { t with meter.energy := a } := kept_accumulators hx a t.meter.airtime
  exact Kept.ite (fun _ => (gained _).trans (kept_raise ..)) fun _ => gained _

theorem kept_mismatch (hx : x ≠ .loop) (b : Bool) : Kept x s { s with loop.mismatch := b } := by
  cases x with
  | loop => exact absurd rfl hx
  | _ => first | exact id | rfl

theorem kept_fold (hx : x ≠ .loop) (f : Fold) : Kept x s { s with loop.fold := f } := by
  cases x with
  | loop => exact absurd rfl hx
  | _ => first | exact id | rfl

theorem kept_noteMismatch (hx : x ≠ .loop) (g : Sighting) (l r : SurveyOutcome) : Kept x s (noteMismatch g l r s) :=
  Kept.ite (fun _ => (kept_mismatch hx _).trans (kept_raise ..)) fun _ => kept_mismatch hx _

theorem kept_noteFold (hx : x ≠ .loop) (g : Sighting) : Kept x s (noteFold g s) := by
  refine Kept.ite (fun _ => .refl s) fun _ => (kept_fold hx g.fold).trans ?_
  split
  · exact kept_raise ..
  · exact kept_raise ..

theorem kept_noteDraw (g : Sighting) : Kept x s (noteDraw g s) := Kept.ite (fun _ => kept_draws _) fun _ => .refl s

theorem kept_recordMeasured (g : Sighting) (k : SegId) : Kept x s (recordMeasured g k s) := by
  unfold recordMeasured
  split
  · split
    · exact kept_meters ..
    · exact .refl s
  · exact .refl s

theorem kept_raiseAlert (k : SegId) (e : Entry) (b : Bool) (m p : Nat) : Kept x s (raiseAlert k e b m p s) := kept_raise ..

theorem kept_raiseAlerts (k : SegId) (e : Entry) (old new : MeterEntry) (m p : Nat) : Kept x s (raiseAlerts k e old new m p s) := by
  unfold raiseAlerts
  dsimp only
  refine Kept.trans (t := if new.overFlag && !old.overFlag then raiseAlert k e false m p s else s) ?_ ?_
  · exact Kept.ite (fun _ => kept_raiseAlert ..) fun _ => .refl s
  · exact Kept.ite (fun _ => kept_raiseAlert ..) fun _ => .refl _

theorem kept_persist (k : SegId) (e : Entry) : Kept x s (persist k e s) := by
  unfold persist
  split
  · exact .refl s
  · exact Kept.ite (fun _ => (kept_meter ..).trans (kept_suspendEntry ..)) fun _ => kept_meter ..

theorem kept_compareEntry (k : SegId) (e : Entry) : Kept x s (compareEntry k s e) := by
  unfold compareEntry
  dsimp only
  split
  · exact .refl s
  · refine Kept.ite (fun _ => kept_meter ..) fun _ => ?_
    split
    · exact .refl s
    · exact ((kept_meter ..).trans (kept_raiseAlerts ..)).trans (kept_persist ..)

theorem kept_compareSegment (g : Sighting) (k : SegId) : Kept x s (compareSegment g k s) := by
  unfold compareSegment
  split
  · exact Kept.ite (fun _ => Kept.foldl (fun _ e => kept_compareEntry k e) _ s) fun _ => .refl s
  · exact .refl s

theorem kept_uplinkFromEntry (g : Sighting) (before : State) (k : SegId) : Kept x s (uplinkFromEntry g before k s) := by
  unfold uplinkFromEntry
  split
  · exact (kept_writeUplink ..).trans (kept_writeUplink ..)
  · exact Kept.ite (fun _ => kept_clearUplink k) fun _ => .refl s

theorem kept_checkLevels (k : SegId) : Kept x s (checkLevels k s) :=
  Kept.ite (fun _ => Kept.ite (fun _ => kept_unit rfl) fun _ =>
    Kept.ite (fun _ => kept_unit (requestLevels_marked _)) fun _ => .refl s) fun _ => .refl s

/-- Acquisition clears marks; the limits that follow from them are computed next. -/
theorem kept_evaluatePower (g : Sighting) {t : State} (h : x ≠ .limits → Kept x s t) : Kept x s (evaluatePower g t) := by
  refine Kept.ite (fun _ => ?_) fun _ => kept_recomputeLimits h
  refine Kept.trans (kept_recomputeLimits fun hx => (h hx).trans (Kept.forSegs (fun k u => ?_) t))
    (Kept.forSegs (fun k _ => kept_compareSegment g k) _)
  exact Kept.ite (fun _ => kept_acquireRecords hx k) fun _ => .refl u

theorem kept_evaluateTalk (g : Sighting) (before : State) : Kept x s (evaluateTalk g before s) :=
  ((Kept.forSegs (fun k _ => kept_uplinkFromEntry g before k) s).trans kept_reactBoth).trans (kept_talkFinish before)

theorem kept_evaluateEngine (g : Sighting) (before : State) : Kept x s (evaluateEngine g before s) := by
  refine Kept.ite (fun _ => ?_) fun _ => .refl s
  have resumed : Kept x s (forSegs (resumeAtReturn g before) s) :=
    Kept.forSegs (fun k t => Kept.ite (fun _ => kept_resumeDirective k) fun _ => .refl t) s
  exact (((resumed.trans (Kept.forSegs (fun k _ => kept_checkLevels k) _)).trans
    (Kept.forSegs (fun k _ => kept_reconcile k) _)).trans
      (Kept.forSegs (fun _ _ => kept_unit (requestDrain_marked _)) _)).trans (Kept.forSegs (fun k _ => kept_issueProbe k) _)

/-- What an evaluation keeps before the selector's part. -/
theorem kept_evaluated (hl : x ≠ .loop) (hm : x ≠ .meter) (g : Sighting) (l r : SurveyOutcome) :
    Kept x s (evaluateEngine g s (evaluateTalk g s (evaluatePower g (noteDraw g (forSegs (recordMeasured g)
      (forSegs (moveSegment g) (noteFold g (noteMismatch g l r
        (evaluateEnergy { s with loop.surveys := .all .none }))))))))) := by
  refine (Kept.trans ?_ (kept_evaluateTalk g s)).trans (kept_evaluateEngine g s)
  refine kept_evaluatePower g fun hx => ?_
  exact ((((((kept_surveys hl _).trans (kept_evaluateEnergy hm)).trans (kept_noteMismatch hl g l r)).trans
    (kept_noteFold hl g)).trans (Kept.forSegs (fun k _ => kept_moveSegment hx g k) _)).trans
      (Kept.forSegs (fun k _ => kept_recordMeasured g k) _)).trans (kept_noteDraw g)

theorem ended_evaluate (hx : x.isInvariant = true) (l r : SurveyOutcome) : Ended x s (evaluate l r s) :=
  .settle (kept_evaluated (Law.ne hx .loop) (Law.ne hx .meter) ..)

theorem ended_completeRound (hx : x.isInvariant = true) : Ended x s (completeRound s) := by
  unfold completeRound
  split
  · exact ended_evaluate hx ..
  · exact .refl s

theorem ended_endSurvey (hx : x.isInvariant = true) (d : Side) (o : SurveyOutcome) : Ended x s (endSurvey d o s) := by
  have ended : Ended x s { s with loop.surveys := s.loop.surveys.setSide d (.ended o) } :=
    .same (kept_surveys (Law.ne hx .loop) _) ⟨rfl, rfl, rfl, rfl⟩
  exact ended.trans (ended_completeRound hx)

end

end Sys2Proof.Machine

/-! What the blocks' commands keep. Every invariant that is kept update by update passes through each command; the few that write
what an invariant reads (the settings, the segment count, Commit, WRITE CHUNK, OPEN MESSAGE) say why it holds again. -/

namespace Sys2Proof.Machine

section
variable {x : Law} {s : State}

/-! ### Settings -/

/-- SET LIMIT (R22). -/
theorem ended_setLimit (hx : x.isInvariant = true) (seg : Byte) (limit : Half) : Ended x s (setLimit seg limit s).1 := by
  unfold setLimit
  split
  · exact .refl s
  · split
    · next hp =>
      have bound : limit.toNat ≤ 8000 := of_decide_eq_true hp
      exact .settle (kept_segLimit rfl fun _ => .inl bound)
    · exact .refl s

/-- A derate in its range; the limits are to be computed anew. -/
theorem kept_derate (hx : x.isInvariant = true) (hl : x ≠ .limits) {d : Nat} (h₁ : 25 ≤ d) (h₂ : d ≤ 100) :
    Kept x s { s with loop.derate := d } := by
  cases x with
  | limits => exact absurd rfl hl
  | settings =>
    rintro ⟨n, run, p₁, p₂, p₃, -, -, rest⟩
    exact ⟨n, run, p₁, p₂, p₃, h₁, h₂, rest⟩
  | loop => cases hx
  | _ => first | exact id | rfl

theorem ended_setDerate (hx : x.isInvariant = true) (percent : Byte) : Ended x s (setDerate percent s).1 := by
  unfold setDerate
  split
  · next h =>
    exact .settle (kept_recomputeLimits fun hl => kept_derate hx hl h.1 h.2)
  · exact .refl s

theorem ended_setSurveyPeriod (hx : x.isInvariant = true) (ms : Half) : Ended x s (setSurveyPeriod ms s).1 := by
  unfold setSurveyPeriod
  split
  · next h =>
    obtain ⟨least, most, tens⟩ := h
    refine .same (?_ : Kept x s { s with loop.period := ms.toNat }) ⟨rfl, rfl, rfl, rfl⟩
    cases x with
    | settings =>
      rintro ⟨n, run, -, -, -, rest⟩
      exact ⟨n, run, least, most, tens, rest⟩
    | loop => cases hx
    | _ => first | exact id | rfl
  · exact .refl s

theorem ended_setRampStep (step : Half) : Ended x s (setRampStep step s).1 := by
  unfold setRampStep
  split
  · next h =>
    refine .same (?_ : Kept x s { s with engine.rampStep := step.toNat }) ⟨rfl, rfl, rfl, rfl⟩
    cases x with
    | settings =>
      rintro ⟨n, run, p₁, p₂, p₃, d₁, d₂, limits, -, -, rest⟩
      exact ⟨n, run, p₁, p₂, p₃, d₁, d₂, limits, h.1, h.2, rest⟩
    | _ => first | exact id | rfl
  · exact .refl s

theorem kept_cap {c : Nat} (h : c ≤ 100) : Kept x s { s with alloc.capPct := c } := by
  cases x with
  | settings =>
    rintro ⟨n, run, p₁, p₂, p₃, d₁, d₂, limits, r₁, r₂, -, rest⟩
    exact ⟨n, run, p₁, p₂, p₃, d₁, d₂, limits, r₁, r₂, h, rest⟩
  | _ => first | exact id | rfl

theorem ended_setCarrierCap (percent : Byte) : Ended x s (setCarrierCap percent s).1 := by
  unfold setCarrierCap
  split
  · next h => exact .settle ((kept_cap h).trans (kept_roundsWhereChanged _))
  · exact .refl s

theorem averagingOk_iff {n : Byte} (h : averagingOk n = true) : n.toNat = 1 ∨ n.toNat = 4 ∨ n.toNat = 16 ∨ n.toNat = 64 := by
  simp only [averagingOk, Bool.or_eq_true, decide_eq_true_eq] at h
  rcases h with ((rfl | rfl) | rfl) | rfl <;> decide

/-- R73: a policy in its ranges, with whatever records. -/
theorem kept_policy (hx : x.isInvariant = true) {p : MeterPolicy} (v : Vector (Six MeterEntry) 24)
    (hn : p.n = 1 ∨ p.n = 4 ∨ p.n = 16 ∨ p.n = 64) (h₁ : p.tol ≤ 50) (h₂ : p.settle ≤ 15) (h₃ : p.persist ≤ 15) :
    Kept x s { s with meter.policy := p, meter.recs := v } := by
  cases x with
  | settings =>
    rintro ⟨n, run, p₁, p₂, p₃, d₁, d₂, limits, r₁, r₂, cap, -, -, -, -, rest⟩
    exact ⟨n, run, p₁, p₂, p₃, d₁, d₂, limits, r₁, r₂, cap, hn, h₁, h₂, h₃, rest⟩
  | meter => cases hx
  | _ => first | exact id | rfl

theorem ended_policy (hx : x.isInvariant = true) {p : MeterPolicy} (v : Vector (Six MeterEntry) 24)
    (hn : p.n = 1 ∨ p.n = 4 ∨ p.n = 16 ∨ p.n = 64) (h₁ : p.tol ≤ 50) (h₂ : p.settle ≤ 15) (h₃ : p.persist ≤ 15) :
    Ended x s { s with meter.policy := p, meter.recs := v } := .same (kept_policy hx v hn h₁ h₂ h₃) ⟨rfl, rfl, rfl, rfl⟩

theorem ended_setMeterPolicy (hx : x.isInvariant = true) (n tol settle persist : Byte) :
    Ended x s (setMeterPolicy n tol settle persist s).1 := by
  unfold setMeterPolicy
  split
  · next h =>
    simp only [Bool.and_eq_true, decide_eq_true_eq] at h
    obtain ⟨⟨⟨averaging, tol⟩, settle⟩, persist⟩ := h
    exact ended_policy hx _ (averagingOk_iff averaging) tol settle persist
  · exact .refl s

/-- R98: the timers in their ranges. -/
theorem kept_talkTimers {hang tot incidentTot : Half} (h : talkTimersOk hang tot incidentTot = true) :
    Kept x s { s with talk.hangMs := hang.toNat, talk.totS := tot.toNat, talk.itotS := incidentTot.toNat } := by
  simp only [talkTimersOk, Bool.and_eq_true, decide_eq_true_eq] at h
  obtain ⟨⟨⟨⟨h₁, h₂⟩, h₃⟩, h₄⟩, h₅⟩ := h
  cases x with
  | settings =>
    rintro ⟨n, run, p₁, p₂, p₃, d₁, d₂, limits, r₁, r₂, cap, averaging, tol, settle, persist, -⟩
    exact ⟨n, run, p₁, p₂, p₃, d₁, d₂, limits, r₁, r₂, cap, averaging, tol, settle, persist, h₁, h₂, h₃, h₄, h₅⟩
  | _ => first | exact id | rfl

theorem ended_setTalkTimers (hang tot incidentTot : Half) :
    Ended x s (setTalkTimers hang tot incidentTot s).1 := by
  unfold setTalkTimers
  split
  · next h => exact .settle (((kept_talkTimers h).trans (kept_retime _)).trans (kept_talkFinish s))
  · exact .refl s

/-! ### The segment count -/

theorem limitOf_unseen {r : SegRec} (h : r.link = .unseen) (m : Bool) (d : Nat) : limitOf r m d = 0 := by
  simp only [limitOf, h]

/-- R14: of the loop controller's record a new count writes this. -/
theorem kept_forgetLoop (hx : x ≠ .loop) {n : Nat} (h₁ : 1 ≤ n) (h₂ : n ≤ 24) (setup : s.sys.part = .setup) :
    Kept x s { s with loop.n := n, loop.surveys := .all .none, loop.fold := .whole, loop.mismatch := false,
                      loop.segs := vall s.loop.segs fun r => { r.forget with eff := 0 } } := by
  have forgotten (j : SegId) : (vall s.loop.segs fun r => { r.forget with eff := 0 })[j] = { (s.seg j).forget with eff := 0 } :=
    vall_get s.loop.segs j _
  generalize (vall s.loop.segs fun r => { r.forget with eff := 0 }) = v at forgotten
  cases x with
  | limits =>
    intro _ j _
    rw [State.seg, forgotten]
    exact (limitOf_unseen rfl ..).symm
  | grants =>
    rintro ⟨-, zero⟩
    refine ⟨fun j _ => ?_, zero⟩
    have none : (s.aseg j).grants.total = 0 := congrArg Six.total (zero setup j)
    exact Nat.le_trans (Nat.le_of_eq none) (Nat.zero_le _)
  | settings =>
    rintro ⟨-, -, p₁, p₂, p₃, d₁, d₂, limits, rest⟩
    exact ⟨h₂, fun _ => h₁, p₁, p₂, p₃, d₁, d₂, fun j => by rw [State.seg, forgotten]; exact limits j, rest⟩
  | loop => exact absurd rfl hx
  | _ => first | exact id | rfl

/-- R97, R81: what a new count writes of the talk controller's record. -/
theorem kept_forgetTalk (u : Vector (Pair UplinkRec) 24) (q : Vector (Option Byte) 24) :
    Kept x s { s with talk.uplink := u, talk.seq := q, talk.chans := s.talk.chans.map fun c => { c with barred := 0 } } := by
  have chan (c : Chan) : (s.talk.chans.map fun c => { c with barred := 0 }).get c = { s.chan c with barred := 0 } := by
    cases c <;> rfl
  generalize (s.talk.chans.map fun c => { c with barred := 0 }) = v at chan
  cases x with
  | relays =>
    intro h c k
    rw [State.chan, chan]
    exact h c k
  | keys =>
    intro h c
    rw [State.chan, chan]
    exact h c
  | _ => first | exact id | rfl

theorem kept_newCount (hx : x ≠ .loop) {n : Nat} (h₁ : 1 ≤ n) (h₂ : n ≤ 24) (setup : s.sys.part = .setup) :
    Kept x s (newCount n s) := by
  unfold newCount
  dsimp only
  refine Kept.trans ?_ (kept_forgetTalk ..)
  refine Kept.trans ?_ (Kept.foldl (fun _ k => kept_meters k _) _ _)
  exact (kept_forgetLoop hx h₁ h₂ setup).trans (Kept.foldl (fun _ k => kept_setApplied k none) _ _)

/-- R55, R142: in SETUP no segment has an owner, whatever the count. -/
theorem ended_setSegmentCount (hx : x.isInvariant = true) (count : Byte) (setup : s.sys.part = .setup)
    (hg : x = .owners → GrantsBounded s) : Ended x s (setSegmentCount count s).1 := by
  unfold setSegmentCount
  split
  · next h =>
    have counted {y : Law} (hy : y ≠ .loop) : Kept y s (talkFinish s (reactBoth (newCount count.toNat s))) :=
      ((kept_newCount hy h.1 h.2 setup).trans kept_reactBoth).trans (kept_talkFinish s)
    refine .of_kept (counted (Law.ne hx .loop)) fun e right => ?_
    have sys : (talkFinish s (reactBoth (newCount count.toNat s))).sys = s.sys := counted (y := .sys) nofun
    have owners : (talkFinish s (reactBoth (newCount count.toNat s))).brk.owners = s.brk.owners :=
      counted (y := .owners) nofun
    have grants := counted (y := .grants) nofun (hg e)
    refine (ownersRight_of_setup grants ?_).mpr fun k => ?_
    · exact (congrArg SysRec.part sys).trans setup
    · refine Eq.trans ?_ ((ownersRight_of_setup (hg e) setup).mp right k)
      exact congrArg (fun v : Vector Source 24 => v[k]) owners
  · exact .refl s

/-! ### Modes and allocation -/

theorem ended_takeMode (k : SegId) (named m : TargetMode) (st : Status) :
    Ended x s (takeMode k named m st s).1 := by
  unfold takeMode
  split
  · exact .refl s
  · exact .settle (kept_commandMode k m)

theorem ended_setUnitMode (seg mode : Byte) : Ended x s (setUnitMode seg mode s).1 := by
  unfold setUnitMode
  split
  · split
    · exact .refl s
    · split
      · exact ended_takeMode ..
      · exact ended_takeMode ..
  · exact .refl s

/-- A command that writes entries but for their grants. -/
theorem ended_writeEntries {m : SegSet} {f : AllocSeg → AllocSeg} (hf : ∀ a, (f a).grants = a.grants) :
    Ended x s (settle s (writeEntries m f s)) := .settle (kept_writeEntries hf)

theorem ended_setFloors (segs : SegSet) (f : Six Half) : Ended x s (setFloors segs f s).1 := by
  unfold setFloors
  split
  · exact ended_writeEntries fun _ => rfl
  · exact .refl s

theorem ended_setIncidentFloors (segs : SegSet) (rs bc : Half) :
    Ended x s (setIncidentFloors segs rs bc s).1 := by
  unfold setIncidentFloors
  split
  · exact ended_writeEntries fun _ => rfl
  · exact .refl s

theorem ended_setBroadcastRequest (segs : SegSet) (q : Half) :
    Ended x s (setBroadcastRequest segs q s).1 := by
  unfold setBroadcastRequest
  split
  · exact ended_writeEntries fun _ => rfl
  · exact .refl s

theorem ended_setRescueRequest (segs : SegSet) (idle active : Half) :
    Ended x s (setRescueRequest segs idle active s).1 := by
  unfold setRescueRequest
  split
  · exact ended_writeEntries fun _ => rfl
  · exact .refl s

theorem kept_requestCarrier (c : Carrier) (q : Nat) (k : SegId) : Kept x s (requestCarrier c q k s) := by
  have write (a : AllocSeg) :
      AllocSeg.grants { a with c := a.c.set c { a.c.get c with request := q, suspended := false } } = a.grants :=
    withCarrier_grants a c _ rfl
  exact Kept.ite (fun _ => (((kept_aseg (write _)).trans (kept_meter ..)).trans (kept_raise ..)).trans (kept_runRound k))
    fun _ => kept_writeEntry write

theorem ended_setCarrierRequest (operator : Byte) (segs : SegSet) (q : Half) :
    Ended x s (setCarrierRequest operator segs q s).1 := by
  unfold setCarrierRequest
  split
  · exact .refl s
  · split
    · exact .settle (Kept.forSet (fun k _ => kept_requestCarrier _ _ k) s)
    · exact .refl s

/-! ### The level monitor -/

theorem kept_configureAlert (e : Entry) (mode : AlertMode) (basis : Basis) (k : SegId) :
    Kept x s (configureAlert e mode basis k s) := by
  unfold configureAlert
  dsimp only
  exact Kept.trans (kept_meter k e _) (kept_raiseAlerts ..)

theorem sameSelector_configureAlert (e : Entry) (mode : AlertMode) (basis : Basis) (k : SegId) :
    SameSelector s (configureAlert e mode basis k s) := by
  have told (c : Prop) [Decidable c] (b : Bool) (m p : Nat) (t : State) :
      SameSelector t (if c then raiseAlert k e b m p t else t) := .ite (fun _ => .raise ..) fun _ => .refl t
  unfold configureAlert raiseAlerts
  exact ((SameSelector.modMeters k _).trans (told ..)).trans (told ..)

theorem ended_setAlertMode (p : Port) (segs : SegSet) (entry mode basis : Byte) :
    Ended x s (setAlertMode p segs entry mode basis s).1 := by
  unfold setAlertMode
  split
  · split
    · exact .refl s
    · split
      · dsimp only [accept]
        exact .same (Kept.forSet (fun k _ => kept_configureAlert _ _ _ k) s) (.forSet (fun k _ => sameSelector_configureAlert _ _ _ k) s)
      · exact .refl s
  · exact .refl s

theorem ended_resetAccumulators (hx : x ≠ .meter) (accs : Byte) : Ended x s (resetAccumulators accs s).1 := by
  unfold resetAccumulators
  split
  · exact .same (kept_accumulators hx (clearAccumulators accs s.meter).energy (clearAccumulators accs s.meter).airtime)
      ⟨rfl, rfl, rfl, rfl⟩
  · exact .refl s

theorem ended_readAlerts (p : Port) (segs : SegSet) : Ended x s (readAlerts p segs s).1 := by
  unfold readAlerts
  split
  · dsimp only
    exact .same (Kept.forSet (fun k _ => kept_meters k _) s) (.forSet (fun k _ => .modMeters k _) s)
  · exact .refl s

/-! ### The talk controller -/

theorem ended_setCoverage (chan : Byte) (segs : SegSet) : Ended x s (setCoverage chan segs s).1 := by
  unfold setCoverage
  split
  · exact .refl s
  · next c _ =>
    split
    · refine .settle ?_
      refine Kept.trans ?_ (kept_talkFinish s)
      by_cases hx : x = .relays
      · subst hx
        exact fun _ => refreshRelay_right _
      · exact ((kept_coverage hx c segs).trans (kept_reactFloor c)).trans kept_refreshRelay
    · exact .refl s

theorem ended_keyCommand (chan priority : Byte) (live : s.ports.e.lapsed = false) :
    Ended x s (keyCommand chan priority s).1 := by
  unfold keyCommand
  split
  · next c pr _ _ =>
    split
    · exact .refl s
    · refine .settle ?_
      refine Kept.trans ?_ (kept_talkFinish s)
      exact Kept.ite (fun _ => kept_keyPriority c live) fun _ => kept_keyFloor c live
  · exact .refl s

theorem ended_unkeyCommand (chan : Byte) : Ended x s (unkeyCommand chan s).1 := by
  unfold unkeyCommand
  split
  · exact .refl s
  · exact .settle ((kept_unkeyFloor _).trans (kept_talkFinish s))

theorem ended_uplinkNotice (frame : List Byte) : Ended x s (uplinkNotice frame s) := by
  unfold uplinkNotice
  split
  · exact .refl s
  · split
    · exact .refl s
    · refine .ite (fun _ => .refl s) fun _ => .settle ?_
      exact (((kept_setSeq ..).trans (kept_writeUplink ..)).trans (kept_reactFloor _)).trans (kept_talkFinish s)

theorem ended_hangExpiry (c : Chan) : Ended x s (hangExpiry c s) :=
  .ite (fun _ => .settle ((kept_expireHang c).trans (kept_talkFinish s))) fun _ => .refl s

theorem ended_totExpiry (c : Chan) : Ended x s (totExpiry c s) :=
  .ite (fun _ => .settle ((kept_expireTot c).trans (kept_talkFinish s))) fun _ => .refl s

theorem ended_gainAirtime (hm : x ≠ .meter) (c : Chan) : Ended x s (gainAirtime s c) := by
  have gained (a : Pair AirtimeAcc) : Ended x s { s with meter.airtime := a } :=
    .same (kept_accumulators hm s.meter.energy a) ⟨rfl, rfl, rfl, rfl⟩
  exact .ite (fun _ => .refl s) fun _ => .ite (fun _ => (gained _).trans (.raise ..)) fun _ => gained _

theorem ended_airtimeMark (hm : x ≠ .meter) : Ended x s (airtimeMark s) :=
  .ite (fun _ => ((ended_gainAirtime hm .t1).trans (ended_gainAirtime hm .t2)).trans
    (.same (kept_lastMark _) ⟨rfl, rfl, rfl, rfl⟩)) fun _ => .refl s

/-! ### Incidents -/

theorem ended_declareIncident (hx : x.isInvariant = true) (p : Port) : Ended x s (declareIncident p s).1 := by
  unfold declareIncident
  cases p with
  | o | e | c => exact ended_changeClaim hx ..

theorem ended_clearIncident (hx : x.isInvariant = true) (p : Port) (claim : Byte) : Ended x s (clearIncident p claim s).1 := by
  unfold clearIncident
  split
  · exact .refl s
  · split
    · exact .refl s
    · split
      · exact .refl s
      · exact ended_changeClaim hx ..

theorem ended_setIncidentMessage (hx : x.isInvariant = true) (id : Byte) : Ended x s (setIncidentMessage id s).1 := by
  unfold setIncidentMessage
  split
  · exact .refl s
  · exact ended_incRec (Law.ne hx .inc) rfl rfl

theorem ended_setFireSense (hx : x.isInvariant = true) (sense : Byte) : Ended x s (setFireSense sense s).1 := by
  unfold setFireSense
  split
  · exact .refl s
  · exact .ite (fun _ => .refl s) fun _ => ended_changeSense hx _

theorem ended_fireLineChange (hi : x ≠ .inc) (b : Bool) : Ended x s (fireLineChange b s) :=
  .ite (fun _ => .refl s) fun _ => ended_incRec hi rfl rfl

theorem ended_fireFilterExpiry (hx : x.isInvariant = true) : Ended x s (fireFilterExpiry s) :=
  .ite (fun _ => ended_takeFireLevel hx) fun _ => .refl s

/-! ### Break-in and playout -/

theorem ended_startBreakIn (p : Port) (zone : SegSet) (feed : Byte) :
    Ended x s (startBreakIn p zone feed s).1 := by
  unfold startBreakIn
  split
  · exact .refl s
  · split
    · exact .refl s
    · exact .settle (kept_writeLive ..)

theorem ended_stopBreakIn (p : Port) : Ended x s (stopBreakIn p s).1 :=
  .settle (kept_clearLive p)

/-- R55, R142: in SETUP no segment has an owner, whatever the ranking. -/
theorem ended_setPlayoutPriority (mode : Byte) (setup : s.sys.part = .setup) (hg : x = .owners → GrantsBounded s) :
    Ended x s (setPlayoutPriority mode s).1 := by
  unfold setPlayoutPriority
  split
  · exact .refl s
  · next b _ =>
    refine .of_kept (kept_priority (if b then .rotating else .fixed)) fun e right => ?_
    have unowned := (ownersRight_of_setup (hg e) setup).mp right
    exact (ownersRight_of_setup (s := { s with brk.priority := if b then .rotating else .fixed }) (hg e) setup).mpr unowned

theorem sameSelector_dir (d : Vector MsgRec 64) : SameSelector s { s with store.dir := d } := ⟨rfl, rfl, rfl, rfl⟩

/-- R122: an IDLE channel is a candidate with no program. -/
theorem ended_setProgram (hs : x ≠ .store) {c : PChan} (idle : (s.pchan c).state = .idle) (p : Program) :
    Ended x s (setProgram c p s) := by
  refine .of_kept (kept_setProgram hs ..) fun _ h => ?_
  have programmed : OwnersRight (s.modPchan c fun r => { r with program := some p }) :=
    ownersRight_noCandidate (playZone_of_idle idle) (playZone_of_idle idle) h
  exact ownersRight_of_same (sameSelector_dir _) programmed

theorem ended_programPlayout (hs : x ≠ .store) (chan kind mode : Byte) (zone : SegSet) (playlist : List Byte) :
    Ended x s (programPlayout chan kind mode zone playlist s).1 := by
  unfold programPlayout
  split
  · split
    · exact .refl s
    · split
      · exact .refl s
      · next idle => exact ended_setProgram hs (not_not.mp idle) _
  · exact .refl s

theorem ended_raiseStarted (c : PChan) : Ended x s (raiseStarted c s) := .raise ..

/-- R123: a CHECK starts no candidate; a PLAY ends in a recomputation. -/
theorem ended_startPlayout (p : Port) (chan : Byte) : Ended x s (startPlayout p chan s).1 := by
  unfold startPlayout
  split
  · exact .refl s
  · next c _ =>
    split
    · exact .refl s
    · split
      · exact .refl s
      · next idle =>
        split
        · exact .refl s
        · split
          · exact .refl s
          · refine Ended.trans ?_ (ended_raiseStarted c)
            split
            · exact .recompute (kept_beginRun ..) _
            · next check =>
              refine .of_kept (kept_beginRun ..) fun _ h => ?_
              rw [check]
              exact ownersRight_noCandidate (playZone_of_idle (not_not.mp idle)) (playZone_of_checking rfl) h

theorem ended_stopPlayout (p : Port) (chan : Byte) : Ended x s (stopPlayout p chan s).1 := by
  unfold stopPlayout
  split
  · exact .refl s
  · split
    · exact .refl s
    · split
      · exact .refl s
      · exact .settle (kept_endChannel ..)

/-! ### The message store -/

/-- R107: the run of a message that is opened is free. -/
theorem runs_openMessage {i : MsgId} {m : MsgBody} {n : Nat} (hb : 1 ≤ m.blocks) (fits : RunFits s m.blocks m.first)
    (h : RunsApart s) : RunsApart (s.modMsg i fun r => { r with content := .loading m n }) := by
  obtain ⟨bound, free⟩ := fits
  obtain ⟨inside, apart⟩ := h
  have record (j : MsgId) : ((s.modMsg i fun r => { r with content := .loading m n }).msg j).content.body? =
      if i = j then some m else (s.msg j).content.body? := by
    rw [modMsg_msg]
    split <;> rfl
  refine ⟨fun j m₁ h₁ => ?_, fun j j' m₁ m₂ hne h₁ h₂ => ?_⟩
  · rw [record] at h₁
    split at h₁
    · obtain rfl := Option.some.inj h₁
      exact ⟨hb, bound⟩
    · exact inside j m₁ h₁
  · rw [record] at h₁ h₂
    split at h₁
    · next e =>
      subst e
      obtain rfl := Option.some.inj h₁
      rw [if_neg hne] at h₂
      exact free j' m₂ h₂
    · split at h₂
      · obtain rfl := Option.some.inj h₂
        exact (free j m₁ h₁).symm
      · exact apart j j' m₁ m₂ hne h₁ h₂

/-- What a directory record is written with matters to the runs alone. -/
theorem kept_anyMsg (hs : x ≠ .store) (hr : x ≠ .runs) (i : MsgId) (f : MsgRec → MsgRec) : Kept x s (s.modMsg i f) := by
  cases x with
  | store => exact absurd rfl hs
  | runs => exact absurd rfl hr
  | _ => first | exact id | rfl

theorem fits_of_firstFit {c first : Nat} (h : firstFit (heldRuns s.store.dir) c = some first) : RunFits s c first :=
  (runFits_iff s c first).mpr ⟨List.mem_range.mp (List.mem_of_find?_eq_some h), List.find?_some (p := fun b => runFree _ b c) h⟩

theorem one_le_blocksFor {n : Nat} (h : 1 ≤ n) : 1 ≤ blocksFor n := by
  unfold blocksFor Config.blockBytes
  omega

theorem ended_openMessage (hs : x ≠ .store) (id : Byte) (length : Word) (tag : Byte) :
    Ended x s (openMessage id length tag s).1 := by
  unfold openMessage
  split
  · exact .refl s
  · split
    · next hl =>
      split
      · exact .refl s
      · split
        · exact .refl s
        · next hf =>
          refine .same (Kept.trans ?_ (kept_raise ..)) (SameSelector.trans (t := s.modMsg _ _) ⟨rfl, rfl, rfl, rfl⟩ (.raise ..))
          by_cases hr : x = .runs
          · subst hr
            exact runs_openMessage (one_le_blocksFor hl.1) (fits_of_firstFit hf)
          · exact kept_anyMsg hs hr ..
    · exact .refl s

theorem kept_memStore (hs : x ≠ .store) (first j : Nat) (bs : List Byte) :
    Kept x s { s with store.mem := memStore s.store.mem first j bs } := by
  cases x with
  | store => exact absurd rfl hs
  | memory => exact fun h => memStore_wf first j bs h
  | _ => first | exact id | rfl

theorem ended_writeChunk (hs : x ≠ .store) (id : Byte) (offset : Word) (chunk : List Byte) :
    Ended x s (writeChunk id offset chunk s).1 := by
  unfold writeChunk
  split
  · exact .refl s
  · split
    · exact .refl s
    · split
      · exact .refl s
      · exact .refl s
      · next m next hc =>
        split
        · exact .refl s
        · split
          · exact .refl s
          · split
            · refine .same (Kept.trans (kept_msg hs fun m' hm => ?_) (kept_memStore hs ..)) ⟨rfl, rfl, rfl, rfl⟩
              obtain rfl := Option.some.inj hm
              exact ⟨m, by rw [hc]; rfl, rfl, rfl⟩
            · exact .refl s

theorem sameSelector_changeMessage (i : MsgId) (c : MsgContent) (cause : MsgCause) :
    SameSelector s (changeMessage i c cause s) :=
  SameSelector.trans (t := s.modMsg i fun r => { r with content := c }) ⟨rfl, rfl, rfl, rfl⟩ (.raise ..)

theorem ended_closeMessage (hs : x ≠ .store) (id : Byte) (declared : Half) : Ended x s (closeMessage id declared s).1 := by
  unfold closeMessage
  split
  · exact .refl s
  · split
    · exact .refl s
    · exact .refl s
    · next m next hc =>
      split
      · exact .refl s
      · refine .same (kept_changeMessage hs _ fun m' hm => ?_) (sameSelector_changeMessage ..)
        obtain rfl := Option.some.inj hm
        exact ⟨m, by rw [hc]; rfl, rfl, rfl⟩

theorem ended_deleteMessage (hs : x ≠ .store) (id : Byte) : Ended x s (deleteMessage id s).1 := by
  unfold deleteMessage
  split
  · exact .refl s
  · split
    · exact .refl s
    · split
      · exact .refl s
      · exact .same (kept_changeMessage hs _ fun _ hm => nomatch hm) (sameSelector_changeMessage ..)

/-! ### The port interface -/

/-- A port record whose queue grows no longer and whose port does not lapse. -/
theorem ended_port (p : Port) (f : PortRec → PortRec) (hq : (f (s.port p)).queue.length ≤ (s.port p).queue.length)
    (hl : (f (s.port p)).lapsed = true → (s.port p).lapsed = true) : Ended x s (s.modPort p f) :=
  .same (kept_port hq fun _ => hl) (.modPort p f)

theorem ended_serviceArm (p : Port) : Ended x s (serviceArm p s).1 := by
  unfold serviceArm
  split
  · exact .refl s
  · exact ended_port p (fun q => { q with arm := true }) (Nat.le_refl _) id

theorem ended_serviceConfirm (p : Port) : Ended x s (serviceConfirm p s).1 := by
  unfold serviceConfirm
  split
  · exact .refl s
  · split
    · exact .refl s
    · have confirmed (w : Word) : Ended x s (s.modPort p fun q => { q with lapsed := false, arm := false, expiry := some w }) :=
        ended_port p _ (Nat.le_refl _) nofun
      exact .ite (fun _ => (confirmed _).trans (.raise ..)) fun _ => confirmed _

theorem ended_configureService (p : Port) (period : Byte) : Ended x s (configureService p period s).1 := by
  unfold configureService
  split
  · exact .refl s
  · split
    · exact .refl s
    · next d _ =>
      exact ended_port p (fun q =>
        { q with service := some d, configured := true, arm := false, expiry := some (after s.sys.uptime d.ms) })
        (Nat.le_refl _) id

theorem ended_readEvents (p : Port) : Ended x s (readEvents p s).1 :=
  ended_port p (fun q => { q with queue := (s.port p).queue.drop Config.eventsPerRead, overflow := false })
    (by rw [List.length_drop]; exact Nat.sub_le ..) id

/-! ### Reads -/

theorem readSegment_fst (seg : Byte) (s : State) : (readSegment seg s).1 = s := by unfold readSegment; split <;> rfl

theorem readAllocation_fst (seg : Byte) (s : State) : (readAllocation seg s).1 = s := by unfold readAllocation; split <;> rfl

theorem readTalk_fst (chans : Byte) (s : State) : (readTalk chans s).1 = s := by unfold readTalk; split <;> rfl

theorem readPlayout_fst (chans : Byte) (s : State) : (readPlayout chans s).1 = s := by unfold readPlayout; split <;> rfl

theorem readDirectory_fst (first count : Byte) (s : State) : (readDirectory first count s).1 = s := by
  unfold readDirectory; split <;> rfl

theorem readChunk_fst (id : Byte) (offset : Word) (length : Half) (s : State) : (readChunk id offset length s).1 = s := by
  unfold readChunk
  split
  · rfl
  · split
    · split
      · rfl
      · split <;> rfl
    · rfl

end

end Sys2Proof.Machine

/-! What Commit, the lapse of a port, a reset, a row of the units and a millisecond keep. -/

namespace Sys2Proof.Machine

section
variable {x : Law} {s : State}

/-! ### Commit (R160) -/

theorem storeLimit_seg (k j : SegId) (s : State) :
    (storeLimit k s).seg j =
      { s.seg j with eff := if k = j then limitOf (s.seg k) (s.unit k).marked s.loop.derate else (s.seg j).eff } := by
  rw [storeLimit, modSeg_seg]
  split
  · next e => subst e; rfl
  · rfl

theorem storeLimit_limitRight (k j : SegId) (s : State) (h : k = j ∨ LimitRight s j) : LimitRight (storeLimit k s) j := by
  change ((storeLimit k s).seg j).eff = limitOf ((storeLimit k s).seg j) (s.unit j).marked s.loop.derate
  rw [storeLimit_seg, limitOf_withEff]
  split
  · next e => subst e; rfl
  · next e => exact h.resolve_left e

theorem storeLimits_right (s : State) : LimitsRight (forSegs storeLimit s) := by
  intro j hj
  rw [forSegs_n (f := storeLimit) fun _ _ => rfl] at hj
  exact forSegs_right (P := LimitRight) (f := storeLimit) (fun _ _ => rfl) storeLimit_limitRight s j hj

theorem kept_storeLimit (hl : x ≠ .limits) (hg : x ≠ .grants) (k : SegId) : Kept x s (storeLimit k s) := by
  cases x with
  | limits => exact absurd rfl hl
  | grants => exact absurd rfl hg
  | settings =>
    have limit (j : SegId) : ((storeLimit k s).seg j).limit = (s.seg j).limit := by rw [storeLimit_seg]
    rintro ⟨n, run, p₁, p₂, p₃, d₁, d₂, limits, rest⟩
    exact ⟨n, run, p₁, p₂, p₃, d₁, d₂, fun j => by rw [limit]; exact limits j, rest⟩
  | _ => first | exact id | rfl

theorem kept_enterRun (hx : x.isInvariant = true) (hn : s.loop.n ≠ 0) : Kept x s (enterRun s) := by
  refine Kept.trans ?_ (kept_raise ..)
  cases x with
  | settings =>
    rintro ⟨n, -, rest⟩
    exact ⟨n, fun _ => Nat.one_le_iff_ne_zero.mpr hn, rest⟩
  | grants => exact fun h => ⟨h.1, fun setup => nomatch setup⟩
  | sys => cases hx
  | _ => first | exact id | rfl

theorem acquireRecords_alloc (k : SegId) (s : State) : (acquireRecords k s).alloc = s.alloc := by
  have uplink (c : Chan) (u : UplinkRec) (t : State) : (writeUplink k c u t).alloc = t.alloc := by
    unfold writeUplink
    dsimp only
    split <;> rfl
  simp only [acquireRecords, modMeters_alloc, clearUplink, setSeq, uplink, modUnit_alloc]
  rfl

theorem forSegs_alloc {f : SegId → State → State} (hf : ∀ k t, (f k t).alloc = t.alloc) (s : State) :
    (forSegs f s).alloc = s.alloc := by
  rw [forSegs]
  generalize List.finRange 24 = l
  induction l generalizing s with
  | nil => rfl
  | cons k l ih =>
    rw [List.foldl_cons, ih]
    split
    · exact hf k s
    · rfl

/-- R160 step 4, up to the grant rounds. -/
def committed (s : State) : State := forSegs storeLimit (forSegs acquireIfPresent (enterRun s))

theorem committed_alloc (s : State) : (committed s).alloc = s.alloc := by
  have acquire (k : SegId) (t : State) : (acquireIfPresent k t).alloc = t.alloc := by
    unfold acquireIfPresent
    split
    · exact acquireRecords_alloc k t
    · rfl
  rw [committed, forSegs_alloc (f := storeLimit) (fun _ _ => rfl), forSegs_alloc acquire]
  rfl

theorem committed_part (s : State) : (committed s).sys.part = .run := by
  have acquired : Kept .sys (enterRun s) (forSegs acquireIfPresent (enterRun s)) :=
    Kept.forSegs (fun k t => Kept.ite (fun _ => kept_acquireRecords (x := .sys) nofun k) fun _ => .refl t) _
  have stored : Kept .sys (forSegs acquireIfPresent (enterRun s)) (committed s) :=
    Kept.forSegs (fun k _ => kept_storeLimit (x := .sys) nofun nofun k) _
  have sys : (committed s).sys = (enterRun s).sys := acquired.trans stored
  rw [sys]
  rfl

/-- R55: in SETUP the grants are 0, so any new limit bounds them. -/
theorem kept_committed (hx : x.isInvariant = true) (hn : s.loop.n ≠ 0) (setup : s.sys.part = .setup) :
    Kept x s (committed s) := by
  by_cases hl : x = .limits
  · subst hl
    exact fun _ => storeLimits_right _
  by_cases hg : x = .grants
  · subst hg
    rintro ⟨-, zero⟩
    refine ⟨fun j _ => ?_, fun again => nomatch (committed_part s).symm.trans again⟩
    have none : (s.aseg j).grants.total = 0 := congrArg Six.total (zero setup j)
    rw [State.aseg, committed_alloc]
    exact Nat.le_trans (Nat.le_of_eq none) (Nat.zero_le _)
  · refine Kept.trans ?_ (Kept.forSegs (fun k _ => kept_storeLimit hl hg k) _)
    refine (kept_enterRun hx hn).trans (Kept.forSegs (fun k t => ?_) _)
    exact Kept.ite (fun _ => kept_acquireRecords hl k) fun _ => .refl t

theorem ended_commitSetup (hx : x.isInvariant = true) (setup : s.sys.part = .setup) : Ended x s (commitSetup s).1 := by
  unfold commitSetup
  split
  · exact .refl s
  · next hn =>
    have rounds : Kept x s (forSegs runRound (committed s)) :=
      (kept_committed hx hn setup).trans (Kept.forSegs (fun k _ => kept_runRound k) _)
    have talk := ((rounds.trans (Kept.forSegs (fun k _ => kept_reconcile k) _)).trans kept_reactBoth).trans (kept_talkFinish s)
    exact .settle talk

/-! ### The lapse of a port (R168) -/

theorem kept_allocLapse : Kept x s (allocLapse s) :=
  (Kept.forSegs (fun k t => kept_aseg (k := k) (f := AllocSeg.requestsToFloors) rfl) s).trans (kept_roundsWhereChanged _)

/-- R101: the lapse of port E leaves no key KEYED. -/
theorem kept_lapsedPort (p : Port) (hx : x = .keys → p ≠ .e) :
    Kept x s (s.modPort p fun q => { q with lapsed := true, arm := false, expiry := none }) := by
  cases x with
  | keys =>
    cases p with
    | e => exact absurd rfl (hx rfl)
    | o | c => exact id
  | queues => exact kept_port (x := .queues) (Nat.le_refl _) fun h => nomatch h
  | _ => first | exact id | rfl

theorem kept_tearDown (p : Port) : Kept x s (tearDown p s) := by
  cases p with
  | o => exact (kept_playoutLapse .o).trans (kept_clearLive .o)
  | e =>
    have channels := (((kept_playoutLapse .e).trans (kept_clearLive .e)).trans (kept_unkeyFloor .t1)).trans
      (kept_unkeyFloor (x := x) (s := unkeyFloor .t1 (clearLive .e (playoutLapse .e s))) .t2)
    exact channels.trans (kept_talkFinish _)
  | c => exact kept_allocLapse

theorem endChannel_talk (c : PChan) (e : EndCause) (s : State) : (endChannel c e s).talk = s.talk := raise_talk ..

theorem playoutLapse_talk (p : Port) (s : State) : (playoutLapse p s).talk = s.talk := by
  have one (o : PlayOwner) (t : State) (c : PChan) : (lapseChannel o t c).talk = t.talk := by
    simp only [lapseChannel, apply_ite State.talk, endChannel_talk, modPchan_talk, ite_self]
  have all (o : PlayOwner) (l : List PChan) (t : State) : (l.foldl (lapseChannel o) t).talk = t.talk := by
    induction l generalizing t with
    | nil => rfl
    | cons c l ih => exact (ih _).trans (one o t c)
  cases p with
  | c => rfl
  | o | e => exact all ..

/-- R101: with both keys unkeyed the rule of keys holds, LIVE or LAPSED. -/
theorem keysRight_unkeyed (h : ∀ c, KeyRule (s.chan c)) : KeysRight (unkeyFloor .t2 (unkeyFloor .t1 s)) := by
  have after (c : Chan) : ∃ now hang vote,
      (unkeyFloor .t2 (unkeyFloor .t1 s)).chan c = floorUnkey now hang vote (s.chan c) := by
    rw [unkeyFloor_eq, unkeyFloor_eq]
    cases c with
    | t1 => exact ⟨_, _, _, rfl⟩
    | t2 => exact ⟨_, _, _, rfl⟩
  rw [keysRight_iff]
  intro c
  obtain ⟨now, hang, vote, e⟩ := after c
  obtain ⟨-, -, key⟩ := floorUnkey_frame now hang vote (s.chan c)
  rw [e]
  exact ⟨(h c).floorUnkey .., fun keyed => nomatch key.symm.trans keyed⟩

theorem tearDown_e_keysRight (h : ∀ c, KeyRule (s.chan c)) : KeysRight (tearDown .e s) := by
  have record (c : Chan) : (clearLive .e (playoutLapse .e s)).chan c = s.chan c := by
    change ((playoutLapse .e s).talk.chans).get c = s.chan c
    rw [playoutLapse_talk]
    rfl
  have torn : tearDown .e s = talkLapse (clearLive .e (playoutLapse .e s)) := rfl
  rw [torn]
  generalize clearLive .e (playoutLapse .e s) = w at record ⊢
  have unkeyed : KeysRight (unkeyFloor .t2 (unkeyFloor .t1 w)) := keysRight_unkeyed fun c => by rw [record]; exact h c
  have finished : Kept .keys (unkeyFloor .t2 (unkeyFloor .t1 w)) (talkLapse w) := kept_talkFinish w
  exact finished unkeyed

theorem ended_portLapse (p : Port) : Ended x s (portLapse p s) := by
  refine .ite (fun _ => ?_) fun _ => .refl s
  dsimp only
  generalize hu : raiseLapsed p (s.modPort p fun q => { q with lapsed := true, arm := false, expiry := none }) = u
  refine .settle (?_ : Kept x s (tearDown p u))
  by_cases hk : x = .keys ∧ p = .e
  · obtain ⟨rfl, rfl⟩ := hk
    have talk : u.talk = s.talk := by rw [← hu]; exact raise_talk ..
    refine fun h => tearDown_e_keysRight fun c => ?_
    rw [State.chan, talk]
    exact (keysRight_iff.mp h c).1
  · have lapsed : Kept x s u := by
      rw [← hu]
      exact (kept_lapsedPort p fun e f => hk ⟨e, f⟩).trans (kept_raise ..)
    exact lapsed.trans (kept_tearDown p)

/-! ### Resets (R174, R175) -/

theorem reset_queues : QueuesBounded State.reset := fun p => by cases p <;> exact Nat.zero_le _

theorem reset_level : LevelFollowsClaims State.reset := by
  simp [LevelFollowsClaims, State.reset, IncRec.reset]

theorem reset_limits : LimitsRight State.reset := fun _ h => absurd h (Nat.not_lt_zero _)

theorem reset_aseg (k : SegId) : State.reset.aseg k = .reset := Vector.getElem_replicate ..

theorem reset_seg (k : SegId) : State.reset.seg k = .reset := Vector.getElem_replicate ..

theorem reset_grants : GrantsBounded State.reset :=
  ⟨fun _ h => absurd h (Nat.not_lt_zero _), fun _ k => by rw [reset_aseg]; rfl⟩

theorem reset_chan (c : Chan) : State.reset.chan c = .reset := by cases c <;> rfl

theorem reset_relays : RelaysRight State.reset := by
  intro c k
  rw [reset_chan, reset_aseg]
  have empty : inSet TalkRec.reset.relay k = false := by simp [inSet, TalkRec.reset]
  rw [empty]
  constructor
  · intro h
    exact nomatch h
  · rintro ⟨-, h⟩
    exact absurd h (Nat.lt_irrefl 0)

theorem reset_keys : KeysRight State.reset := by
  intro c
  rw [reset_chan]
  decide

theorem reset_settings : SettingsInRange State.reset := by
  have limits (k : SegId) : (State.reset.seg k).limit ≤ 8000 := by rw [reset_seg]; exact Nat.zero_le _
  refine ⟨by decide, by decide, by decide, by decide, by decide, by decide, by decide, limits, ?_⟩
  decide

theorem reset_msg (i : MsgId) : State.reset.msg i = ⟨.empty, 0⟩ := Vector.getElem_replicate ..

theorem reset_runs : RunsApart State.reset := by
  have none (i : MsgId) : (State.reset.msg i).content.body? = none := by rw [reset_msg]; rfl
  refine ⟨fun i m h => ?_, fun i j m m' _ h => ?_⟩
  · rw [none] at h; exact nomatch h
  · rw [none] at h; exact nomatch h

/-- R118: a warm reset keeps the closed messages in their places. -/
theorem sameRuns_warm (d : Vector MsgRec 64) : SameRuns d (vall d MsgRec.warm) := by
  intro i m hm
  rw [vall_get] at hm
  unfold MsgRec.warm at hm
  dsimp only at hm
  split at hm
  · exact ⟨m, hm, rfl, rfl⟩
  · exact nomatch hm

/-- R149, R142: after reset no source has a candidate, and every segment's owner is none. -/
theorem reset_owners : OwnersRight State.reset := by
  intro k
  have none : bcGranted State.reset k = false := by rw [bcGranted, reset_aseg]; rfl
  have owner : State.reset.owner k = .none := Vector.getElem_replicate ..
  rw [owner, ownerNow, none]
  rfl

/-- A reset puts every block back to its start; the store is what a warm one keeps. -/
theorem ended_resetState (hx : x.isInvariant = true) (cause : ResetCause) (held : Bool) :
    Ended x s (resetState cause held s) := by
  have store : (resetState cause held s).store =
      if cause = .powerOn then .reset else { s.store with dir := vall s.store.dir MsgRec.warm } := by
    cases cause <;> rfl
  cases x with
  | memory =>
    intro h
    change Memory.wf (resetState cause held s).store.mem = true
    rw [store]
    split
    · exact reset_memory_wf
    · exact h
  | queues => exact fun _ => reset_queues
  | level => exact fun _ => reset_level
  | limits => exact fun _ => reset_limits
  | grants => exact fun _ => ⟨reset_grants.1, fun _ => reset_grants.2 rfl⟩
  | relays => exact fun _ => reset_relays
  | keys => exact fun _ => reset_keys
  | settings => cases cause with
    | powerOn | line | command => exact fun _ => reset_settings
  | runs =>
    intro h
    have runs : RunsApart { s with store := (resetState cause held s).store } := by
      rw [store]
      split
      · exact reset_runs
      · exact kept_dir (x := .runs) nofun (sameRuns_warm s.store.dir) h
    exact runs
  | owners => exact fun _ => reset_owners
  | _ => cases hx

theorem ended_beginLine (hx : x.isInvariant = true) : Ended x s (beginLine s) :=
  .ite (fun _ => .refl s) fun _ => ended_resetState hx ..

theorem ended_endReset (hx : x ≠ .sys) : Ended x s (endReset s) := by
  refine .ite (fun _ => .same ?_ ⟨rfl, rfl, rfl, rfl⟩) fun _ => .refl s
  cases x with
  | sys => exact absurd rfl hx
  | _ => first | exact id | rfl

/-! ### The units and the loop between them -/

theorem ended_plantRec (hp : x ≠ .plant) (p : PlantRec) : Ended x s { s with plant := p } :=
  .same (kept_plant hp p s.wire) ⟨rfl, rfl, rfl, rfl⟩

theorem ended_modLineUnit (hp : x ≠ .plant) (k : SegId) (f : LineUnit → LineUnit) : Ended x s (s.modLineUnit k f) :=
  ended_plantRec hp _

theorem ended_transmit (w : Sender) (bs : List Byte) : Ended x s (s.transmit w bs) := .same (kept_transmit ..) (.transmit ..)

theorem ended_sendNotice (hp : x ≠ .plant) (k : SegId) (c : Chan) : Ended x s (sendNotice k c s) := by
  unfold sendNotice
  split
  · exact .refl s
  · exact ((ended_modLineUnit hp ..).trans (ended_transmit ..)).trans (ended_transmit ..)

theorem ended_wakeReceivers (hp : x ≠ .plant) (k : SegId) : Ended x s (wakeReceivers k s) := by
  have notice (c : Chan) (t : State) : Ended x t (noticeIfUp k c t) :=
    .ite (fun _ => ended_sendNotice hp k c) fun _ => .refl t
  unfold wakeReceivers
  split
  · exact .ite (fun _ => ((ended_modLineUnit hp ..).trans (notice .t1 _)).trans (notice .t2 _)) fun _ => .refl s
  · exact .refl s

theorem ended_changeUnit (hp : x ≠ .plant) (k : SegId) (f : LineUnit → LineUnit) : Ended x s (changeUnit k f s) := by
  unfold changeUnit
  split
  · exact .refl s
  · exact .ite (fun _ => (ended_modLineUnit hp ..).trans (ended_wakeReceivers hp k)) fun _ => ended_modLineUnit hp ..

theorem ended_unitSupplyApplied (hp : x ≠ .plant) (k : SegId) (serial : Word) (temp : TempClass) (supply : Supply) :
    Ended x s (unitSupplyApplied k serial temp supply s) := (ended_plantRec hp _).trans (ended_wakeReceivers hp k)

theorem ended_unitUplinkChange (hp : x ≠ .plant) (k : SegId) (c : Chan) (u : UplinkRec) :
    Ended x s (unitUplinkChange k c u s) := by
  unfold unitUplinkChange
  dsimp only
  split
  · exact .ite (fun _ => (ended_plantRec hp _).trans (ended_sendNotice hp k c)) fun _ => ended_plantRec hp _
  · exact ended_plantRec hp _

theorem ended_unitSurveyPass (hp : x ≠ .plant) (k : SegId) (frame : List Byte) (measured : Six Half) :
    Ended x s (unitSurveyPass k frame measured s) := by
  unfold unitSurveyPass
  split
  · dsimp only
    split
    · exact (ended_modLineUnit hp ..).trans (ended_transmit ..)
    · exact ended_modLineUnit hp ..
  · exact .refl s

theorem ended_unitDirectiveTaken (hp : x ≠ .plant) (k : SegId) (d : Side) (frame : List Byte) :
    Ended x s (unitDirectiveTaken k d frame s) := by
  unfold unitDirectiveTaken
  split
  · refine .ite (fun _ => ?_) fun _ => .refl s
    dsimp only
    split
    · exact (ended_changeUnit hp ..).trans (ended_transmit ..)
    · exact ended_changeUnit hp ..
  · exact .refl s

/-! ### The rows of the part's own time -/

theorem ended_surveyRound (hx : x.isInvariant = true) : Ended x s (surveyRound s) := by
  have started (d : Side) (t : State) : SameSelector t (startSurvey d t) :=
    .ite (fun _ => ⟨rfl, rfl, rfl, rfl⟩) fun _ => ⟨rfl, rfl, rfl, rfl⟩
  have timer : SameSelector s { s with loop.round := s.loop.round + 1, loop.timerStart := s.sys.uptime,
                                       loop.timerPeriod := s.loop.period } := ⟨rfl, rfl, rfl, rfl⟩
  have same : SameSelector s (startRound s) := (timer.trans (started .left _)).trans (started .right _)
  exact .ite (fun _ => (Ended.same (kept_startRound (Law.ne hx .loop)) same).trans (ended_completeRound hx)) fun _ => .refl s

theorem ended_surveyArrival (hx : x.isInvariant = true) (d : Side) (frame : List Byte) : Ended x s (surveyArrival d frame s) := by
  unfold surveyArrival
  split
  · exact .refl s
  · exact .ite (fun _ => ended_endSurvey hx ..) fun _ => .refl s

theorem ended_surveyTimeout (hx : x.isInvariant = true) (d : Side) : Ended x s (surveyTimeout d s) :=
  .ite (fun _ => ended_endSurvey hx ..) fun _ => .refl s

/-! The rows of the directive engine that end without a recomputation write unit records and frames. -/

theorem sameSelector_sendMain (k : SegId) (d : Directive) : SameSelector s (sendMain k d s) := ⟨rfl, rfl, rfl, rfl⟩

theorem sameSelector_sendRouse2 (k : SegId) (d : Directive) : SameSelector s (sendRouse2 k d s) := ⟨rfl, rfl, rfl, rfl⟩

theorem sameSelector_launch (k : SegId) (c : Content) (rouse : Bool) : SameSelector s (launch k c rouse s) :=
  .ite (fun _ => ⟨rfl, rfl, rfl, rfl⟩) fun _ => ⟨rfl, rfl, rfl, rfl⟩

theorem sameSelector_issue (k : SegId) : SameSelector s (issue k s) := by
  unfold issue
  split
  · exact .refl s
  · exact .ite (fun _ => ((SameSelector.modUnit k _).trans (.modUnit k _)).trans (.modMeters k _)) fun _ =>
      (SameSelector.modUnit k _).trans (sameSelector_launch ..)
  · exact .ite (fun _ => .modUnit k _) fun _ => (SameSelector.modUnit k _).trans (sameSelector_launch ..)
  · exact (SameSelector.modUnit k _).trans (sameSelector_launch ..)

theorem ended_issue (k : SegId) : Ended x s (issue k s) := .same (kept_issue k) (sameSelector_issue k)

theorem ended_rouseWaitExpiry (k : SegId) : Ended x s (rouseWaitExpiry k s) := by
  refine .same (kept_rouseWaitExpiry k) ?_
  unfold rouseWaitExpiry
  split
  · refine .ite (fun _ => .ite (fun _ => ?_) fun _ => .modUnit k _) fun _ => .refl s
    split
    · exact sameSelector_sendMain ..
    · exact sameSelector_sendRouse2 ..
  · exact .refl s

/-- R173: a millisecond, of the laws but that of the owners. -/
theorem kept_tick (hx : x.isInvariant = true) : Kept x s (tick s) := by
  refine Kept.ite (fun _ => kept_plant (Law.ne hx .plant) ..) fun _ => ?_
  have marked (u : UnitRec) (now : Word) : (u.settleQuiet now).marked = u.marked := by
    unfold UnitRec.settleQuiet
    split <;> rfl
  have unit (j : SegId) :
      (vall s.engine.units (UnitRec.settleQuiet (s.sys.uptime + 1)))[j].marked = (s.unit j).marked := by
    rw [vall_get, marked]
    rfl
  dsimp only
  generalize vall s.engine.units (UnitRec.settleQuiet (s.sys.uptime + 1)) = v at unit
  cases x with
  | limits =>
    intro h j hj
    rw [State.unit, unit]
    exact h j hj
  | sys | plant => cases hx
  | _ => first | exact id | rfl

theorem readMs_frame (s : State) (r : PlayRec) : { readMs s r with cur := r.cur } = r := by
  unfold readMs
  split
  · exact readFor_frame ..
  · exact readFor_frame ..
  · rfl

theorem playZone_cur (r : PlayRec) (q : Option Cursor) : playZone { r with cur := q } = playZone r := rfl

theorem playZone_readMs (s : State) (r : PlayRec) : playZone (readMs s r) = playZone r := by
  rw [← playZone_cur (readMs s r) r.cur, readMs_frame]

theorem owner_readMs (s : State) (r : PlayRec) : (readMs s r).owner = r.owner := by
  have frame := congrArg PlayRec.owner (readMs_frame s r)
  exact frame

/-- R120: a millisecond of reading changes no candidate. -/
theorem inputs_tick (s : State) : selectorInputs (tick s) = selectorInputs s := by
  unfold tick
  split
  · rfl
  · have zones : (s.play.chans.map (readMs s)).map playZone = s.play.chans.map playZone := by
      simp only [Four.map, playZone_readMs]
    have owner : ((s.play.chans.map (readMs s)).pget .p1).owner = (s.pchan .p1).owner := owner_readMs ..
    exact inputs_of_zones rfl rfl rfl zones owner rfl

theorem ended_idle (hx : x.isInvariant = true) : Ended x s (idle s) := by
  have draw (n : Nat) (l : List Instr) : Ended x s { s with draws := n, pending := l } :=
    .same ((kept_draws n).trans (kept_pending (s := { s with draws := n }) l)) ⟨rfl, rfl, rfl, rfl⟩
  unfold idle
  split
  · refine .of_kept (kept_tick hx) fun _ h => ownersRight_of_inputs ?_ (inputs_tick s) h
    unfold tick
    split <;> rfl
  · exact draw s.draws _
  · exact draw (s.draws + 1) _

end

end Sys2Proof.Machine

/-! From the blocks to the step. A command's period leaves the port's record, and the block's change where the checks pass; a row
that is no command is its block's operation, or nothing while the part is held in reset. -/

namespace Sys2Proof.Machine

/-! ### A command period (R161 to R163) -/

/-- The three courses of a period: no frame is taken, the port refuses, or the block takes the command. -/
theorem takePeriod_cases {P : Admitted → Prop} (i : Instr) (s : State) (ignored : P (.ignored s))
    (refused : ∀ p bytes code r, P (.refused ((s.modPort p fun q => q.shift bytes).hold p code r)))
    (passed : ∀ p code bytes, commandFields i = some (p, code, bytes) → s.sys.held = false →
      admissionFailure (admissionOf i) p (s.port p).lapsed s.sys.part = none →
      P (.passed (s.modPort p fun q => q.shift (commandFrame code bytes)) p code)) :
    P (takePeriod i s) := by
  unfold takePeriod
  split
  · exact ignored
  · next p code bytes hf =>
    split
    · exact ignored
    · next hh =>
      dsimp only
      split
      · exact refused ..
      · split
        · exact refused ..
        · split
          · exact refused ..
          · next ha => exact passed p code bytes hf (Bool.eq_false_iff.mpr hh) ha

/-- What a command ends in, from what its block makes of the shifted state. -/
theorem portCommand_cases {P : State → Prop} (i : Instr) (body : State → State × Reply) (s : State) (ignored : P s)
    (refused : ∀ p bytes code r, P ((s.modPort p fun q => q.shift bytes).hold p code r))
    (passed : ∀ p code bytes r, commandFields i = some (p, code, bytes) → s.sys.held = false →
      admissionFailure (admissionOf i) p (s.port p).lapsed s.sys.part = none →
      P ((body (s.modPort p fun q => q.shift (commandFrame code bytes))).1.hold p code r)) :
    P (portCommand i body s) := by
  have courses := takePeriod_cases (P := fun a => P (match a with
    | .ignored t => t
    | .refused t => t
    | .passed t p code => (body t).1.hold p code (body t).2)) i s ignored refused fun p code bytes hf hh ha =>
      passed p code bytes _ hf hh ha
  exact courses

/-- R164: the command may be sent on this port in this state. -/
def Admits (i : Instr) (s : State) : Prop :=
  ∃ p code bytes, commandFields i = some (p, code, bytes) ∧
    admissionFailure (admissionOf i) p (s.port p).lapsed s.sys.part = none

/-- R164: what passes the checks of the port is permitted on it, in this part state, and LIVE where it must be. -/
theorem admissionFailure_eq_none {a : Admission} {p : Port} {lapsed : Bool} {part : PartState} :
    admissionFailure a p lapsed part = none ↔
      a.port p ≠ .never ∧ (lapsed = true → a.lapsed = true) ∧ (a.port p).admits part = true := by
  unfold admissionFailure
  by_cases never : a.port p = .never
  · simp [never]
  · cases lapsed with
    | false => simp [never]
    | true => cases ha : a.lapsed <;> simp [never]

/-- R164: SETUP-only commands pass in SETUP alone. -/
theorem Admits.setup {i : Instr} {s : State} (h : Admits i s) (hi : admissionOf i = forOSetup) : s.sys.part = .setup := by
  obtain ⟨p, code, bytes, -, ha⟩ := h
  rw [admissionFailure_eq_none, hi] at ha
  obtain ⟨named, -, admits⟩ := ha
  cases p with
  | o =>
    cases hp : s.sys.part with
    | setup => rfl
    | run => rw [hp] at admits; exact nomatch admits
  | e | c => exact absurd rfl named

/-- R101, R168: what port E alone may send, in RUN, it sends LIVE. -/
theorem Admits.live {i : Instr} {s : State} (h : Admits i s) (hi : admissionOf i = forERun) : s.ports.e.lapsed = false := by
  obtain ⟨p, code, bytes, -, ha⟩ := h
  rw [admissionFailure_eq_none, hi] at ha
  obtain ⟨named, live, -⟩ := ha
  cases p with
  | e => exact Bool.eq_false_iff.mpr fun lapsed => nomatch live lapsed
  | o | c => exact absurd rfl named

section
variable {x : Law} {s : State}

theorem ended_shift (p : Port) (bytes : List Byte) : Ended x s (s.modPort p fun q => q.shift bytes) :=
  ended_port p _ (Nat.le_refl _) id

theorem ended_hold (p : Port) (code : Byte) (r : Reply) : Ended x s (s.hold p code r) := .same (kept_hold ..) (.hold ..)

/-- A command keeps what its block keeps where the command is admitted. -/
theorem ended_portCommand_grants {i : Instr} {body : State → State × Reply}
    (h : ∀ t, Admits i t → (GrantsBounded s → GrantsBounded t) → Ended x t (body t).1) :
    Ended x s (portCommand i body s) := by
  refine portCommand_cases (P := Ended x s) i body s (.refl s) (fun p bytes code r => ?_) fun p code bytes r hf _ ha => ?_
  · exact (ended_shift p bytes).trans (ended_hold ..)
  · have grants : GrantsBounded s → GrantsBounded (s.modPort p fun q => q.shift (commandFrame code bytes)) := id
    refine (ended_shift p _).trans ((h _ ⟨p, code, bytes, hf, ?_⟩ grants).trans (ended_hold ..))
    have lapsed : ((s.modPort p fun q => q.shift (commandFrame code bytes)).port p).lapsed = (s.port p).lapsed := by
      rw [modPort_port, if_pos rfl]
      rfl
    rw [lapsed]
    exact ha

theorem ended_portCommand {i : Instr} {body : State → State × Reply} (h : ∀ t, Admits i t → Ended x t (body t).1) :
    Ended x s (portCommand i body s) := ended_portCommand_grants fun t ha _ => h t ha

theorem ended_resetPart (hx : x.isInvariant = true) (p : Port) {t : State} (h : execResetPart p s = .next t) : Ended x s t := by
  obtain rfl := Host.Outcome.next.inj h
  refine takePeriod_cases (P := fun a => Ended x s (match a with
    | .ignored t => t
    | .refused t => t
    | .passed t _ _ => resetState .command false t)) (.resetPart p) s (.refl s) (fun p bytes code r => ?_)
    fun p code bytes _ _ _ => ?_
  · exact (ended_shift p bytes).trans (ended_hold ..)
  · exact (ended_shift p _).trans (ended_resetState hx ..)

/-- A row that is nothing while the part is held in reset. -/
theorem ended_unlessHeld {t : State} (h : Ended x s t) : Ended x s (if s.sys.held then s else t) :=
  .ite (fun _ => .refl s) fun _ => h

/-! ### Every row -/

theorem ended_takeCommand (hx : x.isInvariant = true) (hg : x = .owners → GrantsBounded s) (i : Instr) {t : State}
    (h : takeCommand i s = .next t) : Ended x s t := by
  have hs : x ≠ .store := Law.ne hx .store
  have hm : x ≠ .meter := Law.ne hx .meter
  cases i with
  | readPartStatus p => cases h; exact ended_portCommand fun t _ => .refl t
  | readEvents p => cases h; exact ended_portCommand fun _ _ => ended_readEvents p
  | serviceArm p => cases h; exact ended_portCommand fun _ _ => ended_serviceArm p
  | serviceConfirm p => cases h; exact ended_portCommand fun _ _ => ended_serviceConfirm p
  | configureService p d => cases h; exact ended_portCommand fun _ _ => ended_configureService p d
  | setSegmentCount p n =>
    cases h; exact ended_portCommand_grants fun _ ha gs => ended_setSegmentCount hx n (ha.setup rfl) fun e => gs (hg e)
  | setLimit p k l => cases h; exact ended_portCommand fun _ _ => ended_setLimit hx k l
  | setDerate p d => cases h; exact ended_portCommand fun _ _ => ended_setDerate hx d
  | setFloors p m f => cases h; exact ended_portCommand fun _ _ => ended_setFloors m f
  | setIncidentFloors p m rs bc => cases h; exact ended_portCommand fun _ _ => ended_setIncidentFloors m rs bc
  | setCarrierCap p c => cases h; exact ended_portCommand fun _ _ => ended_setCarrierCap c
  | setRampStep p r => cases h; exact ended_portCommand fun _ _ => ended_setRampStep r
  | setSurveyPeriod p ms => cases h; exact ended_portCommand fun _ _ => ended_setSurveyPeriod hx ms
  | setMeterPolicy p n tol settle persist =>
    cases h; exact ended_portCommand fun _ _ => ended_setMeterPolicy hx n tol settle persist
  | setFireSense p b => cases h; exact ended_portCommand fun _ _ => ended_setFireSense hx b
  | setPlayoutPriority p m =>
    cases h; exact ended_portCommand_grants fun _ ha gs => ended_setPlayoutPriority m (ha.setup rfl) fun e => gs (hg e)
  | commitSetup p => cases h; exact ended_portCommand fun _ ha => ended_commitSetup hx (ha.setup rfl)
  | setUnitMode p k m => cases h; exact ended_portCommand fun _ _ => ended_setUnitMode k m
  | setBroadcastRequest p m q => cases h; exact ended_portCommand fun _ _ => ended_setBroadcastRequest m q
  | resetPart p => exact ended_resetPart hx p h
  | setRescueRequest p m idle active => cases h; exact ended_portCommand fun _ _ => ended_setRescueRequest m idle active
  | setCoverage p c m => cases h; exact ended_portCommand fun _ _ => ended_setCoverage c m
  | setTalkTimers p hang tot itot => cases h; exact ended_portCommand fun _ _ => ended_setTalkTimers hang tot itot
  | key p c pr => cases h; exact ended_portCommand fun _ ha => ended_keyCommand c pr (ha.live rfl)
  | unkey p c => cases h; exact ended_portCommand fun _ _ => ended_unkeyCommand c
  | readTalk p c => cases h; exact ended_portCommand fun t _ => .of_eq (readTalk_fst c t)
  | setCarrierRequest p c m q => cases h; exact ended_portCommand fun _ _ => ended_setCarrierRequest c m q
  | readSegment p k => cases h; exact ended_portCommand fun t _ => .of_eq (readSegment_fst k t)
  | readAllocation p k => cases h; exact ended_portCommand fun t _ => .of_eq (readAllocation_fst k t)
  | readAlerts p m => cases h; exact ended_portCommand fun _ _ => ended_readAlerts p m
  | setAlertMode p m e mode basis => cases h; exact ended_portCommand fun _ _ => ended_setAlertMode p m e mode basis
  | readAccumulators p => cases h; exact ended_portCommand fun t _ => .refl t
  | resetAccumulators p a => cases h; exact ended_portCommand fun _ _ => ended_resetAccumulators hm a
  | declareIncident p => cases h; exact ended_portCommand fun _ _ => ended_declareIncident hx p
  | clearIncident p c => cases h; exact ended_portCommand fun _ _ => ended_clearIncident hx p c
  | setIncidentMessage p id => cases h; exact ended_portCommand fun _ _ => ended_setIncidentMessage hx id
  | startBreakIn p z f => cases h; exact ended_portCommand fun _ _ => ended_startBreakIn p z f
  | stopBreakIn p => cases h; exact ended_portCommand fun _ _ => ended_stopBreakIn p
  | openMessage p id length tag => cases h; exact ended_portCommand fun _ _ => ended_openMessage hs id length tag
  | writeChunk p id offset chunk => cases h; exact ended_portCommand fun _ _ => ended_writeChunk hs id offset chunk
  | closeMessage p id sum => cases h; exact ended_portCommand fun _ _ => ended_closeMessage hs id sum
  | deleteMessage p id => cases h; exact ended_portCommand fun _ _ => ended_deleteMessage hs id
  | readDirectory p first count => cases h; exact ended_portCommand fun t _ => .of_eq (readDirectory_fst first count t)
  | readChunk p id offset length => cases h; exact ended_portCommand fun t _ => .of_eq (readChunk_fst id offset length t)
  | programPlayout p c kind mode zone list =>
    cases h; exact ended_portCommand fun _ _ => ended_programPlayout hs c kind mode zone list
  | startPlayout p c => cases h; exact ended_portCommand fun _ _ => ended_startPlayout p c
  | stopPlayout p c => cases h; exact ended_portCommand fun _ _ => ended_stopPlayout p c
  | readPlayout p c => cases h; exact ended_portCommand fun t _ => .of_eq (readPlayout_fst c t)
  | _ => cases h; exact .refl s

theorem ended_chipSelect (hx : x.isInvariant = true) (hg : x = .owners → GrantsBounded s) (p : Port) (bytes : List Byte) {t : State}
    (h : chipSelect p bytes s = .next t) : Ended x s t := by
  unfold chipSelect at h
  split at h
  · cases h
    exact .refl s
  · split at h
    · cases h
      exact ended_port p (fun q => { q.shift bytes with holding := .none }) (Nat.le_refl _) id
    · cases h
      exact (ended_shift p bytes).trans (ended_hold ..)
    · cases h
      exact (ended_shift p bytes).trans (ended_hold ..)
    · exact ended_takeCommand hx hg _ h

theorem exec_eq_takeCommand {i : Instr} (h : (commandFields i).isSome = true) (s : State) : exec i s = takeCommand i s := by
  cases i with
  | _ => first | rfl | exact nomatch h

/-- Every row keeps every law that is an invariant. -/
theorem ended_exec (hx : x.isInvariant = true) (hg : x = .owners → GrantsBounded s) (i : Instr) {t : State}
    (h : exec i s = .next t) : Ended x s t := by
  have hp : x ≠ .plant := Law.ne hx .plant
  by_cases hc : (commandFields i).isSome = true
  · exact ended_takeCommand hx hg i ((exec_eq_takeCommand hc s).symm.trans h)
  cases i with
  | fetch p bytes => exact ended_chipSelect hx hg p bytes h
  | frameError p bytes => exact ended_chipSelect hx hg p bytes h
  | surveyRound => cases h; exact ended_unlessHeld (ended_surveyRound hx)
  | surveyArrival d f => cases h; exact ended_unlessHeld (ended_surveyArrival hx d f)
  | surveyTimeout d => cases h; exact ended_unlessHeld (ended_surveyTimeout hx d)
  | uplinkNotice d f => cases h; exact ended_unlessHeld (ended_uplinkNotice f)
  | directiveIssue k => cases h; exact .ite (fun _ => ended_issue k) fun _ => .refl s
  | directiveReply d f => cases h; exact ended_unlessHeld (.settle (kept_directiveReply f))
  | replyTimeout k => cases h; exact ended_unlessHeld (.settle (kept_replyTimeout k))
  | rouseWaitExpiry k => cases h; exact ended_unlessHeld (ended_rouseWaitExpiry k)
  | hangExpiry c => cases h; exact ended_unlessHeld (ended_hangExpiry c)
  | totExpiry c => cases h; exact ended_unlessHeld (ended_totExpiry c)
  | airtimeMark => cases h; exact ended_unlessHeld (ended_airtimeMark (Law.ne hx .meter))
  | messageEnd c => cases h; exact ended_unlessHeld (ended_playMessageEnd c)
  | checkMessageEnd c => cases h; exact ended_unlessHeld (ended_checkMessageEnd (Law.ne hx .store) c)
  | fireLineChange b => cases h; exact ended_fireLineChange (Law.ne hx .inc) b
  | fireFilterExpiry => cases h; exact ended_unlessHeld (ended_fireFilterExpiry hx)
  | portLapse p => cases h; exact ended_unlessHeld (ended_portLapse p)
  | powerOnReset => cases h; exact ended_resetState hx ..
  | lineReset => cases h; exact ended_beginLine hx
  | resetEnd => cases h; exact ended_endReset (Law.ne hx .sys)
  | unitSupplyApplied k serial temp supply => cases h; exact ended_unitSupplyApplied hp k serial temp supply
  | unitTemperatureChange k temp => cases h; exact ended_changeUnit hp k _
  | unitSupplyChange k supply => cases h; exact ended_changeUnit hp k _
  | unitSurveyPass k f m => cases h; exact ended_unitSurveyPass hp k f m
  | unitDirectiveTaken k d f => cases h; exact ended_unitDirectiveTaken hp k d f
  | unitUplinkChange k c u q => cases h; exact ended_unitUplinkChange hp k c _
  | loopLinkChange span up => cases h; exact ended_plantRec hp _
  | _ => exact absurd rfl hc

theorem ended_step (hx : x.isInvariant = true) (hg : x = .owners → GrantsBounded s) {t : State} (h : step s = .next t) : Ended x s t := by
  unfold step at h
  split at h
  · cases h
    exact ended_idle hx
  · next i rest _ =>
    have taken (l : List Instr) : Ended x s { s with pending := l } := .same (kept_pending l) ⟨rfl, rfl, rfl, rfl⟩
    exact (taken _).trans (ended_exec (s := { s with pending := rest }) hx (fun e => hg e) _ h)

end

/-! ### The statements -/

/-- Settles O50. -/
theorem stepKeepsMemory : Obligations.StepKeepsMemory := fun _ _ inv h => ended_step (x := .memory) rfl nofun h inv

/-- Settles O51. -/
theorem stepKeepsQueues : Obligations.StepKeepsQueues := fun _ _ inv h => ended_step (x := .queues) rfl nofun h inv

/-- Settles O52. -/
theorem stepKeepsLevel : Obligations.StepKeepsLevel := fun _ _ inv h => ended_step (x := .level) rfl nofun h inv

/-- Settles O53. -/
theorem stepKeepsLimits : Obligations.StepKeepsLimits := fun _ _ inv h => ended_step (x := .limits) rfl nofun h inv

/-- Settles O54. -/
theorem stepKeepsGrants : Obligations.StepKeepsGrants := fun _ _ inv h => ended_step (x := .grants) rfl nofun h inv

/-- Settles O55. -/
theorem stepKeepsOwners : Obligations.StepKeepsOwners :=
  fun _ _ grants inv h => ended_step (x := .owners) rfl (fun _ => grants) h inv

/-- Settles O56. -/
theorem stepKeepsRelays : Obligations.StepKeepsRelays := fun _ _ inv h => ended_step (x := .relays) rfl nofun h inv

/-- Settles O57. -/
theorem stepKeepsKeys : Obligations.StepKeepsKeys := fun _ _ inv h => ended_step (x := .keys) rfl nofun h inv

/-- Settles O58. -/
theorem stepKeepsSettings : Obligations.StepKeepsSettings := fun _ _ inv h => ended_step (x := .settings) rfl nofun h inv

/-- Settles O59. -/
theorem stepKeepsRuns : Obligations.StepKeepsRuns := fun _ _ inv h => ended_step (x := .runs) rfl nofun h inv

/-- Settles O60. -/
theorem resetMeetsAll : Obligations.ResetMeetsAll :=
  ⟨reset_memory_wf, reset_queues, reset_level, reset_limits, reset_grants, reset_owners, reset_relays, reset_keys,
    reset_settings, reset_runs⟩

end Sys2Proof.Machine

/-! Periods, the checks of the port interface, and the commands that read or store one value: what their blocks answer on a state,
carried to the served state by `portCommand_served`. -/

namespace Sys2Proof.Machine

/-! ### Steps (log 30) -/

theorem takeCommand_next (i : Instr) (s : State) : ∃ t, takeCommand i s = .next t := by cases i <;> exact ⟨_, rfl⟩

theorem chipSelect_next (p : Port) (bytes : List Byte) (s : State) : ∃ t, chipSelect p bytes s = .next t := by
  unfold chipSelect
  split
  · exact ⟨_, rfl⟩
  · split
    · exact ⟨_, rfl⟩
    · exact ⟨_, rfl⟩
    · exact ⟨_, rfl⟩
    · exact takeCommand_next _ s

theorem exec_next (i : Instr) (s : State) : ∃ t, exec i s = .next t := by
  cases i with
  | fetch p bytes => exact chipSelect_next p bytes s
  | frameError p bytes => exact chipSelect_next p bytes s
  | _ => exact ⟨_, rfl⟩

/-- Settles O1: `step` by the form of the queue; every row's outcome is a next state. -/
theorem stepTakesFront : Obligations.StepTakesFront := by
  refine ⟨fun c s => ⟨rfl, fun rest h => ?_⟩, exec_next⟩
  unfold step
  rw [h]

/-! ### Periods by their bytes (R161 to R163, log 9) -/

theorem readPeriod_of_short (p : Port) {bytes : List Byte} (h : bytes.length ≤ 3) : readPeriod p bytes = .fetched := by
  match bytes, h with
  | [], _ | [_], _ | [_, _], _ | [_, _, _], _ => rfl

/-- What is decoded from a payload is a command. -/
theorem commandFields_of_decodePayload {p : Port} {code : Nat} {payload : List Byte} {i : Instr}
    (h : decodePayload p code payload = some i) : (commandFields i).isSome = true := by
  unfold decodePayload at h
  repeat' split at h
  all_goals cases h <;> rfl

theorem readPeriod_command {p : Port} {bytes : List Byte} {i : Instr} (h : readPeriod p bytes = .command i) :
    (commandFields i).isSome = true := by
  unfold readPeriod at h
  split at h
  · split at h
    · split at h
      · next hd => cases h; exact commandFields_of_decodePayload hd
      · exact nomatch h
    · exact nomatch h
  · exact nomatch h

/-- What a period of any row does is by its bytes. -/
theorem chipSelect_of_readPeriod {p : Port} {bytes : List Byte} {s : State} (hh : s.sys.held = false) :
    chipSelect p bytes s = match readPeriod p bytes with
      | .fetched => .next (fetchPeriod p bytes s)
      | .badFrame first => .next (refusedPeriod p bytes .frameError first s)
      | .unknown code => .next (refusedPeriod p bytes .badArgument code s)
      | .command i => takeCommand i s := by
  unfold chipSelect
  refine (if_neg (by rw [hh]; decide)).trans ?_
  cases readPeriod p bytes <;> rfl

theorem byteSum_bytes (r : Response) : byteSum r.bytes = 0 := byteSum_withCheck _

/-- R177: a record's bytes are at least its header and its check byte. -/
theorem five_le_length_bytes (r : Response) : 5 ≤ r.bytes.length := by
  simp only [Response.bytes, withCheck, be2, List.length_append, List.length_cons, List.length_nil]
  omega

theorem shiftOut_of_short {n : Nat} {r : Response} (h : n ≤ r.bytes.length) : shiftOut n r = r.bytes.take n := by
  rw [shiftOut, List.take_append_of_le_length h]

/-- Settles O4: `readPeriod` says which of the four courses a period takes. -/
theorem periodByItsBytes : Obligations.PeriodByItsBytes := by
  intro p bytes s hh
  have select (x : Instr) (hx : exec x s = chipSelect p bytes s) := hx.trans (chipSelect_of_readPeriod hh)
  refine ⟨fun short => ?_, fun code unknown => ?_, fun i command => ?_⟩
  · rw [select (.fetch p bytes) rfl, readPeriod_of_short p short]
    have out (q : PortRec) : shiftOut bytes.length q.holding = q.holding.bytes.take bytes.length :=
      shiftOut_of_short (Nat.le_trans short (Nat.le_trans (by decide) (five_le_length_bytes q.holding)))
    simp only [fetchPeriod, PortRec.shift, out]
    rfl
  · rw [select (.frameError p bytes) rfl, unknown]
    rfl
  · rw [select (.frameError p bytes) rfl, command]
    exact (exec_eq_takeCommand (readPeriod_command command) s).symm

/-- R161: byte `n` of what a period shifts out. -/
theorem getD_shiftOut {n m : Nat} (h : n < m) (r : Response) : (shiftOut m r).getD n 0 = r.bytes.getD n 0xff := by
  rw [shiftOut, List.getD_eq_getElem?_getD, List.getD_eq_getElem?_getD, List.getElem?_take_of_lt h, List.getElem?_append]
  split
  · next inside => rw [List.getElem?_eq_getElem inside]; rfl
  · next beyond =>
    rw [List.getElem?_replicate, if_pos (by omega), List.getElem?_eq_none (by omega)]
    rfl

theorem length_shiftOut (m : Nat) (r : Response) : (shiftOut m r).length = m := by
  simp only [shiftOut, List.length_take, List.length_append, List.length_replicate]
  omega

/-- Settles O5. -/
theorem responseFrames : Obligations.ResponseFrames := by
  refine ⟨fun r => ⟨rfl, byteSum_bytes r⟩, by decide, by decide, by decide, fun q bytes => ⟨length_shiftOut .., fun n h => ?_⟩⟩
  exact getD_shiftOut h q.holding

/-- Settles O48: the frame passes R162, and its payload decodes as the command's operands. -/
theorem commandFramesReadBack : Obligations.CommandFramesReadBack := by
  intro i p code payload hf hw
  obtain ⟨fits, decoded⟩ := Laws.Period.all i p code payload hf hw
  have ok := frameOk_commandFrame code payload fits
  have bytes : ∃ l₁ l₀ next rest, commandFrame code payload = code :: l₁ :: l₀ :: next :: rest ∧
      (next :: rest).dropLast = payload := by
    cases payload with
    | nil => exact ⟨_, _, _, _, rfl, rfl⟩
    | cons b bs => exact ⟨_, _, _, _, rfl, List.dropLast_concat (l₁ := b :: bs)⟩
  obtain ⟨l₁, l₀, next, rest, frame, drop⟩ := bytes
  rw [frame] at ok ⊢
  simp only [readPeriod, ok, if_true, drop, decoded]

/-! ### The checks of the port interface (R163, R164, R169) -/

theorem portCommand_of_refused {i : Instr} {s t : State} (h : takePeriod i s = .refused t) (body : State → State × Reply) :
    portCommand i body s = t := by simp only [portCommand, h]

theorem portCommand_of_ignored {i : Instr} {s t : State} (h : takePeriod i s = .ignored t) (body : State → State × Reply) :
    portCommand i body s = t := by simp only [portCommand, h]

theorem takeCommand_of_refused {i : Instr} {s t : State} (hc : (commandFields i).isSome = true)
    (h : takePeriod i s = .refused t) : takeCommand i s = .next t := by
  cases i with
  | resetPart p => simp only [takeCommand, execResetPart, h]
  | _ => first | exact congrArg Host.Outcome.next (portCommand_of_refused h _) | exact nomatch hc

theorem takeCommand_of_ignored {i : Instr} {s t : State} (hc : (commandFields i).isSome = true)
    (h : takePeriod i s = .ignored t) : takeCommand i s = .next t := by
  cases i with
  | resetPart p => simp only [takeCommand, execResetPart, h]
  | _ => first | exact congrArg Host.Outcome.next (portCommand_of_ignored h _) | exact nomatch hc

section
variable {i : Instr} {p : Port} {code : Byte} {payload : List Byte} {s : State}

/-- R163: a well-formed command that the port refuses. -/
theorem refuses_of_admissionFailure {st : Status} (hf : commandFields i = some (p, code, payload)) (hw : i.wellFormed = true)
    (hh : s.sys.held = false) (ha : admissionFailure (admissionOf i) p (s.port p).lapsed s.sys.part = some st) :
    Refuses i s st := by
  obtain ⟨fits, decoded⟩ := Laws.Period.all i p code payload hf hw
  have some : (commandFields i).isSome = true := by rw [hf]; rfl
  have refused : takePeriod i s = .refused (served i st [] s) := by
    simp [takePeriod, served, hf, hh, frameOk_commandFrame _ _ fits, decoded, ha, Reply.plain]
  rw [Refuses, exec_eq_takeCommand some]
  exact takeCommand_of_refused some refused

/-- R174. -/
theorem exec_of_held (hf : commandFields i = some (p, code, payload)) (hh : s.sys.held = true) : exec i s = .next s := by
  have some : (commandFields i).isSome = true := by rw [hf]; rfl
  have ignored : takePeriod i s = .ignored s := by simp [takePeriod, hf, hh]
  rw [exec_eq_takeCommand some]
  exact takeCommand_of_ignored some ignored

theorem admissionOf_mem_permissionTable (hf : commandFields i = some (p, code, payload)) :
    (code, admissionOf i) ∈ permissionTable := by
  cases i <;> cases hf <;>
    simp [permissionTable, admissionOf, forAllPorts, forO, forOSetup, forERun, forOAndERun]

end

/-- Settles O6: the table is that of R164, and each check's refusal is `admissionFailure` under the checks before it. -/
theorem portChecks : Obligations.PortChecks := by
  refine ⟨⟨by decide, fun i p code payload hf => admissionOf_mem_permissionTable hf⟩, fun i p code payload s hf hw => ?_⟩
  refine ⟨exec_of_held hf, fun hh => ⟨fun never => ?_, fun named lapsed live => ?_, fun named live part => ?_⟩⟩
  · exact refuses_of_admissionFailure hf hw hh (by simp [admissionFailure, never])
  · exact refuses_of_admissionFailure hf hw hh (by simp [admissionFailure, named, lapsed, live])
  · refine refuses_of_admissionFailure hf hw hh ?_
    have passes : ((s.port p).lapsed && !(admissionOf i).lapsed) = false := by
      cases hl : (s.port p).lapsed with
      | false => rfl
      | true => rw [live hl]; rfl
    obtain ⟨access, run⟩ | ⟨access, setup⟩ := part
    · simp [admissionFailure, passes, access, run, Access.admits]
    · simp [admissionFailure, passes, access, setup, Access.admits]

end Sys2Proof.Machine

/-! Passes over the segments 1 to N. Where each pass of `f` leaves another segment's part of the state alone, a segment's part after
the whole pass is what `f` has made of it, in a state that the passes before it have led to. -/

namespace Sys2Proof.Machine

section
variable {α : Type} {view : State → SegId → α} {f : SegId → State → State}

theorem foldl_view_of_not_mem (hv : ∀ k j t, k ≠ j → view (f k t) j = view t j) {l : List SegId} {j : SegId} (h : j ∉ l)
    (s : State) : view (l.foldl (fun t k => if k.val < t.loop.n then f k t else t) s) j = view s j := by
  induction l generalizing s with
  | nil => rfl
  | cons k l ih =>
    obtain ⟨hk, hl⟩ := not_or.mp (fun m => h (List.mem_cons.mpr m))
    rw [List.foldl_cons, ih hl]
    split
    · exact hv k j s (Ne.symm hk)
    · rfl

/-- A segment above N is not passed. -/
theorem forSegs_view_beyond (hn : ∀ k t, (f k t).loop.n = t.loop.n) (hv : ∀ k j t, k ≠ j → view (f k t) j = view t j)
    {s : State} {j : SegId} (h : s.loop.n ≤ j.val) : view (forSegs f s) j = view s j := by
  rw [forSegs]
  generalize List.finRange 24 = l
  induction l generalizing s with
  | nil => rfl
  | cons k l ih =>
    rw [List.foldl_cons]
    split
    · next hk =>
      rw [ih (by rw [hn]; exact h)]
      exact hv k j s (by rintro rfl; omega)
    · exact ih h

/-- A segment 1 to N is passed once. `R` is what every pass keeps. -/
theorem forSegs_view {R : State → State → Prop} (refl : ∀ t, R t t) (trans : ∀ t u v, R t u → R u v → R t v)
    (hf : ∀ k t, R t (f k t)) (hn : ∀ k t, (f k t).loop.n = t.loop.n) (hv : ∀ k j t, k ≠ j → view (f k t) j = view t j)
    {s : State} {j : SegId} (h : j.val < s.loop.n) :
    ∃ t, R s t ∧ view t j = view s j ∧ R (f j t) (forSegs f s) ∧ view (forSegs f s) j = view (f j t) j := by
  have pass (l : List SegId) (s : State) : R s (l.foldl (fun t k => if k.val < t.loop.n then f k t else t) s) := by
    induction l generalizing s with
    | nil => exact refl s
    | cons k l ih =>
      rw [List.foldl_cons]
      split
      · exact trans _ _ _ (hf k s) (ih _)
      · exact ih s
  have mem := List.mem_finRange j
  have nodup := List.nodup_finRange 24
  rw [forSegs]
  generalize List.finRange 24 = l at mem nodup
  induction l generalizing s with
  | nil => exact absurd mem List.not_mem_nil
  | cons k l ih =>
    obtain ⟨hk, hl⟩ := List.nodup_cons.mp nodup
    rw [List.foldl_cons]
    by_cases e : k = j
    · subst e
      rw [if_pos h]
      exact ⟨s, refl s, rfl, pass l _, foldl_view_of_not_mem hv hk _⟩
    · have inside : j ∈ l := (List.mem_cons.mp mem).resolve_left (Ne.symm e)
      split
      · obtain ⟨t, before, same, after, result⟩ := ih (s := f k s) (by rw [hn]; exact h) inside hl
        exact ⟨t, trans _ _ _ (hf k s) before, same.trans (hv k j s e), after, result⟩
      · exact ih h inside hl

/-- Where `f` makes of a segment's part a function of that part. -/
theorem forSegs_view_of_map {g : SegId → α → α} (hn : ∀ k t, (f k t).loop.n = t.loop.n)
    (hg : ∀ k j t, view (f k t) j = if k = j then g k (view t k) else view t j) (s : State) (j : SegId) :
    view (forSegs f s) j = if j.val < s.loop.n then g j (view s j) else view s j := by
  have hv (k j : SegId) (t : State) (e : k ≠ j) : view (f k t) j = view t j := by rw [hg, if_neg e]
  split
  · next h =>
    obtain ⟨t, -, same, -, result⟩ := forSegs_view (R := fun _ _ => True) (fun _ => trivial) (fun _ _ _ _ _ => trivial)
      (fun _ _ => trivial) hn hv h
    rw [result, hg, if_pos rfl, same]
  · next h => exact forSegs_view_beyond hn hv (Nat.le_of_not_lt h)

/-- The same over a set of segments. -/
theorem forSet_view_of_map {g : SegId → α → α} (hn : ∀ k t, (f k t).loop.n = t.loop.n)
    (hg : ∀ k j t, view (f k t) j = if k = j then g k (view t k) else view t j) (m : SegSet) (s : State) (j : SegId) :
    view (forSet m f s) j = if j.val < s.loop.n ∧ inSet m j = true then g j (view s j) else view s j := by
  rw [forSet, forSegs_view_of_map (view := view) (g := fun k a => if inSet m k then g k a else a)]
  · by_cases h : j.val < s.loop.n
    · simp only [h, if_true, true_and]
    · simp only [h, if_false, false_and]
  · intro k t
    split
    · exact hn k t
    · rfl
  · intro k j t
    split
    · exact hg k j t
    · split
      · next e => subst e; rfl
      · rfl

end

section
variable {f : SegId → State → State} {R : State → State → Prop}

/-- A pass does what each of its updates does, as far as a reflexive and transitive relation says it. -/
theorem forSegs_rel (refl : ∀ t, R t t) (trans : ∀ t u v, R t u → R u v → R t v) (hf : ∀ k t, R t (f k t)) (s : State) :
    R s (forSegs f s) := by
  rw [forSegs]
  generalize List.finRange 24 = l
  induction l generalizing s with
  | nil => exact refl s
  | cons k l ih =>
    rw [List.foldl_cons]
    split
    · exact trans _ _ _ (hf k s) (ih _)
    · exact ih s

theorem forSet_rel (refl : ∀ t, R t t) (trans : ∀ t u v, R t u → R u v → R t v) (hf : ∀ k t, R t (f k t)) (m : SegSet)
    (s : State) : R s (forSet m f s) :=
  forSegs_rel refl trans (fun k t => by
    split
    · exact hf k t
    · exact refl t) s

/-- A pass commutes with an update that its updates commute with. -/
theorem forSegs_comm {g : State → State} (hn : ∀ t, (g t).loop.n = t.loop.n) (h : ∀ k t, f k (g t) = g (f k t)) (s : State) :
    forSegs f (g s) = g (forSegs f s) := by
  rw [forSegs, forSegs]
  generalize List.finRange 24 = l
  induction l generalizing s with
  | nil => rfl
  | cons k l ih =>
    rw [List.foldl_cons, List.foldl_cons, hn]
    split
    · rw [h, ih]
    · exact ih s

theorem forSet_comm {g : State → State} (hn : ∀ t, (g t).loop.n = t.loop.n) (h : ∀ k t, f k (g t) = g (f k t)) (m : SegSet)
    (s : State) : forSet m f (g s) = g (forSet m f s) :=
  forSegs_comm hn (fun k t => by
    split
    · exact h k t
    · rfl) s

end

/-- R178: a set that names segments 1 to N only. -/
theorem lt_of_setOk {s : State} {m : SegSet} (h : setOk s m = true) {k : SegId} (hk : inSet m k = true) : k.val < s.loop.n := by
  rw [setOk, Bool.and_eq_true, decide_eq_true_eq, decide_eq_true_eq] at h
  by_contra beyond
  have small : m.toNat < 2 ^ k.val := Nat.lt_of_lt_of_le h.2 (Nat.pow_le_pow_right (by decide) (Nat.le_of_not_lt beyond))
  have off : m.toNat.testBit k.val = false := Nat.testBit_eq_false_of_lt small
  exact absurd hk (by rw [inSet, BitVec.getLsbD, off]; decide)

end Sys2Proof.Machine

/-! The reads, the settings that store one value, and service supervision. -/

namespace Sys2Proof.Machine

/-! ### From a block's answer to the statement's words -/

section
variable {i : Instr} {p : Port} {code : Byte} {bytes : List Byte} {body : State → State × Reply} {s w t : State} {st : Status}
  {out : List Byte}

/-- A block that refuses on the shifted state. -/
theorem refuses_of_body (hf : commandFields i = some (p, code, bytes)) (he : exec i s = .next (portCommand i body s))
    (hr : Ready i s) (hb : ∀ u : State, u = (s.modPort p fun q => q.shift (commandFrame code bytes)) → body u = refuse st u) :
    Refuses i s st := by
  rw [Refuses, he, portCommand_served hf hr (t := s) (st := st) (out := [])]
  exact hb _ rfl

end

/-- R164: what is permitted everywhere is ready wherever the part takes frames. -/
theorem ready_of_forAllPorts {i : Instr} {p : Port} {code : Byte} {bytes : List Byte} {s : State}
    (hf : commandFields i = some (p, code, bytes)) (hw : i.wellFormed = true) (ha : admissionOf i = forAllPorts)
    (hh : s.sys.held = false) : Ready i s := by
  refine ⟨hw, hh, ?_⟩
  rw [hf, ha]
  cases p <;> simp [admissionFailure, forAllPorts, Admission.port, Access.admits]

/-! ### Segment numbers -/

theorem segOf_eq_none {s : State} {b : Byte} (h : b.toNat = 0 ∨ s.loop.n < b.toNat) : segOf s b = none :=
  dif_neg (by omega)

theorem segOf_eq_some {s : State} {b : Byte} {k : SegId} (h : b.toNat = k.val + 1) (hn : k.val < s.loop.n) :
    segOf s b = some k := by
  have hk := k.isLt
  unfold segOf
  rw [dif_pos (by omega)]
  exact congrArg some (Fin.ext (by simp only; omega))

/-! ### Status and records (R165, R173, R60) -/

theorem readSegment_refused {s : State} {seg : Byte} (h : seg.toNat = 0 ∨ s.loop.n < seg.toNat) :
    readSegment seg s = refuse .badArgument s := by simp only [readSegment, segOf_eq_none h]

theorem readAllocation_refused {s : State} {seg : Byte} (h : seg.toNat = 0 ∨ s.loop.n < seg.toNat) :
    readAllocation seg s = refuse .badArgument s := by simp only [readAllocation, segOf_eq_none h]

theorem readSegment_accepted {s : State} {seg : Byte} {k : SegId} (h : seg.toNat = k.val + 1) (hn : k.val < s.loop.n) :
    readSegment seg s = (s, ⟨.ok, segFields (s.seg k) ++ foldFields s.loop.fold ++ b1 s.loop.derate ++ b2 s.loop.period ++
      unitFields (s.unit k) ++ b2 s.engine.rampStep ++ selectorFields s k⟩) := by
  simp only [readSegment, segOf_eq_some h hn, answer]

theorem readAllocation_accepted {s : State} {seg : Byte} {k : SegId} (h : seg.toNat = k.val + 1) (hn : k.val < s.loop.n) :
    readAllocation seg s = (s, ⟨.ok, allocationFields s.alloc (s.seg k).eff (s.aseg k)⟩) := by
  simp only [readAllocation, segOf_eq_some h hn, answer]

/-- R173: the port's own record is reported without its pins. -/
theorem readPartStatus_shift (p : Port) (bytes : List Byte) (s : State) :
    readPartStatus (s.modPort p fun q => q.shift bytes) =
      (s.modPort p fun q => q.shift bytes, (readPartStatus s).2) := by cases p <;> rfl

theorem sightedCount_eq (s : State) : sightedCount s =
    (List.finRange 24).countP fun k => decide (k.val < s.loop.n) && decide ((s.seg k).link = .present) :=
  (List.countP_eq_length_filter ..).symm

/-- Settles O7. -/
theorem statusReads : Obligations.StatusReads := by
  refine ⟨fun p s hh => ?_, fun p seg s hh => ?_⟩
  · rw [← sightedCount_eq]
    exact congrArg Host.Outcome.next
      (portCommand_served rfl (ready_of_forAllPorts rfl rfl rfl hh) (readPartStatus_shift ..))
  · have segment : Ready (.readSegment p seg) s := ready_of_forAllPorts rfl rfl rfl hh
    have allocation : Ready (.readAllocation p seg) s := ready_of_forAllPorts rfl rfl rfl hh
    refine ⟨fun beyond => ⟨?_, ?_⟩, fun k hk hn => ⟨?_, ?_⟩⟩
    · exact congrArg Host.Outcome.next (portCommand_served rfl segment (readSegment_refused beyond))
    · exact congrArg Host.Outcome.next (portCommand_served rfl allocation (readAllocation_refused beyond))
    · exact congrArg Host.Outcome.next (portCommand_served rfl segment (readSegment_accepted hk hn))
    · exact congrArg Host.Outcome.next (portCommand_served rfl allocation (readAllocation_accepted hk hn))

/-! ### Talk, playout and directory (R103, R133, R114) -/

theorem readTalk_accepted {s : State} {chans : Byte} (h₁ : 1 ≤ chans.toNat) (h₂ : chans.toNat ≤ 3) :
    readTalk chans s = answer
      ((if chans.getLsbD 0 then talkFields s .t1 else []) ++ (if chans.getLsbD 1 then talkFields s .t2 else []) ++
        b2 s.talk.hangMs ++ b2 s.talk.totS ++ b2 s.talk.itotS ++
        ((List.finRange 24).filter fun k => decide (k.val < s.loop.n)).flatMap (uplinkTableFields s)) s := if_pos ⟨h₁, h₂⟩

theorem readPlayout_accepted {s : State} {chans : Byte} (h₁ : 1 ≤ chans.toNat) (h₂ : chans.toNat ≤ 15) :
    readPlayout chans s = answer
      ((if chans.getLsbD 0 then playFields s .p1 else []) ++ (if chans.getLsbD 1 then playFields s .p2 else []) ++
        (if chans.getLsbD 2 then playFields s .p3 else []) ++ (if chans.getLsbD 3 then playFields s .p4 else []) ++
        counted (s.play.rotation.map fun c => b1 (pchanCode c))) s := if_pos ⟨h₁, h₂⟩

theorem not_channels {chans : Byte} {n : Nat} (h : chans = 0 ∨ n < chans.toNat) : ¬ (1 ≤ chans.toNat ∧ chans.toNat ≤ n) := by
  rcases h with rfl | h
  · exact fun g => absurd g.1 (by decide)
  · omega

theorem readTalk_refused {s : State} {chans : Byte} (h : chans = 0 ∨ 3 < chans.toNat) :
    readTalk chans s = refuse .badArgument s := if_neg (not_channels h)

theorem readPlayout_refused {s : State} {chans : Byte} (h : chans = 0 ∨ 15 < chans.toNat) :
    readPlayout chans s = refuse .badArgument s := if_neg (not_channels h)

theorem ready_readDirectory {p : Port} (first count : Byte) {s : State} (hp : p ≠ .c) (hh : s.sys.held = false) :
    Ready (.readDirectory p first count) s := by
  refine ⟨rfl, hh, ?_⟩
  cases p with
  | c => exact absurd rfl hp
  | o | e => simp [commandFields, admissionOf, admissionFailure, Admission.port, Access.admits]

theorem readDirectory_refused {s : State} {first count : Byte} (h : first.toNat = 0 ∨ 64 < first.toNat ∨ count.toNat = 0 ∨
    16 < count.toNat ∨ 65 < first.toNat + count.toNat) : readDirectory first count s = refuse .badArgument s :=
  if_neg (by omega)

theorem readDirectory_accepted {s : State} {first count : Byte} (h₁ : 1 ≤ first.toNat) (h₂ : first.toNat ≤ 64)
    (h₃ : 1 ≤ count.toNat) (h₄ : count.toNat ≤ 16) (h₅ : first.toNat + count.toNat ≤ 65) :
    readDirectory first count s = answer
      ((((List.finRange 64).filter fun i : MsgId =>
          decide (first.toNat ≤ i.val + 1) && decide (i.val + 1 < first.toNat + count.toNat)).flatMap fun i =>
            directoryFields i (s.msg i)) ++
        b2 (freeBlocks (heldRuns s.store.dir)) ++ b2 (longestFree (heldRuns s.store.dir))) s :=
  if_pos ⟨h₁, h₂, h₃, h₄, h₅⟩

/-- Settles O8. -/
theorem channelAndStoreReads : Obligations.ChannelAndStoreReads := by
  refine ⟨fun p chans s hh => ?_, fun p first count s hp hh => ?_⟩
  · have talk : Ready (.readTalk p chans) s := ready_of_forAllPorts rfl rfl rfl hh
    have play : Ready (.readPlayout p chans) s := ready_of_forAllPorts rfl rfl rfl hh
    refine ⟨fun bad => ?_, fun bad => ?_, fun h₁ h₂ => ?_, fun h₁ h₂ => ?_⟩
    · exact congrArg Host.Outcome.next (portCommand_served rfl talk (readTalk_refused bad))
    · exact congrArg Host.Outcome.next (portCommand_served rfl play (readPlayout_refused bad))
    · exact congrArg Host.Outcome.next (portCommand_served rfl talk (readTalk_accepted h₁ h₂))
    · exact congrArg Host.Outcome.next (portCommand_served rfl play (readPlayout_accepted h₁ h₂))
  · have ready := ready_readDirectory first count hp hh
    refine ⟨fun bad => ?_, fun h₁ h₂ h₃ h₄ h₅ => ?_⟩
    · exact congrArg Host.Outcome.next (portCommand_served rfl ready (readDirectory_refused bad))
    · exact congrArg Host.Outcome.next (portCommand_served rfl ready (readDirectory_accepted h₁ h₂ h₃ h₄ h₅))

/-! ### Settings of one value (R9, R27, R141, R157) -/

theorem setSurveyPeriod_refused {s : State} {ms : Half} (h : ms.toNat < 50 ∨ 1000 < ms.toNat ∨ ms.toNat % 10 ≠ 0) :
    setSurveyPeriod ms s = refuse .badArgument s := if_neg (by omega)

theorem setSurveyPeriod_accepted {s : State} {ms : Half} (h₁ : 50 ≤ ms.toNat) (h₂ : ms.toNat ≤ 1000) (h₃ : ms.toNat % 10 = 0) :
    setSurveyPeriod ms s = accept { s with loop.period := ms.toNat } := if_pos ⟨h₁, h₂, h₃⟩

theorem setRampStep_refused {s : State} {x : Half} (h : x.toNat < 50 ∨ 2000 < x.toNat) :
    setRampStep x s = refuse .badArgument s := if_neg (by omega)

theorem setRampStep_accepted {s : State} {x : Half} (h₁ : 50 ≤ x.toNat) (h₂ : x.toNat ≤ 2000) :
    setRampStep x s = accept { s with engine.rampStep := x.toNat } := if_pos ⟨h₁, h₂⟩

theorem flagOf_eq_none {b : Byte} (h : 2 ≤ b.toNat) : flagOf b = none := by
  unfold flagOf
  split
  · omega
  · omega
  · rfl

theorem flagOf_zero : flagOf 0 = some false := rfl

theorem flagOf_one : flagOf 1 = some true := rfl

theorem setPlayoutPriority_refused {s : State} {mode : Byte} (h : 2 ≤ mode.toNat) :
    setPlayoutPriority mode s = refuse .badArgument s := by simp only [setPlayoutPriority, flagOf_eq_none h]

theorem messageSetting_eq_none {id : Byte} (h : 64 < id.toNat) : messageSetting id = none := by
  have named : id ≠ 0 := by rintro rfl; exact absurd h (by decide)
  rw [messageSetting, if_neg named, msgIdOf_eq_none (.inr h)]
  rfl

theorem messageSetting_eq_some {id : Byte} {i : MsgId} (h : id.toNat = i.val + 1) : messageSetting id = some (some i) := by
  have named : id ≠ 0 := by rintro rfl; exact absurd h (by simp)
  rw [messageSetting, if_neg named, msgIdOf_eq_some h]
  rfl

theorem setIncidentMessage_refused {s : State} {id : Byte} (h : 64 < id.toNat) :
    setIncidentMessage id s = refuse .badArgument s := by simp only [setIncidentMessage, messageSetting_eq_none h]

theorem setIncidentMessage_named {s : State} {id : Byte} {i : MsgId} (h : id.toNat = i.val + 1) :
    setIncidentMessage id s =
      ({ s with inc.message := some i }, ⟨.ok, [1] ++ b1 (msgStateCode (s.msg i).content)⟩) := by
  simp only [setIncidentMessage, messageSetting_eq_some h, Option.map_some, optField]

/-- Settles O17. -/
theorem plainSettings : Obligations.PlainSettings := by
  refine ⟨fun p ms s hr => ⟨fun bad => ?_, fun h₁ h₂ h₃ => ?_⟩, fun p x s hr => ⟨fun bad => ?_, fun h₁ h₂ => ?_⟩,
    fun p mode s hr => ⟨fun bad => ?_, ?_, ?_⟩, fun p id s hr => ⟨fun bad => ?_, ?_, fun i hi => ?_⟩⟩
  · exact congrArg Host.Outcome.next (portCommand_served rfl hr (setSurveyPeriod_refused bad))
  · exact congrArg Host.Outcome.next (portCommand_served rfl hr (setSurveyPeriod_accepted h₁ h₂ h₃))
  · exact congrArg Host.Outcome.next (portCommand_served rfl hr (setRampStep_refused bad))
  · exact congrArg Host.Outcome.next (portCommand_served rfl hr (setRampStep_accepted h₁ h₂))
  · exact congrArg Host.Outcome.next (portCommand_served rfl hr (setPlayoutPriority_refused bad))
  · rintro rfl
    exact congrArg Host.Outcome.next (portCommand_served rfl hr rfl)
  · rintro rfl
    exact congrArg Host.Outcome.next (portCommand_served rfl hr rfl)
  · exact congrArg Host.Outcome.next (portCommand_served rfl hr (setIncidentMessage_refused bad))
  · rintro rfl
    exact congrArg Host.Outcome.next (portCommand_served rfl hr rfl)
  · exact congrArg Host.Outcome.next (portCommand_served rfl hr (setIncidentMessage_named hi))

/-! ### READ ALERTS (R71) -/

theorem clearRead_meters (p : Port) (k j : SegId) (s : State) : (clearRead p k s).meters j =
    if k = j then Six.build fun e => if ownerPort e = p then ((s.meters k).get e).readClear else (s.meters k).get e
    else s.meters j := modMeters_meters ..

/-- R71: what a port's read makes of a segment's metering record. -/
theorem readAlerts_meters (p : Port) {segs : SegSet} {s : State} (h : setOk s segs = true) (k : SegId) (e : Entry) :
    ((forSet segs (clearRead p) s).meters k).get e =
      if inSet segs k = true ∧ ownerPort e = p then ((s.meters k).get e).readClear else (s.meters k).get e := by
  have passed := forSet_view_of_map (view := State.meters) (f := clearRead p)
    (g := fun _ v => Six.build fun e => if ownerPort e = p then (v.get e).readClear else v.get e) (fun _ _ => rfl)
    (fun k j t => clearRead_meters p k j t) segs s k
  rw [passed]
  by_cases hk : inSet segs k = true
  · rw [if_pos ⟨lt_of_setOk h hk, hk⟩, Six_get_build]
    simp only [hk, true_and]
  · rw [if_neg fun g => hk g.2, if_neg fun g => hk g.1]

theorem readClear_eq (x : MeterEntry) : x.readClear =
    if x.mode = .latched then { x with overFlag := x.overFlag && x.isOver, underFlag := x.underFlag && x.isUnder } else x := by
  unfold MeterEntry.readClear
  cases hm : x.mode <;> simp [hm]

/-- Metering records alone are written. -/
def OnlyRecs (s t : State) : Prop := ∃ v, t = { s with meter.recs := v }

theorem readAlerts_onlyRecs (p : Port) (segs : SegSet) (s : State) : OnlyRecs s (forSet segs (clearRead p) s) := by
  refine forSet_rel (fun t => ⟨t.meter.recs, rfl⟩) ?_ (fun k t => ⟨_, rfl⟩) segs s
  rintro t u v ⟨a, rfl⟩ ⟨b, rfl⟩
  exact ⟨b, rfl⟩

/-- Settles O10: on the shifted state the report and the clearing are those of the state itself. -/
theorem alertReads : Obligations.AlertReads := by
  intro p segs s hh
  have ready : Ready (.readAlerts p segs) s := ready_of_forAllPorts rfl rfl rfl hh
  refine ⟨fun bad => ?_, fun ok => ?_⟩
  · have refused (u : State) (hu : u.loop = s.loop) : readAlerts p segs u = refuse .badArgument u := by
      have bad' : setOk u segs = false := by rw [setOk, hu]; exact bad
      simp only [readAlerts, bad', Bool.false_eq_true, if_false]
    exact congrArg Host.Outcome.next (portCommand_served rfl ready (refused _ rfl))
  · have clear (bytes : List Byte) : readAlerts p segs (s.modPort p fun q => q.shift bytes) =
        ((forSet segs (clearRead p) s).modPort p fun q => q.shift bytes,
          ⟨.ok, (setMembers segs).flatMap fun k => Entry.every.flatMap fun e => alertFields s k e⟩) := by
      have ok' : setOk (s.modPort p fun q => q.shift bytes) segs = true := ok
      have comm : forSet segs (clearRead p) (s.modPort p fun q => q.shift bytes) =
          (forSet segs (clearRead p) s).modPort p fun q => q.shift bytes :=
        forSet_comm (g := fun t => t.modPort p fun q => q.shift bytes) (fun _ => rfl) (fun _ _ => rfl) segs s
      simp only [readAlerts, ok', if_true, comm]
      rfl
    refine ⟨_, congrArg Host.Outcome.next (portCommand_served rfl ready (clear _)), ?_⟩
    have meters := readAlerts_meters p ok
    obtain ⟨v, written⟩ := readAlerts_onlyRecs p segs s
    rw [written] at meters ⊢
    refine ⟨rfl, rfl, fun k e => ?_⟩
    rw [meters]
    by_cases hk : inSet segs k = true ∧ ownerPort e = p
    · rw [if_pos hk, readClear_eq]
      simp only [hk.1, hk.2, true_and]
    · rw [if_neg hk, if_neg fun g => hk ⟨g.1, g.2.1⟩]

/-! ### Service supervision (R166, R167, R169) -/

theorem ready_configureService {p : Port} (period : Byte) {s : State} (hh : s.sys.held = false)
    (hl : (s.port p).lapsed = false) : Ready (.configureService p period) s := by
  refine ⟨rfl, hh, ?_⟩
  cases p <;> simp [commandFields, admissionOf, admissionFailure, Admission.port, Access.admits, hl]

theorem port_shift (p : Port) (bytes : List Byte) (s : State) :
    (s.modPort p fun q => q.shift bytes).port p = (s.port p).shift bytes := by rw [modPort_port, if_pos rfl]

/-- A change of a port's record that the shift of a frame does not touch. -/
theorem modPort_shift {f : PortRec → PortRec} {p : Port} {bytes : List Byte} (h : ∀ q, f (q.shift bytes) = (f q).shift bytes)
    (s : State) : (s.modPort p fun q => q.shift bytes).modPort p f = (s.modPort p f).modPort p fun q => q.shift bytes :=
  modPort_comm (g := fun q => q.shift bytes) h p s

theorem modPort_congr {s : State} {p : Port} {f g : PortRec → PortRec} (h : f (s.port p) = g (s.port p)) :
    s.modPort p f = s.modPort p g := by
  rw [State.modPort, State.modPort, show f (s.ports.get p) = g (s.ports.get p) from h]

theorem serviceArm_unsupervised {p : Port} {s : State} (h : (s.port p).service = none) : serviceArm p s = accept s := by
  simp only [serviceArm, h, Option.isNone_none, if_true]

theorem serviceArm_supervised {p : Port} {s : State} {d : Period} (h : (s.port p).service = some d) :
    serviceArm p s = accept (s.modPort p fun q => { q with arm := true }) := by
  simp only [serviceArm, h, Option.isNone_some, Bool.false_eq_true, if_false]

theorem serviceConfirm_unsupervised {p : Port} {s : State} (h : (s.port p).service = none) :
    serviceConfirm p s = accept s := by simp only [serviceConfirm, h]

theorem serviceConfirm_unarmed {p : Port} {s : State} {d : Period} (h : (s.port p).service = some d)
    (ha : (s.port p).arm = false) : serviceConfirm p s = refuse .noArm s := by
  simp only [serviceConfirm, h, ha, Bool.not_false, if_true]

/-- R167, R169: the port's record after a SERVICE CONFIRM. -/
def confirmed (d : Period) (now : Word) (q : PortRec) : PortRec :=
  { q with lapsed := false, arm := false, expiry := some (after now d.ms) }

theorem serviceConfirm_armed {p : Port} {s : State} {d : Period} (h : (s.port p).service = some d)
    (ha : (s.port p).arm = true) : serviceConfirm p s =
      accept (if (s.port p).lapsed then raiseRestored p (s.modPort p (confirmed d s.sys.uptime))
        else s.modPort p (confirmed d s.sys.uptime)) := by
  simp only [serviceConfirm, h, ha, Bool.not_true, Bool.false_eq_true, if_false]
  rfl

theorem periodOf_eq_none {b : Byte} (h : b ∉ ([1, 4, 16, 64] : List Byte)) : periodOf b = none := by
  simp only [List.mem_cons, List.not_mem_nil, or_false, not_or] at h
  obtain ⟨h₁, h₂, h₃, h₄⟩ := h
  unfold periodOf
  split
  · next e => exact absurd (BitVec.eq_of_toNat_eq e) h₁
  · next e => exact absurd (BitVec.eq_of_toNat_eq e) h₂
  · next e => exact absurd (BitVec.eq_of_toNat_eq e) h₃
  · next e => exact absurd (BitVec.eq_of_toNat_eq e) h₄
  · rfl

theorem periodOf_eq_some {b : Byte} {d : Period} (h : b.toNat = d.seconds) : periodOf b = some d := by
  unfold periodOf
  cases d <;> simp only [Period.seconds] at h <;> simp only [h]

/-- R166: the port's record after a CONFIGURE SERVICE. -/
def configured (d : Period) (now : Word) (q : PortRec) : PortRec :=
  { q with service := some d, configured := true, arm := false, expiry := some (after now d.ms) }

theorem configureService_again {p : Port} {period : Byte} {s : State} (h : (s.port p).configured = true) :
    configureService p period s = refuse .alreadySet s := by simp only [configureService, h, if_true]

theorem configureService_refused {p : Port} {period : Byte} {s : State} (h : (s.port p).configured = false)
    (hp : period ∉ ([1, 4, 16, 64] : List Byte)) : configureService p period s = refuse .badArgument s := by
  simp only [configureService, h, Bool.false_eq_true, if_false, periodOf_eq_none hp]

theorem configureService_accepted {p : Port} {period : Byte} {s : State} {d : Period} (h : (s.port p).configured = false)
    (hd : period.toNat = d.seconds) :
    configureService p period s = accept (s.modPort p (configured d s.sys.uptime)) := by
  simp only [configureService, h, Bool.false_eq_true, if_false, periodOf_eq_some hd]
  rfl

/-- Settles O13: each block's equation, on a state whose port has the frame shifted through it. -/
theorem serviceCommands : Obligations.ServiceCommands := by
  intro p s hh
  have arm : Ready (.serviceArm p) s := ready_of_forAllPorts rfl rfl rfl hh
  have confirm : Ready (.serviceConfirm p) s := ready_of_forAllPorts rfl rfl rfl hh
  have shift (bytes : List Byte) := port_shift p bytes s
  refine ⟨fun none => ⟨?_, ?_⟩, fun d some => ⟨?_, fun unarmed => ?_, fun armed live => ?_, fun armed lapsed => ?_⟩,
    fun period live => ?_⟩
  · exact congrArg Host.Outcome.next (portCommand_served rfl arm (serviceArm_unsupervised (by rw [shift]; exact none)))
  · exact congrArg Host.Outcome.next (portCommand_served rfl confirm (serviceConfirm_unsupervised (by rw [shift]; exact none)))
  · refine congrArg Host.Outcome.next (portCommand_served rfl arm ((serviceArm_supervised (by rw [shift]; exact some)).trans ?_))
    exact congrArg accept (modPort_shift (f := fun q => { q with arm := true }) (fun _ => rfl) s)
  · exact congrArg Host.Outcome.next
      (portCommand_served rfl confirm (serviceConfirm_unarmed (by rw [shift]; exact some) (by rw [shift]; exact unarmed)))
  · refine congrArg Host.Outcome.next (portCommand_served rfl confirm
      ((serviceConfirm_armed (by rw [shift]; exact some) (by rw [shift]; exact armed)).trans ?_))
    rw [shift, if_neg (by rw [PortRec.shift, live]; decide), modPort_sys, modPort_shift (f := confirmed d s.sys.uptime) (fun _ => rfl)]
    have stays : s.modPort p (confirmed d s.sys.uptime) =
        s.modPort p fun q => { q with arm := false, expiry := Option.some (s.sys.uptime + BitVec.ofNat 32 (d.seconds * 1000)) } :=
      modPort_congr (by rw [confirmed, ← live]; rfl)
    rw [stays]
    rfl
  · refine congrArg Host.Outcome.next (portCommand_served rfl confirm
      ((serviceConfirm_armed (by rw [shift]; exact some) (by rw [shift]; exact armed)).trans ?_))
    rw [shift, if_pos (by rw [PortRec.shift]; exact lapsed), modPort_sys, modPort_shift (f := confirmed d s.sys.uptime) (fun _ => rfl)]
    exact congrArg accept (raise_shift ..)
  · have ready : Ready (.configureService p period) s := ready_configureService period hh live
    refine ⟨fun again => ?_, fun fresh bad => ?_, fun d fresh hd => ?_⟩
    · exact congrArg Host.Outcome.next (portCommand_served rfl ready (configureService_again (by rw [shift]; exact again)))
    · exact congrArg Host.Outcome.next
        (portCommand_served rfl ready (configureService_refused (by rw [shift]; exact fresh) bad))
    · refine congrArg Host.Outcome.next
        (portCommand_served rfl ready ((configureService_accepted (by rw [shift]; exact fresh) hd).trans ?_))
      exact congrArg accept (modPort_shift (f := configured d s.sys.uptime) (fun _ => rfl) s)

end Sys2Proof.Machine

/-! The grant round's bounds (R48 to R51): each amount of the round against its request, and the sum against E. -/

namespace Sys2Proof.Machine

section
variable (eff : Nat) (w : Wants) (p : Carrier)

/-- An excess is shared by less than a whole: with one leftover milliwatt a share stays within it. -/
theorem share_lt {a x sum : Nat} (hx : 0 < x) (h : a < sum) : a * x / sum < x :=
  Nat.div_lt_of_lt_mul (Nat.mul_lt_mul_of_pos_right h hx)

/-- What each carrier is given above its floor. -/
theorem grantRound_carrier_le (hw : ∀ c, (w.c.get c).f ≤ (w.c.get c).r) (c : Carrier) :
    (amounts eff w p).floors.get c ≤ (grantRound eff w p).1.get c.entry ∧
    (grantRound eff w p).1.get c.entry ≤ (w.c.get c).r := by
  have floor : (amounts eff w p).floors.get c ≤ (w.c.get c).f := by rw [amounts_floor]; exact Nat.min_le_left ..
  have request := hw c
  have excess : (amounts eff w p).excess.get c = (w.c.get c).r - (amounts eff w p).floors.get c :=
    (Four_get_zipWith ..).trans (congrArg (· - _) (Four_get_map ..))
  by_cases h : (amounts eff w p).excess.total ≤ (amounts eff w p).left
  · rw [(grantRound_of_fits eff w p h).1 c]
    omega
  · have shared := Nat.not_le.mp h
    have share : (amounts eff w p).shares.get c =
        (amounts eff w p).left * (amounts eff w p).excess.get c / (amounts eff w p).excess.total := Four_get_map ..
    rw [(grantRound_of_shared eff w p shared).1 c, share]
    by_cases asks : 0 < (amounts eff w p).excess.get c
    · have less := share_lt asks shared
      split <;> omega
    · have nothing : (amounts eff w p).excess.get c = 0 := by omega
      rw [if_neg (fun g => asks g.1), nothing, Nat.mul_zero, Nat.zero_div]
      omega

/-- The requests of a segment, entry by entry. -/
def Wants.requests (w : Wants) : Six Nat := ⟨w.c.c1.r, w.c.c2.r, w.c.c3.r, w.c.c4.r, w.rs.r, w.bc.r⟩

theorem requests_get_carrier (w : Wants) (c : Carrier) : w.requests.get c.entry = (w.c.get c).r := by cases c <;> rfl

theorem requests_total (w : Wants) : w.requests.total = (w.c.map (·.r)).total + w.rs.r + w.bc.r := rfl

theorem entry_cases {P : Entry → Prop} (carrier : ∀ c : Carrier, P c.entry) (rs : P .rs) (bc : P .bc) (e : Entry) : P e := by
  cases e with
  | c1 => exact carrier .c1
  | c2 => exact carrier .c2
  | c3 => exact carrier .c3
  | c4 => exact carrier .c4
  | rs => exact rs
  | bc => exact bc

theorem grantRound_le_requests (hr : w.rs.f ≤ w.rs.r) (hb : w.bc.f ≤ w.bc.r) (hw : ∀ c, (w.c.get c).f ≤ (w.c.get c).r)
    (e : Entry) : (grantRound eff w p).1.get e ≤ w.requests.get e := by
  refine entry_cases (P := fun e => (grantRound eff w p).1.get e ≤ w.requests.get e) (fun c => ?_) ?_ ?_ e
  · rw [requests_get_carrier]
    exact (grantRound_carrier_le eff w p hw c).2
  · have floor : (amounts eff w p).rsFloor ≤ w.rs.f := Nat.min_le_left ..
    have more : (amounts eff w p).rsMore ≤ w.rs.r - (amounts eff w p).rsFloor := Nat.min_le_left ..
    change (amounts eff w p).rsFloor + (amounts eff w p).rsMore ≤ w.rs.r
    omega
  · have floor : (amounts eff w p).bcFloor ≤ w.bc.f := Nat.min_le_left ..
    have more : (amounts eff w p).bcMore ≤ w.bc.r - (amounts eff w p).bcFloor := Nat.min_le_left ..
    change (amounts eff w p).bcFloor + (amounts eff w p).bcMore ≤ w.bc.r
    omega

/-- The sum of the grants, by the phases. -/
theorem grantRound_total : (grantRound eff w p).1.total = (amounts eff w p).rsFloor + (amounts eff w p).rsMore +
    ((amounts eff w p).bcFloor + (amounts eff w p).bcMore) + (amounts eff w p).floors.total +
    min (amounts eff w p).left (amounts eff w p).excess.total := by
  have carriers := sum_rotationFrom p fun c : Carrier => (grantRound eff w p).1.get c.entry
  have total : (grantRound eff w p).1.total = ((grantRound eff w p).1.get Carrier.c1.entry +
      (grantRound eff w p).1.get Carrier.c2.entry + (grantRound eff w p).1.get Carrier.c3.entry +
      (grantRound eff w p).1.get Carrier.c4.entry) + (grantRound eff w p).1.rs + (grantRound eff w p).1.bc := rfl
  rw [total, ← carriers, grantRound_rs, grantRound_bc]
  by_cases h : (amounts eff w p).excess.total ≤ (amounts eff w p).left
  · rw [funext (grantRound_of_fits eff w p h).1, sum_rotationFrom]
    simp only [Four_total] at *
    omega
  · rw [excess_of_shared eff w p (Nat.not_le.mp h)]
    omega

theorem excess_total (hw : ∀ c, (w.c.get c).f ≤ (w.c.get c).r) :
    (amounts eff w p).excess.total = (w.c.map (·.r)).total - (amounts eff w p).floors.total ∧
    (amounts eff w p).floors.total ≤ (w.c.map (·.r)).total := by
  have floor (c : Carrier) : (amounts eff w p).floors.get c ≤ (w.c.get c).r :=
    Nat.le_trans (by rw [amounts_floor]; exact Nat.min_le_left ..) (hw c)
  have excess (c : Carrier) : (amounts eff w p).excess.get c = (w.c.get c).r - (amounts eff w p).floors.get c :=
    (Four_get_zipWith ..).trans (congrArg (· - _) (Four_get_map ..))
  have f1 := floor .c1; have f2 := floor .c2; have f3 := floor .c3; have f4 := floor .c4
  simp only [Four_total, excess, Four_get_map]
  omega

/-- A round that serves every request in full, or gives out E. -/
theorem grantRound_total_eq (hr : w.rs.f ≤ w.rs.r) (hb : w.bc.f ≤ w.bc.r) (hw : ∀ c, (w.c.get c).f ≤ (w.c.get c).r) :
    (grantRound eff w p).1.total = min eff w.requests.total := by
  obtain ⟨excess, floors'⟩ := excess_total eff w p hw
  have floors := floors_total eff w p
  have left := amounts_left eff w p
  have after : (amounts eff w p).afterFloors = eff - (amounts eff w p).rsFloor - (amounts eff w p).bcFloor := rfl
  have rs : (amounts eff w p).rsFloor = min w.rs.f eff := rfl
  have bc : (amounts eff w p).bcFloor = min w.bc.f (eff - (amounts eff w p).rsFloor) := rfl
  have a3 := floorPhase_left (w.c.map (·.f)) (rotationFrom p) (amounts eff w p).afterFloors (.all 0)
  rw [sum_rotationFrom, ← Four_total] at a3
  have rsMore : (amounts eff w p).rsMore = min (w.rs.r - (amounts eff w p).rsFloor)
      ((amounts eff w p).afterFloors - (w.c.map (·.f)).total) :=
    congrArg (min (w.rs.r - (amounts eff w p).rsFloor)) a3
  have bcMore : (amounts eff w p).bcMore = min (w.bc.r - (amounts eff w p).bcFloor)
      ((amounts eff w p).afterFloors - (w.c.map (·.f)).total - (amounts eff w p).rsMore) :=
    congrArg (fun a => min (w.bc.r - (amounts eff w p).bcFloor) (a - (amounts eff w p).rsMore)) a3
  have carriers : (w.c.map (·.f)).total ≤ (w.c.map (·.r)).total := by
    have f1 := hw .c1; have f2 := hw .c2; have f3 := hw .c3; have f4 := hw .c4
    simp only [Four_total, Four_get_map]
    omega
  rw [grantRound_total, requests_total]
  generalize amounts eff w p = x at *
  generalize (w.c.map (·.f)).total = F at *
  generalize (w.c.map (·.r)).total = R at *
  generalize x.floors.total = fl at *
  generalize x.excess.total = ex at *
  obtain ⟨rsFloor, bcFloor, afterFloors, fs, rsM, bcM, lft, exs⟩ := x
  simp only at *
  omega

/-- Six amounts within six others of the same sum are those. -/
theorem Six_eq_of_le {v u : Six Nat} (h : ∀ e, v.get e ≤ u.get e) (ht : u.total ≤ v.total) : v = u := by
  have e1 := h .c1; have e2 := h .c2; have e3 := h .c3; have e4 := h .c4; have e5 := h .rs; have e6 := h .bc
  obtain ⟨a1, a2, a3, a4, a5, a6⟩ := v
  obtain ⟨b1, b2, b3, b4, b5, b6⟩ := u
  simp only [Six.get, Six.total] at *
  congr 1 <;> omega

/-- The carriers' floors where all floors fit. -/
theorem floors_of_fit (h : w.rs.f + w.bc.f + (w.c.map (·.f)).total ≤ eff) (c : Carrier) :
    (amounts eff w p).floors.get c = (w.c.get c).f := by
  have total := floors_total eff w p
  have after : (amounts eff w p).afterFloors = eff - min w.rs.f eff - min w.bc.f (eff - min w.rs.f eff) := rfl
  have floor (c : Carrier) : (amounts eff w p).floors.get c ≤ (w.c.get c).f := by
    rw [amounts_floor]
    exact Nat.min_le_left ..
  have f1 := floor .c1; have f2 := floor .c2; have f3 := floor .c3; have f4 := floor .c4
  simp only [Four_total, Four_get_map] at *
  cases c <;> omega

/-- R49: what the floors leave, by what they give. -/
theorem floorPhase_rest : (floorPhase (w.c.map (·.f)) (rotationFrom p) (amounts eff w p).afterFloors (.all 0)).2 =
    (amounts eff w p).afterFloors - ((rotationFrom p).map (amounts eff w p).floors.get).sum := by
  have total := floors_total eff w p
  rw [floorPhase_left, sum_rotationFrom, sum_rotationFrom]
  simp only [Four_total] at total
  omega

theorem excess_get (c : Carrier) : (amounts eff w p).excess.get c = (w.c.get c).r - (amounts eff w p).floors.get c :=
  (Four_get_zipWith ..).trans (congrArg (· - _) (Four_get_map ..))

theorem shares_get (c : Carrier) : (amounts eff w p).shares.get c =
    (amounts eff w p).left * (amounts eff w p).excess.get c / (amounts eff w p).excess.total := Four_get_map ..

/-- The pointer moves where a leftover milliwatt has been given, and only by one. -/
theorem grantRound_pointer : (grantRound eff w p).2 = p ∨ (grantRound eff w p).2 = nextCarrier p := by
  by_cases h : (amounts eff w p).excess.total ≤ (amounts eff w p).left
  · exact .inl (grantRound_of_fits eff w p h).2
  · rw [(grantRound_of_shared eff w p (Nat.not_le.mp h)).2]
    split
    · exact .inr rfl
    · exact .inl rfl

end

/-! ### The effective floors and requests (R45 to R47) -/

theorem carrierWant_le (l : Level) (cap : Nat) (e : CarrierEntry) : (carrierWant l cap e).f ≤ (carrierWant l cap e).r := by
  unfold carrierWant
  split
  · exact Nat.le_refl _
  · split <;> simp only <;> omega

theorem wantsOf_le (al : AllocRec) (eff : Nat) (a : AllocSeg) : (wantsOf al eff a).rs.f ≤ (wantsOf al eff a).rs.r ∧
    (wantsOf al eff a).bc.f ≤ (wantsOf al eff a).bc.r ∧ ∀ c, ((wantsOf al eff a).c.get c).f ≤ ((wantsOf al eff a).c.get c).r :=
  ⟨Nat.le_max_right .., Nat.le_max_right .., fun c => by
    rw [show (wantsOf al eff a).c.get c = _ from Four_get_map ..]
    exact carrierWant_le ..⟩

theorem wantsOf_carrier (al : AllocRec) (eff : Nat) (a : AllocSeg) (c : Carrier) :
    (wantsOf al eff a).c.get c = carrierWant al.level (carrierCap eff al.capPct) (a.c.get c) := Four_get_map ..

/-- R44: in an incident the cap bounds a carrier's request. -/
theorem carrierWant_le_cap (cap : Nat) (e : CarrierEntry) : (carrierWant .incident cap e).r ≤ cap := by
  unfold carrierWant
  split
  · exact Nat.zero_le _
  · exact Nat.min_le_right ..

/-- Settles O47: the effective values by their definition, the bounds from the sums of the phases, the phases by their own lemmas. -/
theorem grantRounds : Obligations.GrantRounds := by
  refine ⟨rfl, fun al eff a => ?_, fun eff w p hr hb hw => ?_⟩
  · obtain ⟨rs, bc, carriers⟩ := wantsOf_le al eff a
    refine ⟨fun c suspended => ?_, fun c free normal => ?_, fun c free incident => ?_, ?_, rfl, ?_, rfl, fun incident c => ?_⟩
    · rw [wantsOf_carrier]
      exact if_pos suspended
    · rw [wantsOf_carrier, normal]
      exact if_neg (by rw [free]; decide)
    · rw [wantsOf_carrier, incident]
      refine (if_neg (by rw [free]; decide)).trans ?_
      simp only [carrierCap, Want.mk.injEq, and_true]
      omega
    · cases hl : al.level <;> simp [wantsOf, rescueWant, floorInForce, hl]
    · cases hl : al.level <;> simp [wantsOf, broadcastWant, floorInForce, hl]
    · refine Nat.le_trans (grantRound_carrier_le eff _ a.ptr carriers c).2 ?_
      rw [wantsOf_carrier, incident]
      exact carrierWant_le_cap _ _
  · have within := grantRound_le_requests eff w p hr hb hw
    have total := grantRound_total_eq eff w p hr hb hw
    have full (fits : w.requests.total ≤ eff) : (grantRound eff w p).1 = w.requests :=
      Six_eq_of_le within (by omega)
    refine ⟨by omega, within, full, fun exceed => total.trans (Nat.min_eq_left exceed), Nat.le_add_right .., Nat.le_add_right ..,
      fun fit c => ?_, fun fits => ?_, grantRound_pointer eff w p, ?_⟩
    · rw [← floors_of_fit eff w p fit c]
      exact (grantRound_carrier_le eff w p hw c).1
    · obtain ⟨excess, floors⟩ := excess_total eff w p hw
      have given := grantRound_total eff w p
      have rs : (amounts eff w p).rsFloor + (amounts eff w p).rsMore ≤ w.rs.r := within .rs
      have bc : (amounts eff w p).bcFloor + (amounts eff w p).bcMore ≤ w.bc.r := within .bc
      have fits : (w.c.map (·.r)).total + w.rs.r + w.bc.r ≤ eff := fits
      rw [requests_total] at total
      refine (grantRound_of_fits eff w p ?_).2
      omega
    · intro order
      have rotation : order = rotationFrom p := (rotationFrom_eq p).symm
      clear_value order
      subst rotation
      intro before rsFloor bcFloor a2 floor a3 rsMore bcMore a5 x sum share d
      have floors (c : Carrier) : (amounts eff w p).floors.get c = floor c := amounts_floor eff w p c
      have rest := floorPhase_rest eff w p
      rw [funext floors] at rest
      have more : (amounts eff w p).rsMore = rsMore := congrArg (min (w.rs.r - rsFloor)) rest
      have moreBc : (amounts eff w p).bcMore = bcMore := by
        refine congrArg₂ (fun a b => min (w.bc.r - bcFloor) (a - b)) rest more
      have left : (amounts eff w p).left = a5 := congrArg₂ (· - ·) (congrArg₂ (· - ·) rest more) moreBc
      have excess (c : Carrier) : (amounts eff w p).excess.get c = x c :=
        (excess_get eff w p c).trans (congrArg ((w.c.get c).r - ·) (floors c))
      have excesses : (amounts eff w p).excess.total = sum := by
        rw [Four_total, ← sum_rotationFrom p, funext excess]
      have shares (c : Carrier) : (amounts eff w p).shares.get c = share c := by
        rw [shares_get, left, excess, excesses]
      have leftover : (amounts eff w p).leftover = d := by
        refine congrArg₂ (· - ·) left ?_
        rw [Four_total, ← sum_rotationFrom p, funext shares]
      refine ⟨congrArg (rsFloor + ·) more, congrArg (bcFloor + ·) moreBc, fun fits => ?_, fun shared => ?_⟩
      · obtain ⟨each, pointer⟩ := grantRound_of_fits eff w p (by rwa [excesses, left])
        exact ⟨fun c => by rw [each, floors, excess], pointer⟩
      · obtain ⟨each, pointer⟩ := grantRound_of_shared eff w p (by rwa [excesses, left])
        refine ⟨fun c => ?_, by rw [pointer, leftover]⟩
        rw [each, floors, shares, leftover]
        simp only [excess]
        rfl

end Sys2Proof.Machine

/-! Resets, and the commands that load the message store. -/

namespace Sys2Proof.Machine

/-! ### Resets (R174, R175) -/

section
variable {cause : ResetCause} (warm : cause ≠ .powerOn) (held : Bool) (s : State)
include warm

theorem resetState_sys : (resetState cause held s).sys =
    { part := .setup, cause := cause, fresh := s.sys.fresh, uptime := 0, held := held } := by
  have cold : (decide (cause = .powerOn)) = false := decide_eq_false warm
  simp only [resetState, cold, Bool.false_or]

theorem resetState_meter : (resetState cause held s).meter =
    { State.reset.meter with energy := s.meter.energy, airtime := s.meter.airtime } := by
  have cold : (decide (cause = .powerOn)) = false := decide_eq_false warm
  simp only [resetState, cold, Bool.false_eq_true, if_false]
  rfl

theorem resetState_store : (resetState cause held s).store = { s.store with dir := vall s.store.dir MsgRec.warm } := by
  have cold : (decide (cause = .powerOn)) = false := decide_eq_false warm
  simp only [resetState, cold, Bool.false_eq_true, if_false]

/-- R118: a warm reset keeps the closed messages and no use count. -/
theorem resetState_msg (i : MsgId) : (resetState cause held s).msg i =
    ⟨if (s.msg i).content.isClosed = true then (s.msg i).content else .empty, 0⟩ := by
  rw [State.msg, resetState_store warm]
  exact vall_get ..

end

theorem exec_resetPart {p : Port} {s : State} (hr : Ready (.resetPart p) s) :
    exec (.resetPart p) s = .next (resetState .command false s) := by
  have period := takePeriod_of_ready (p := p) rfl hr
  change Host.Outcome.next (match takePeriod (.resetPart p) s with
    | .ignored t => t
    | .refused t => t
    | .passed t _ _ => resetState .command false t) = _
  rw [period]
  rfl

theorem endReset_eq (s : State) : endReset s = { s with sys := { s.sys with held := false } } := by
  unfold endReset
  split
  · rfl
  · next free =>
    have live : s.sys = { s.sys with held := false } := by rw [← Bool.eq_false_iff.mpr free]
    rw [← live]

/-- What a reset returns to the reset values. -/
theorem resetState_rest (cause : ResetCause) (held : Bool) (s : State) :
    { resetState cause held s with
        sys := State.reset.sys, meter := State.reset.meter, store := State.reset.store, inc := State.reset.inc,
        plant := State.reset.plant, draws := State.reset.draws, pending := State.reset.pending } = State.reset := by
  unfold resetState
  rfl

theorem resetState_powerOn (s : State) : resetState .powerOn true s =
    { State.reset with sys := { State.reset.sys with held := true }, inc := { State.reset.inc with raw := s.inc.raw },
                       plant := s.plant, draws := s.draws, pending := s.pending } := by
  have cold : (decide (ResetCause.powerOn = .powerOn)) = true := rfl
  simp only [resetState, cold, if_true, Bool.true_or]
  rfl

theorem beginLine_of_free {s : State} (h : ¬ (s.sys.held = true ∧ s.sys.cause = .powerOn)) :
    beginLine s = resetState .line true s := if_neg h

theorem beginLine_of_powerOn {s : State} (held : s.sys.held = true) (on : s.sys.cause = .powerOn) : beginLine s = s :=
  if_pos ⟨held, on⟩

/-- Settles O27. -/
theorem resets : Obligations.Resets := by
  refine ⟨⟨fun p s hr => ⟨_, exec_resetPart hr, ?_⟩, fun s => congrArg Host.Outcome.next (resetState_powerOn s), fun s free => ⟨_, congrArg Host.Outcome.next (beginLine_of_free free), ?_⟩,
    fun s held on => congrArg Host.Outcome.next (beginLine_of_powerOn held on), fun s => congrArg Host.Outcome.next (endReset_eq s)⟩,
    fun s p k c held => ⟨?_, if_pos held, if_pos held, ?_⟩⟩
  · have warm : ResetCause.command ≠ .powerOn := by decide
    exact ⟨resetState_rest _ _ s, resetState_sys warm false s, resetState_meter warm false s,
      by rw [resetState_store warm],
      fun i => by rw [resetState_msg warm]; exact ⟨rfl, rfl⟩, rfl, rfl, rfl, rfl⟩
  · have warm : ResetCause.line ≠ .powerOn := by decide
    exact ⟨resetState_rest _ _ s, resetState_sys warm true s, resetState_meter warm true s,
      by rw [resetState_store warm],
      fun i => by rw [resetState_msg warm]; exact ⟨rfl, rfl⟩, rfl, rfl, rfl, rfl⟩
  · rw [State.attention, held]
    rfl
  · rw [downlinkPath, held]
    rfl

/-! ### WRITE CHUNK (R109, R105) -/

theorem msgAddr_eq (first j : Nat) : msgAddr first j = BitVec.ofNat 22 (first * 4096 + j) := by
  have whole : (first + j / Config.blockBytes) * Config.blockBytes + j % Config.blockBytes = first * 4096 + j := by
    rw [Config.blockBytes]
    omega
  rw [msgAddr, whole]

/-- The bytes of a chunk have addresses of their own. -/
theorem msgAddr_ne (first j : Nat) {m n : Nat} (h : m < n) (hn : n < 4194304) : msgAddr first (j + m) ≠ msgAddr first (j + n) := by
  rw [msgAddr_eq, msgAddr_eq]
  intro e
  have := congrArg BitVec.toNat e
  simp only [BitVec.toNat_ofNat] at this
  omega

/-- A byte of a stored run is read back. -/
theorem memRead_memStore_inside (first j : Nat) (bs : List Byte) {mem : List Host.Cell} (h : Memory.wf mem = true)
    (hb : bs.length ≤ 4194304) {n : Nat} (hn : n < bs.length) :
    memRead (memStore mem first j bs) (msgAddr first (j + n)) = bs.getD n 0 := by
  induction bs generalizing mem j n with
  | nil => exact absurd hn (Nat.not_lt_zero n)
  | cons b bs ih =>
    have wf := memWrite_wf (msgAddr first j) b h
    rw [List.length_cons] at hb hn
    rw [memStore]
    cases n with
    | zero =>
      have outside (m : Nat) (hm : m < bs.length) : msgAddr first (j + 0) ≠ msgAddr first (j + 1 + m) := by
        rw [Nat.add_assoc, Nat.add_comm 1]
        exact msgAddr_ne first j (Nat.succ_pos m) (by omega)
      rw [memRead_memStore_outside _ _ _ _ wf outside, memRead_memWrite _ _ _ h, Nat.add_zero, if_pos rfl]
      rfl
    | succ n =>
      rw [Nat.add_comm n 1, ← Nat.add_assoc, ih (j + 1) wf (by omega) (by omega), Nat.add_comm 1 n]
      rfl

section
variable {id : Byte} {offset : Word} {chunk : List Byte} {s : State}

theorem writeChunk_badId (h : id.toNat = 0 ∨ 64 < id.toNat) : writeChunk id offset chunk s = refuse .badArgument s := by
  simp only [writeChunk, msgIdOf_eq_none h]

variable {i : MsgId} (hi : id.toNat = i.val + 1) (hl : chunkLengthOk chunk = true)
include hi hl

theorem writeChunk_notFound (he : (s.msg i).content = .empty) : writeChunk id offset chunk s = refuse .notFound s := by
  simp only [writeChunk, msgIdOf_eq_some hi, hl, he, Bool.not_true, Bool.false_eq_true, if_false]

theorem writeChunk_closed (hc : (s.msg i).content.isClosed = true) : writeChunk id offset chunk s = refuse .badSequence s := by
  cases content : (s.msg i).content with
  | empty => rw [content] at hc; exact nomatch hc
  | loading m next => rw [content] at hc; exact nomatch hc
  | closed m declared damaged =>
    simp only [writeChunk, msgIdOf_eq_some hi, hl, content, Bool.not_true, Bool.false_eq_true, if_false]

variable {m : MsgBody} {next : Nat} (hm : (s.msg i).content = .loading m next)
include hm

theorem writeChunk_outOfSequence (ho : offset.toNat ≠ next) :
    writeChunk id offset chunk s = (s, ⟨.badSequence, b4 next⟩) := by
  simp [writeChunk, msgIdOf_eq_some hi, hl, hm, ho]

theorem writeChunk_beyond (ho : offset.toNat = next) (hx : m.length < next + chunk.length) :
    writeChunk id offset chunk s = refuse .badArgument s := by
  simp [writeChunk, msgIdOf_eq_some hi, hl, hm, ho, hx]

theorem writeChunk_short (ho : offset.toNat = next) (hs : chunk.length ≠ 256) (hx : next + chunk.length ≠ m.length) :
    writeChunk id offset chunk s = refuse .badArgument s := by
  simp [writeChunk, msgIdOf_eq_some hi, hl, hm, ho, hs, hx]

theorem writeChunk_accepted (ho : offset.toNat = next) (hx : next + chunk.length ≤ m.length)
    (hs : chunk.length = 256 ∨ next + chunk.length = m.length) :
    writeChunk id offset chunk s =
      ({ s.modMsg i (fun r => { r with
          content := .loading { m with computed := m.computed + checksum chunk } (next + chunk.length) }) with
          store.mem := memStore s.store.mem m.first next chunk },
        ⟨.ok, [id] ++ b4 (next + chunk.length)⟩) := by
  simp only [writeChunk, msgIdOf_eq_some hi, hl, hm, ho, Nat.not_lt.mpr hx, hs, Bool.not_true, Bool.false_eq_true, ne_eq,
    not_true_eq_false, if_false, if_true]
  rfl

end

/-- Settles O35: each check of the block has its equation; a chunk's bytes stand at addresses of their own. -/
theorem chunkWrites : Obligations.ChunkWrites := by
  intro p id offset chunk s hr
  have length : chunkLengthOk chunk = true := hr.1
  have short : chunk.length ≤ 256 := by
    rw [chunkLengthOk, Bool.and_eq_true, decide_eq_true_eq, decide_eq_true_eq] at length
    exact length.2
  refine ⟨fun bad => congrArg Host.Outcome.next (portCommand_served rfl hr (writeChunk_badId bad)), fun i hi => ?_⟩
  refine ⟨fun empty => congrArg Host.Outcome.next (portCommand_served rfl hr (writeChunk_notFound hi length empty)),
    fun closed => congrArg Host.Outcome.next (portCommand_served rfl hr (writeChunk_closed hi length closed)),
    fun m next hm => ⟨fun ho => ?_, fun ho hx => ?_, fun ho hs hx => ?_, fun ho hx hs => ?_⟩⟩
  · exact congrArg Host.Outcome.next (portCommand_served rfl hr (writeChunk_outOfSequence hi length hm ho))
  · exact congrArg Host.Outcome.next (portCommand_served rfl hr (writeChunk_beyond hi length hm ho hx))
  · exact congrArg Host.Outcome.next (portCommand_served rfl hr (writeChunk_short hi length hm ho hs hx))
  · refine ⟨_, congrArg Host.Outcome.next (portCommand_served rfl hr (writeChunk_accepted hi length hm ho hx hs)),
      fun canonical => ⟨fun n hn => ?_, fun a ha => ?_⟩⟩
    · exact memRead_memStore_inside m.first next chunk canonical (by omega) hn
    · exact memRead_memStore_outside m.first next chunk a canonical ha

/-! ### CLOSE MESSAGE and DELETE MESSAGE (R110, R116) -/

section
variable {id : Byte} {declared : Half} {s : State}

theorem closeMessage_badId (h : id.toNat = 0 ∨ 64 < id.toNat) : closeMessage id declared s = refuse .badArgument s := by
  simp only [closeMessage, msgIdOf_eq_none h]

theorem deleteMessage_badId (h : id.toNat = 0 ∨ 64 < id.toNat) : deleteMessage id s = refuse .badArgument s := by
  simp only [deleteMessage, msgIdOf_eq_none h]

variable {i : MsgId} (hi : id.toNat = i.val + 1)
include hi

theorem closeMessage_notFound (he : (s.msg i).content = .empty) : closeMessage id declared s = refuse .notFound s := by
  simp only [closeMessage, msgIdOf_eq_some hi, he]

theorem closeMessage_closed (hc : (s.msg i).content.isClosed = true) : closeMessage id declared s = refuse .badSequence s := by
  cases content : (s.msg i).content with
  | empty => rw [content] at hc; exact nomatch hc
  | loading m next => rw [content] at hc; exact nomatch hc
  | closed m sum damaged => simp only [closeMessage, msgIdOf_eq_some hi, content]

theorem closeMessage_incomplete {m : MsgBody} {next : Nat} (hm : (s.msg i).content = .loading m next) (hn : next < m.length) :
    closeMessage id declared s = (s, ⟨.incomplete, b4 next⟩) := by
  simp only [closeMessage, msgIdOf_eq_some hi, hm, hn, if_true]

theorem closeMessage_accepted {m : MsgBody} {next : Nat} (hm : (s.msg i).content = .loading m next) (hn : m.length ≤ next) :
    closeMessage id declared s =
      (changeMessage i (.closed m declared (decide (m.computed ≠ declared))) .close s,
        ⟨.ok, b1 (msgStateCode (.closed m declared (decide (m.computed ≠ declared)))) ++ be2 m.computed ++ be2 declared⟩) := by
  simp only [closeMessage, msgIdOf_eq_some hi, hm, Nat.not_lt.mpr hn, if_false]

theorem deleteMessage_notFound (he : (s.msg i).content = .empty) : deleteMessage id s = refuse .notFound s := by
  simp only [deleteMessage, msgIdOf_eq_some hi, he, if_true]

theorem deleteMessage_inUse (he : (s.msg i).content ≠ .empty) (hu : (s.msg i).uses ≠ 0) :
    deleteMessage id s = refuse .inUse s := by
  simp only [deleteMessage, msgIdOf_eq_some hi, he, hu, if_false, ne_eq, not_false_eq_true, if_true]

theorem deleteMessage_accepted (he : (s.msg i).content ≠ .empty) (hu : (s.msg i).uses = 0) :
    deleteMessage id s = accept (changeMessage i .empty .delete s) := by
  simp only [deleteMessage, msgIdOf_eq_some hi, he, hu, if_false, ne_eq, not_true_eq_false]

end

/-- R180: the directory state of a closed message, after its verdict. -/
theorem msgStateCode_closed (m : MsgBody) (declared : Half) :
    b1 (msgStateCode (.closed m declared (decide (m.computed ≠ declared)))) = [if m.computed = declared then 2 else 3] := by
  by_cases match_ : m.computed = declared
  · rw [if_pos match_, decide_eq_false fun g => g match_]
    rfl
  · rw [if_neg match_, decide_eq_true match_]
    rfl

/-- R116: the MESSAGE_STATE of a close: cause 2. -/
theorem changeMessage_close {id : Byte} {i : MsgId} (hi : id.toNat = i.val + 1) (m : MsgBody) (declared : Half) (s : State) :
    changeMessage i (.closed m declared (decide (m.computed ≠ declared))) .close s =
      (s.modMsg i fun r => { r with content := .closed m declared (decide (m.computed ≠ declared)) }).raise toO
        .messageState id (hiLo (if m.computed = declared then 2 else 3) 2) m.computed := by
  have code : BitVec.ofNat 8 (msgStateCode (.closed m declared (decide (m.computed ≠ declared)))) =
      if m.computed = declared then 2 else 3 := List.head_eq_of_cons_eq (msgStateCode_closed m declared)
  rw [changeMessage, idByte_eq hi, code]
  rfl

/-- R116: the MESSAGE_STATE of a deletion: EMPTY, cause 3. -/
theorem changeMessage_delete {id : Byte} {i : MsgId} (hi : id.toNat = i.val + 1) (s : State) :
    changeMessage i .empty .delete s =
      (s.modMsg i fun r => { r with content := .empty }).raise toO .messageState id 0x0003 0 := by
  have detail : hiLo 0 3 = 0x0003 := by decide
  rw [changeMessage, idByte_eq hi, ← detail]
  rfl

/-- Settles O36. -/
theorem closeAndDelete : Obligations.CloseAndDelete := by
  refine ⟨fun p id declared s hr => ⟨fun bad => ?_, fun i hi => ⟨fun empty => ?_, fun closed => ?_, fun m next hm =>
    ⟨fun hn => ?_, fun hn => ?_⟩⟩⟩, fun p id s hr => ⟨fun bad => ?_, fun i hi => ⟨fun empty => ?_, fun held used => ?_,
    fun held free => ?_⟩⟩⟩
  · exact congrArg Host.Outcome.next (portCommand_served rfl hr (closeMessage_badId bad))
  · exact congrArg Host.Outcome.next (portCommand_served rfl hr (closeMessage_notFound hi empty))
  · exact congrArg Host.Outcome.next (portCommand_served rfl hr (closeMessage_closed hi closed))
  · exact congrArg Host.Outcome.next (portCommand_served rfl hr (closeMessage_incomplete hi hm hn))
  · refine congrArg Host.Outcome.next (portCommand_served rfl hr ((closeMessage_accepted (s := s.modPort p _) hi hm hn).trans ?_))
    rw [changeMessage_shift, changeMessage_close hi, msgStateCode_closed]
  · exact congrArg Host.Outcome.next (portCommand_served rfl hr (deleteMessage_badId bad))
  · exact congrArg Host.Outcome.next (portCommand_served rfl hr (deleteMessage_notFound hi empty))
  · exact congrArg Host.Outcome.next (portCommand_served rfl hr (deleteMessage_inUse hi held used))
  · refine congrArg Host.Outcome.next (portCommand_served rfl hr ((deleteMessage_accepted (s := s.modPort p _) hi held free).trans ?_))
    rw [changeMessage_shift, changeMessage_delete hi]
    rfl

end Sys2Proof.Machine

/-! PROGRAM PLAYOUT (R122) and its use counts (R111). -/

namespace Sys2Proof.Machine

theorem pchanOf_eq_none {b : Byte} (h : b.toNat = 0 ∨ 4 < b.toNat) : pchanOf b = none := by
  unfold pchanOf
  split
  · omega
  · omega
  · omega
  · omega
  · rfl

theorem pchanOf_eq_some {b : Byte} {c : PChan} (h : b.toNat = pchanCode c) : pchanOf b = some c := by
  unfold pchanOf
  cases c <;> simp only [pchanCode] at h <;> simp only [h]

theorem playlistOf_eq_none {l : List Byte} {b : Byte} (hb : b ∈ l) (h : b.toNat = 0 ∨ 64 < b.toNat) : playlistOf l = none := by
  induction l with
  | nil => exact absurd hb List.not_mem_nil
  | cons a l ih =>
    rcases List.mem_cons.mp hb with rfl | hb
    · simp only [playlistOf, msgIdOf_eq_none h]
    · rw [playlistOf, ih hb]
      cases msgIdOf a <;> rfl

theorem msgIdOf_named {b : Byte} (h : ¬ (b.toNat = 0 ∨ 64 < b.toNat)) : ∃ i, msgIdOf b = some i ∧ idByte i = b := by
  have number : b.toNat = (⟨b.toNat - 1, by omega⟩ : MsgId).val + 1 := by simp only; omega
  exact ⟨_, msgIdOf_eq_some number, idByte_eq number⟩

/-- The operand bytes of a playlist name the messages that they spell. -/
theorem playlistOf_eq_some {l : List Byte} (h : ∀ b ∈ l, ¬ (b.toNat = 0 ∨ 64 < b.toNat)) :
    ∃ ids, playlistOf l = some ids ∧ ids.map idByte = l := by
  induction l with
  | nil => exact ⟨[], rfl, rfl⟩
  | cons b l ih =>
    obtain ⟨i, named, spelled⟩ := msgIdOf_named (h b List.mem_cons_self)
    obtain ⟨ids, all, spelt⟩ := ih fun a ha => h a (List.mem_cons_of_mem b ha)
    exact ⟨i :: ids, by simp only [playlistOf, named, all], by rw [List.map_cons, spelled, spelt]⟩

theorem zero_or_one {b : Byte} (h : ¬ 1 < b.toNat) : b = 0 ∨ b = 1 := by bv_omega

theorem flagOf_eq_decide {b : Byte} (h : ¬ 1 < b.toNat) : flagOf b = some (decide (b = 1)) := by
  rcases zero_or_one h with rfl | rfl <;> rfl

/-- R122: the operands that spell no program. -/
def NoProgram (s : State) (kind mode : Byte) (zone : SegSet) (list : List Byte) : Prop :=
  1 < kind.toNat ∨ 1 < mode.toNat ∨ (∃ b ∈ list, b.toNat = 0 ∨ 64 < b.toNat) ∨ kind = 0 ∧ setOk s zone = false ∨
    kind = 1 ∧ zone ≠ 0

/-- R122: the program of operands that spell one. -/
def spelledProgram (kind mode : Byte) (zone : SegSet) (ids : List MsgId) : Program :=
  { kind := if kind = 0 then .play else .check, repeats := decide (mode = 1), playlist := ids, zone := zone }

section
variable {s : State} {kind mode : Byte} {zone : SegSet} {list : List Byte}

theorem programOf_eq_none (h : NoProgram s kind mode zone list) : programOf s kind mode zone list = none := by
  unfold programOf
  split
  · next k m ids hk hm hl =>
    rcases h with bad | bad | ⟨b, hb, bad⟩ | ⟨rfl, bad⟩ | ⟨rfl, bad⟩
    · rw [flagOf_eq_none bad] at hk; exact nomatch hk
    · rw [flagOf_eq_none bad] at hm; exact nomatch hm
    · rw [playlistOf_eq_none hb bad] at hl; exact nomatch hl
    · cases hk
      simp [bad]
    · cases hk
      have filled : ¬ zone = 0#24 := bad
      simp [filled]
  · rfl

theorem programOf_eq_some (hl : playlistLengthOk list = true) (h : ¬ NoProgram s kind mode zone list) :
    ∃ ids, ids.map idByte = list ∧ programOf s kind mode zone list = some (spelledProgram kind mode zone ids) := by
  simp only [NoProgram, not_or, not_exists, not_and] at h
  obtain ⟨hk, hm, hb, play, check⟩ := h
  obtain ⟨ids, all, spelt⟩ := playlistOf_eq_some fun b mem bad => by
    obtain ⟨low, high⟩ := hb b mem
    exact bad.elim low high
  refine ⟨ids, spelt, ?_⟩
  simp only [programOf, flagOf_eq_decide hk, flagOf_eq_decide hm, all, hl, Bool.true_and]
  rcases zero_or_one hk with rfl | rfl
  · rw [if_pos (by simpa using play rfl)]
    rfl
  · rw [if_pos (by simpa using check rfl)]
    rfl

end

theorem heldByIncident_eq_true {s : State} {c : PChan} (hc : c = .p1) (h : s.play.p1Held = true) : heldByIncident s c = true := by
  subst hc
  exact h

theorem heldByIncident_eq_false {s : State} {c : PChan} (h : c = .p1 → s.play.p1Held = false) : heldByIncident s c = false := by
  unfold heldByIncident
  by_cases hc : c = .p1
  · rw [h hc, Bool.and_false]
  · rw [decide_eq_false hc, Bool.false_and]

section
variable {s : State} {chan kind mode : Byte} {zone : SegSet} {list : List Byte}

theorem programPlayout_badArgument (h : (chan.toNat = 0 ∨ 4 < chan.toNat) ∨ NoProgram s kind mode zone list) :
    programPlayout chan kind mode zone list s = refuse .badArgument s := by
  rcases h with bad | bad
  · simp only [programPlayout, pchanOf_eq_none bad]
  · rw [programPlayout, programOf_eq_none bad]
    cases pchanOf chan <;> rfl

variable {c : PChan} {new : Program} (hc : chan.toNat = pchanCode c) (hp : programOf s kind mode zone list = some new)
include hc hp

theorem programPlayout_inUse (h : heldByIncident s c = true) : programPlayout chan kind mode zone list s = refuse .inUse s := by
  simp only [programPlayout, pchanOf_eq_some hc, hp, h, if_true]

theorem programPlayout_busy (h : heldByIncident s c = false) (hi : (s.pchan c).state ≠ .idle) :
    programPlayout chan kind mode zone list s = refuse .busy s := by
  simp only [programPlayout, pchanOf_eq_some hc, hp, h, hi, Bool.false_eq_true, if_false, ne_eq, not_false_eq_true, if_true]

theorem programPlayout_accepted (h : heldByIncident s c = false) (hi : (s.pchan c).state = .idle) :
    programPlayout chan kind mode zone list s = accept (setProgram c new s) := by
  simp only [programPlayout, pchanOf_eq_some hc, hp, h, hi, Bool.false_eq_true, if_false, ne_eq, not_true_eq_false]

end

theorem programNames_some (p : Program) (i : MsgId) : programNames (some p) i = true ↔ i ∈ p.playlist := List.contains_iff_mem

/-- R111, as the statement writes it. -/
theorem usesAfter_eq (old : Option Program) (new : Program) (i : MsgId) (n : Nat) : usesAfter old (some new) i n =
    if i ∈ new.playlist ∧ ¬ programNames old i = true then n + 1
    else if programNames old i = true ∧ i ∉ new.playlist then n - 1 else n := by
  unfold usesAfter
  simp only [← programNames_some]
  cases programNames old i <;> cases programNames (some new) i <;> rfl

/-- Settles O37: the operands spell a program or not; an accepted one changes the directory by its use counts alone. -/
theorem programCommand : Obligations.ProgramCommand := by
  intro p chan kind mode zone list s hr i bad
  have length : playlistLengthOk list = true := hr.1
  have split : bad ↔ (chan.toNat = 0 ∨ 4 < chan.toNat) ∨ NoProgram s kind mode zone list := or_assoc.symm
  refine ⟨fun h => ?_, fun c hc ok => ?_⟩
  · exact congrArg Host.Outcome.next (portCommand_served rfl hr (programPlayout_badArgument (s := s.modPort p _) (split.mp h)))
  · obtain ⟨ids, spelt, prog⟩ := programOf_eq_some length fun h => ok (split.mpr (.inr h))
    refine ⟨fun first held => ?_, fun free busy => ?_, fun free idle => ?_⟩
    · exact congrArg Host.Outcome.next (portCommand_served rfl hr
        (programPlayout_inUse (s := s.modPort p _) hc prog (heldByIncident_eq_true first held)))
    · exact congrArg Host.Outcome.next (portCommand_served rfl hr
        (programPlayout_busy (s := s.modPort p _) hc prog (heldByIncident_eq_false free) busy))
    · refine ⟨spelledProgram kind mode zone ids, _, congrArg Host.Outcome.next (portCommand_served rfl hr
        (programPlayout_accepted (s := s.modPort p _) hc prog (heldByIncident_eq_false free) idle)),
        rfl, rfl, rfl, spelt, fun j => ?_⟩
      have uses := adjustUses_msg (s.pchan c).program (some (spelledProgram kind mode zone ids)) s j
      rw [usesAfter_eq] at uses
      exact ⟨(congrArg MsgRec.content uses :), (congrArg MsgRec.uses uses :)⟩

end Sys2Proof.Machine

/-! SET ALERT MODE (R70) and SET METER POLICY (R73). -/

namespace Sys2Proof.Machine

/-- R161: the block's change on the shifted state, with its reply in the holding record. -/
theorem exec_of_body {i : Instr} {p : Port} {code : Byte} {bytes : List Byte} {body : State → State × Reply} {s t : State}
    {r : Reply} (hf : commandFields i = some (p, code, bytes)) (he : exec i s = .next (portCommand i body s)) (hr : Ready i s)
    (hb : body (s.modPort p fun q => q.shift (commandFrame code bytes)) = (t, r)) : exec i s = .next (t.hold p code r) := by
  rw [he, portCommand_of_ready hf hr, hb]

/-! ### Metering records and events -/

/-- From `s` to `t` metering records and event queues alone change. -/
structure RecsAndEvents (s t : State) : Prop where
  rest : { t with ports := s.ports, meter := { t.meter with recs := s.meter.recs } } = s
  port : ∀ p, (t.port p).settings = (s.port p).settings

namespace RecsAndEvents

theorem n {s t : State} (h : RecsAndEvents s t) : t.loop.n = s.loop.n :=
  (congrArg (fun v : State => v.loop.n) h.rest :)

theorem refl (s : State) : RecsAndEvents s s := ⟨rfl, fun _ => rfl⟩

theorem trans {s t u : State} (h : RecsAndEvents s t) (g : RecsAndEvents t u) : RecsAndEvents s u where
  rest := by
    have back := congrArg (fun v : State => { v with ports := s.ports, meter := { v.meter with recs := s.meter.recs } }) g.rest
    exact back.trans h.rest
  port p := (g.port p).trans (h.port p)

theorem raise (s : State) (d : Tri Bool) (e : EventKind) (x : Byte) (a b : Half) : RecsAndEvents s (s.raise d e x a b) :=
  ⟨rfl, (raise_undisturbed s d e x a b).port⟩

theorem modMeter (s : State) (k : SegId) (e : Entry) (f : MeterEntry → MeterEntry) : RecsAndEvents s (s.modMeter k e f) :=
  ⟨rfl, fun _ => rfl⟩

/-- So all but the records is a matter of events. -/
theorem onlyEvents {s t : State} (h : RecsAndEvents s t) :
    OnlyEvents { s with meter := { s.meter with recs := t.meter.recs } } t := by
  refine ⟨?_, h.port⟩
  have back := congrArg (fun v : State => { v with meter := { v.meter with recs := t.meter.recs } }) h.rest
  exact back

end RecsAndEvents

theorem OnlyEvents.hold {s t : State} (h : OnlyEvents s t) (p : Port) (code : Byte) (r : Reply) :
    OnlyEvents (s.hold p code r) (t.hold p code r) := by
  obtain ⟨rest, port⟩ := h
  refine ⟨congrArg (fun v : State => { v with ports := (s.hold p code r).ports }) rest, fun x => ?_⟩
  have settings := port x
  simp only [State.port, State.hold, State.modPort, PortRec.settings, Tri_get_set] at *
  split
  · next e =>
    subst e
    simp_all
  · exact settings

/-- A block that changes metering records and events, as the served state says it. -/
theorem RecsAndEvents.served {i : Instr} {p : Port} {code : Byte} {bytes : List Byte} {s t : State}
    (hf : commandFields i = some (p, code, bytes))
    (h : RecsAndEvents (s.modPort p fun q => q.shift (commandFrame code bytes)) t) (r : Reply) :
    OnlyEvents (served i r.status r.payload
      { s with meter := { s.meter with recs := (t.hold p code r).meter.recs } }) (t.hold p code r) := by
  simp only [Machine.served, hf]
  exact h.onlyEvents.hold p code r

/-! ### SET ALERT MODE -/

theorem entryOf_eq_none {b : Byte} (h : 5 < b.toNat) : entryOf b = none := by
  unfold entryOf
  split
  · omega
  · omega
  · omega
  · omega
  · omega
  · omega
  · rfl

theorem entryOf_entryCode (e : Entry) : entryOf (entryCode e) = some e := by cases e <;> rfl

theorem raiseAlerts_recsAndEvents (k : SegId) (e : Entry) (old new : MeterEntry) (m p : Nat) (s : State) :
    RecsAndEvents s (raiseAlerts k e old new m p s) := by
  have one (b : Bool) (u : Bool) (t : State) : RecsAndEvents t (if b then raiseAlert k e u m p t else t) := by
    split
    · exact .raise ..
    · exact .refl t
  exact (one _ _ _).trans (one _ _ _)

theorem raiseAlerts_meters (k : SegId) (e : Entry) (old new : MeterEntry) (m p : Nat) (s : State) (j : SegId) :
    (raiseAlerts k e old new m p s).meters j = s.meters j := by
  have one (b : Bool) (u : Bool) (t : State) : (if b then raiseAlert k e u m p t else t).meters j = t.meters j := by
    split <;> rfl
  exact (one _ _ _).trans (one _ _ _)

theorem configureAlert_recsAndEvents (e : Entry) (mode : AlertMode) (basis : Basis) (k : SegId) (s : State) :
    RecsAndEvents s (configureAlert e mode basis k s) :=
  (RecsAndEvents.modMeter ..).trans (raiseAlerts_recsAndEvents ..)

theorem configureAlert_meters (e : Entry) (mode : AlertMode) (basis : Basis) (k j : SegId) (s : State) :
    (configureAlert e mode basis k s).meters j =
      if k = j then (s.meters k).set e (((s.meters k).get e).configure mode basis) else s.meters j :=
  (raiseAlerts_meters ..).trans (modMeters_meters ..)

/-- R70: the records after a SET ALERT MODE. -/
theorem alertModes_meters {segs : SegSet} {s : State} (h : setOk s segs = true) (e : Entry) (mode : AlertMode) (basis : Basis)
    (k : SegId) (x : Entry) : ((forSet segs (configureAlert e mode basis) s).meters k).get x =
      if inSet segs k = true ∧ x = e then ((s.meters k).get x).configure mode basis else (s.meters k).get x := by
  have passed := forSet_view_of_map (view := State.meters) (f := configureAlert e mode basis)
    (g := fun _ v => v.set e ((v.get e).configure mode basis)) (fun k t => (configureAlert_recsAndEvents ..).n)
    (fun k j t => configureAlert_meters e mode basis k j t) segs s k
  rw [passed]
  by_cases hk : inSet segs k = true
  · rw [if_pos ⟨lt_of_setOk h hk, hk⟩, Six_get_set]
    by_cases hx : e = x
    · subst hx
      rw [if_pos rfl, if_pos ⟨hk, rfl⟩]
    · rw [if_neg hx, if_neg fun g => hx g.2.symm]
  · rw [if_neg fun g => hk g.2, if_neg fun g => hk g.1]

theorem configure_eq (x : MeterEntry) (mode : AlertMode) (basis : Basis) : x.configure mode basis =
    { x with mode := mode, basis := basis,
             overFlag := if x.mode = .latched ∧ mode = .transparent then x.isOver else x.overFlag,
             underFlag := if x.mode = .latched ∧ mode = .transparent then x.isUnder else x.underFlag } := by
  unfold MeterEntry.configure
  cases hx : x.mode <;> cases mode <;> simp

/-- R178: the mode and the basis of a flag byte. -/
def alertModeOf (b : Byte) : AlertMode := if b = 1 then .latched else .transparent

def basisOf (b : Byte) : Basis := if b = 1 then .averaged else .raw

theorem alertModeOf_transparent {b : Byte} (h : b.toNat ≤ 1) : alertModeOf b = .transparent ↔ b = 0 := by
  rcases zero_or_one (Nat.not_lt.mpr h) with rfl | rfl <;> decide

section
variable {p : Port} {segs : SegSet} {entry mode basis : Byte} {s : State}

theorem setAlertMode_badArgument (h : 5 < entry.toNat ∨ 1 < mode.toNat ∨ 1 < basis.toNat) :
    setAlertMode p segs entry mode basis s = refuse .badArgument s := by
  unfold setAlertMode
  split
  · next e m b he hm hb =>
    rcases h with bad | bad | bad
    · rw [entryOf_eq_none bad] at he; exact nomatch he
    · rw [flagOf_eq_none bad] at hm; exact nomatch hm
    · rw [flagOf_eq_none bad] at hb; exact nomatch hb
  · rfl

variable {e : Entry} (he : entry = entryCode e) (hm : mode.toNat ≤ 1) (hb : basis.toNat ≤ 1)
include he hm hb

theorem setAlertMode_notPermitted (h : ownerPort e ≠ p) :
    setAlertMode p segs entry mode basis s = refuse .notPermitted s := by
  subst he
  simp only [setAlertMode, entryOf_entryCode, flagOf_eq_decide (Nat.not_lt.mpr hm), flagOf_eq_decide (Nat.not_lt.mpr hb), ne_eq,
    h, not_false_eq_true, if_true]

theorem setAlertMode_badSet (h : ownerPort e = p) (hs : setOk s segs = false) :
    setAlertMode p segs entry mode basis s = refuse .badArgument s := by
  subst he
  simp only [setAlertMode, entryOf_entryCode, flagOf_eq_decide (Nat.not_lt.mpr hm), flagOf_eq_decide (Nat.not_lt.mpr hb), ne_eq,
    h, not_true_eq_false, if_false, hs, Bool.false_eq_true]

theorem setAlertMode_accepted (h : ownerPort e = p) (hs : setOk s segs = true) :
    setAlertMode p segs entry mode basis s =
      accept (forSet segs (configureAlert e (alertModeOf mode) (basisOf basis)) s) := by
  subst he
  simp only [setAlertMode, entryOf_entryCode, flagOf_eq_decide (Nat.not_lt.mpr hm), flagOf_eq_decide (Nat.not_lt.mpr hb), ne_eq,
    h, not_true_eq_false, if_false, hs, if_true, decide_eq_true_eq, alertModeOf, basisOf]

end

theorem alertModes_recsAndEvents (segs : SegSet) (e : Entry) (mode : AlertMode) (basis : Basis) (s : State) :
    RecsAndEvents s (forSet segs (configureAlert e mode basis) s) :=
  forSet_rel RecsAndEvents.refl (fun _ _ _ => RecsAndEvents.trans) (fun k t => configureAlert_recsAndEvents e mode basis k t) segs s

/-- R70: the accepted command, by what it changes. -/
theorem setAlertMode_result {p : Port} {segs : SegSet} {entry mode basis : Byte} {s : State} {e : Entry} (he : entry = entryCode e)
    (hm : mode.toNat ≤ 1) (hb : basis.toNat ≤ 1) (h : ownerPort e = p) (hs : setOk s segs = true) :
    ∃ t, setAlertMode p segs entry mode basis s = (t, ⟨.ok, []⟩) ∧ RecsAndEvents s t ∧
      ∀ k x, (t.meters k).get x = if inSet segs k = true ∧ x = e then
        ((s.meters k).get x).configure (alertModeOf mode) (basisOf basis) else (s.meters k).get x :=
  ⟨_, setAlertMode_accepted he hm hb h hs, alertModes_recsAndEvents .., alertModes_meters hs e _ _⟩

/-- R70: what the accepted command makes of the records, as the statement writes it. -/
theorem configure_of_bytes {mode basis : Byte} (hm : mode.toNat ≤ 1) (x : MeterEntry) :
    x.configure (alertModeOf mode) (basisOf basis) =
      { x with mode := if mode = 1 then .latched else .transparent, basis := if basis = 1 then .averaged else .raw,
               overFlag := if x.mode = .latched ∧ mode = 0 then x.isOver else x.overFlag,
               underFlag := if x.mode = .latched ∧ mode = 0 then x.isUnder else x.underFlag } := by
  rw [configure_eq]
  simp only [alertModeOf_transparent hm]
  rfl

/-! ### SET METER POLICY -/

/-- R73: a new policy, with what it makes of the records. -/
def withPolicy (n : MeterPolicy) (s : State) : State :=
  { s with meter := { s.meter with
      policy := n, recs := vall s.meter.recs fun v => v.map fun e => e.newPolicy n.settle n.persist } }

theorem Six_get_map {α β : Type} (f : α → β) (v : Six α) (e : Entry) : (v.map f).get e = f (v.get e) := by cases e <;> rfl

theorem withPolicy_meters (n : MeterPolicy) (s : State) (k : SegId) (e : Entry) :
    ((withPolicy n s).meters k).get e = ((s.meters k).get e).newPolicy n.settle n.persist := by
  have every : (withPolicy n s).meters k = (s.meters k).map fun e => e.newPolicy n.settle n.persist := vall_get ..
  rw [every, Six_get_map]

section
variable {n tol settle persist : Byte} {s : State}

theorem setMeterPolicy_refused (h : n ∉ ([1, 4, 16, 64] : List Byte) ∨ 50 < tol.toNat ∨ 15 < settle.toNat ∨ 15 < persist.toNat) :
    setMeterPolicy n tol settle persist s = refuse .badArgument s := by
  refine if_neg ?_
  simp only [averagingOk, Bool.and_eq_true, Bool.or_eq_true, decide_eq_true_eq]
  simp only [List.mem_cons, List.not_mem_nil, or_false, not_or] at h
  rintro ⟨⟨⟨named, tolOk⟩, settleOk⟩, persistOk⟩
  rcases h with ⟨h₁, h₂, h₃, h₄⟩ | h | h | h
  · exact named.elim (fun g => g.elim (fun g => g.elim h₁ h₂) h₃) h₄
  · omega
  · omega
  · omega

theorem setMeterPolicy_accepted (hn : n ∈ ([1, 4, 16, 64] : List Byte)) (h₁ : tol.toNat ≤ 50) (h₂ : settle.toNat ≤ 15)
    (h₃ : persist.toNat ≤ 15) : setMeterPolicy n tol settle persist s =
      accept (withPolicy ⟨n.toNat, tol.toNat, settle.toNat, persist.toNat⟩ s) := by
  refine if_pos ?_
  simp only [List.mem_cons, List.not_mem_nil, or_false] at hn
  simp only [averagingOk, Bool.and_eq_true, Bool.or_eq_true, decide_eq_true_eq, or_assoc]
  exact ⟨⟨⟨hn, h₁⟩, h₂⟩, h₃⟩

end

theorem withPolicy_shift (n : MeterPolicy) (p : Port) (bytes : List Byte) (s : State) :
    withPolicy n (s.modPort p fun q => q.shift bytes) = (withPolicy n s).modPort p fun q => q.shift bytes := by
  unfold withPolicy State.modPort
  rfl

theorem withPolicy_frame (n : MeterPolicy) (s : State) : { withPolicy n s with meter := s.meter } = s := by
  unfold withPolicy
  rfl

theorem exec_setMeterPolicy {p : Port} {n tol settle persist : Byte} {s : State} (hr : Ready (.setMeterPolicy p n tol settle persist) s)
    (hn : n ∈ ([1, 4, 16, 64] : List Byte)) (h₁ : tol.toNat ≤ 50) (h₂ : settle.toNat ≤ 15) (h₃ : persist.toNat ≤ 15) :
    exec (.setMeterPolicy p n tol settle persist) s = .next (served (.setMeterPolicy p n tol settle persist) .ok []
      (withPolicy ⟨n.toNat, tol.toNat, settle.toNat, persist.toNat⟩ s)) := by
  refine congrArg Host.Outcome.next (portCommand_served rfl hr ?_)
  rw [setMeterPolicy_accepted hn h₁ h₂ h₃, withPolicy_shift]
  rfl

theorem withPolicy_persist {n : MeterPolicy} {persist : Byte} (h : n.persist = persist.toNat) (s : State) (k : SegId) (e : Entry) :
    ((withPolicy n s).meters k).get e = { (s.meters k).get e with
      settle := min ((s.meters k).get e).settle n.settle, count := if persist = 0 then 0 else ((s.meters k).get e).count } := by
  rw [withPolicy_meters, MeterEntry.newPolicy, h]
  rcases Nat.eq_zero_or_pos persist.toNat with none | some
  · rw [if_pos none, if_pos (by bv_omega)]
  · rw [if_neg (by omega), if_neg (by bv_omega)]

theorem exec_setAlertMode {p : Port} {segs : SegSet} {entry mode basis : Byte} {s : State} {e : Entry}
    (hr : Ready (.setAlertMode p segs entry mode basis) s) (he : entry = entryCode e) (hm : mode.toNat ≤ 1)
    (hb : basis.toNat ≤ 1) (h : ownerPort e = p) (hs : setOk s segs = true) :
    ∃ t, exec (.setAlertMode p segs entry mode basis) s = .next t ∧
      OnlyEvents (served (.setAlertMode p segs entry mode basis) .ok []
        { s with meter := { s.meter with recs := t.meter.recs } }) t ∧
      ∀ k x, (t.meters k).get x = if inSet segs k = true ∧ x = e then
        ((s.meters k).get x).configure (alertModeOf mode) (basisOf basis) else (s.meters k).get x := by
  obtain ⟨t, run, frame, records⟩ := setAlertMode_result
    (s := s.modPort p fun q => q.shift (commandFrame 0x33 (be3 segs ++ [entry] ++ [mode] ++ [basis]))) he hm hb h hs
  exact ⟨_, exec_of_body rfl rfl hr run, frame.served rfl _, records⟩

/-- Settles O21. -/
theorem monitorSettings : Obligations.MonitorSettings := by
  refine ⟨fun p segs entry mode basis s hr => ⟨fun bad => ?_, fun e he hm hb => ⟨fun other => ?_, fun own bad => ?_, fun own ok => ?_⟩⟩,
    fun p n tol settle persist s hr => ⟨fun bad => ?_, fun hn h₁ h₂ h₃ => ?_⟩⟩
  · exact congrArg Host.Outcome.next (portCommand_served rfl hr (setAlertMode_badArgument bad))
  · exact congrArg Host.Outcome.next (portCommand_served rfl hr (setAlertMode_notPermitted he hm hb other))
  · exact congrArg Host.Outcome.next (portCommand_served rfl hr (setAlertMode_badSet (s := s.modPort p _) he hm hb own bad))
  · obtain ⟨t, run, frame, records⟩ := exec_setAlertMode hr he hm hb own ok
    refine ⟨t, run, frame, fun k x => ?_⟩
    rw [records, configure_of_bytes hm]
  · exact congrArg Host.Outcome.next (portCommand_served rfl hr (setMeterPolicy_refused bad))
  · exact ⟨_, exec_setMeterPolicy hr hn h₁ h₂ h₃, withPolicy_frame .., rfl, by simp only [withPolicy], by simp only [withPolicy],
      withPolicy_persist rfl s⟩

end Sys2Proof.Machine

/-! START BREAK-IN and STOP BREAK-IN (R135 to R143). -/

namespace Sys2Proof.Machine

/-! ### The ranking and the owners -/

/-- R140: P1 stands among the channels unless the incident holds it. -/
theorem ranking_eq (s : State) : ranking s =
    [.liveE, .liveO] ++ (if (s.pchan .p1).owner = PlayOwner.incident then [Source.p1] else []) ++
      ((playRanking s).filter fun c : PChan =>
        !(decide (c = PChan.p1) && decide ((s.pchan .p1).owner = PlayOwner.incident))).map sourceOf := by
  unfold ranking
  by_cases h : (s.pchan .p1).owner = .incident
  · simp only [h, if_true, decide_true, Bool.and_true, decide_not]
    rfl
  · simp only [h, if_false, decide_false, Bool.and_false, Bool.not_false, List.append_nil, List.filter_true]

/-- R142: the owner is the first candidate of the ranking. -/
theorem ownerNow_eq_find (s : State) (k : SegId) : ownerNow s k =
    if k.val < s.loop.n ∧ 0 < (s.aseg k).bc.grant then
      ((ranking s).find? fun x => (sourceZone s x).any (inSet · k)).getD .none
    else .none := by
  have first : (candidates s k).head? = (ranking s).find? (isCandidate s k) := List.head?_filter ..
  unfold ownerNow
  rw [first, bcGranted]
  by_cases inside : k.val < s.loop.n
  · have candidate : isCandidate s k = fun x => (sourceZone s x).any (inSet · k) :=
      funext fun x => by rw [isCandidate_eq, decide_eq_true inside, Bool.true_and]
    simp only [decide_eq_true_eq, inside, true_and, candidate]
  · have beyond : isCandidate s k = fun _ => false :=
      funext fun x => by rw [isCandidate_eq, decide_eq_false inside, Bool.false_and]
    have none : (ranking s).find? (fun _ => false) = Option.none := by simp
    rw [beyond, none, Option.getD_none, ite_self, if_neg fun g => inside g.1]

/-! ### The live records -/

section
variable {p : Port} {zone : SegSet} {feed : Byte} {s : State}

theorem startBreakIn_badZone (h : setOk s zone = false) : startBreakIn p zone feed s = refuse .badArgument s := by
  simp only [startBreakIn, h, Bool.not_false, if_true]

theorem feedOf_eq_none (h : p = .o ∧ feed ≠ 0 ∨ p = .e ∧ feed ∉ ([1, 2, 3] : List Byte)) : feedOf p feed = none := by
  rcases h with ⟨rfl, h⟩ | ⟨rfl, h⟩
  · have named : feed.toNat ≠ 0 := by bv_omega
    obtain ⟨n, hn⟩ := Nat.exists_eq_succ_of_ne_zero named
    simp only [feedOf, hn]
  · simp only [List.mem_cons, List.not_mem_nil, or_false, not_or] at h
    obtain ⟨h₁, h₂, h₃⟩ := h
    match hn : feed.toNat with
    | 0 => simp only [feedOf, hn]
    | 1 => bv_omega
    | 2 => bv_omega
    | 3 => bv_omega
    | n + 4 => simp only [feedOf, hn]

theorem feedOf_named {f : Feed} (h : feed.toNat = feedCode (some f)) : feedOf .e feed = some (some f) := by
  unfold feedOf
  cases f <;> simp only [feedCode] at h <;> simp only [h]

theorem startBreakIn_badFeed (h : feedOf p feed = none) : startBreakIn p zone feed s = refuse .badArgument s := by
  simp only [startBreakIn, h]
  exact ite_self _

theorem startBreakIn_accepted (hz : setOk s zone = true) {f : Option Feed} (hf : feedOf p feed = some f) :
    startBreakIn p zone feed s =
      (settle s (writeLive zone f s), ⟨.ok, liveFields p (settle s (writeLive zone f s)) ++
        be3 (ownedBy (settle s (writeLive zone f s)).brk.owners (liveSource p))⟩) := by
  simp only [startBreakIn, hz, hf, Bool.not_true, Bool.false_eq_true, if_false]

end

/-- A settled state has the live records that were written. -/
theorem settle_live (before s : State) : (settle before s).brk.liveE = s.brk.liveE ∧ (settle before s).brk.liveO = s.brk.liveO := by
  have brk := (settle_undisturbed before s).brk
  exact ⟨(congrArg BreakRec.liveE brk :), (congrArg BreakRec.liveO brk :)⟩

theorem writeLive_shift (zone : SegSet) (f : Option Feed) (p : Port) (bytes : List Byte) (s : State) :
    writeLive zone f (s.modPort p fun q => q.shift bytes) = (writeLive zone f s).modPort p fun q => q.shift bytes := by
  cases f <;> rfl

theorem clearLive_shift (x p : Port) (bytes : List Byte) (s : State) :
    clearLive x (s.modPort p fun q => q.shift bytes) = (clearLive x s).modPort p fun q => q.shift bytes := by
  cases x <;> rfl

/-- The block's change on the shifted state, and what it may differ in from the shifted `w`. -/
theorem served_of_body {i : Instr} {p : Port} {code : Byte} {bytes : List Byte} {body : State → State × Reply} {s w t : State}
    {st : Status} {out : List Byte} (hf : commandFields i = some (p, code, bytes)) (he : exec i s = .next (portCommand i body s))
    (hr : Ready i s) (hb : body (s.modPort p fun q => q.shift (commandFrame code bytes)) = (t, ⟨st, out⟩))
    (hu : Undisturbed (w.modPort p fun q => q.shift (commandFrame code bytes)) t) :
    exec i s = .next (t.hold p code ⟨st, out⟩) ∧ Undisturbed (served i st out w) (t.hold p code ⟨st, out⟩) := by
  refine ⟨exec_of_body hf he hr hb, ?_⟩
  simp only [served, hf]
  exact hu.hold p code ⟨st, out⟩

/-- R143: a row that changes the selector's inputs alone leaves the owners right. -/
theorem ownersRight_of_exec {i : Instr} {body : State → State × Reply} {s t : State} (he : exec i s = .next (portCommand i body s))
    (hb : ∀ u, Ended .owners u (body u).1) (h : exec i s = .next t) (right : OwnersRight s) : OwnersRight t := by
  rw [he] at h
  cases h
  exact ended_portCommand (x := .owners) (fun u _ => hb u) right

section
variable {p : Port} {zone : SegSet} {feed : Byte} {s : State}

/-- R136: the accepted START BREAK-IN. -/
theorem exec_startBreakIn (hr : Ready (.startBreakIn p zone feed) s) (hz : setOk s zone = true) {f : Option Feed}
    (hf : feedOf p feed = some f) :
    ∃ t, exec (.startBreakIn p zone feed) s = .next t ∧
      Undisturbed (served (.startBreakIn p zone feed) .ok (liveFields p t ++ be3 (ownedBy t.brk.owners (liveSource p)))
        (writeLive zone f s)) t ∧ (OwnersRight s → OwnersRight t) ∧
      t.brk.liveE = (writeLive zone f s).brk.liveE ∧ t.brk.liveO = (writeLive zone f s).brk.liveO := by
  have run (bytes : List Byte) := startBreakIn_accepted (s := s.modPort p fun q => q.shift bytes) hz hf
  have frame (bytes : List Byte) := settle_undisturbed (s.modPort p fun q => q.shift bytes)
    (writeLive zone f (s.modPort p fun q => q.shift bytes))
  have live (bytes : List Byte) := settle_live (s.modPort p fun q => q.shift bytes)
    (writeLive zone f (s.modPort p fun q => q.shift bytes))
  simp only [writeLive_shift] at run frame live
  obtain ⟨done, undisturbed⟩ := served_of_body rfl rfl hr (run _) (frame _)
  have right : OwnersRight s → OwnersRight _ := ownersRight_of_exec rfl (fun u => ended_startBreakIn p zone feed) done
  exact ⟨_, done, undisturbed, right, live _⟩

end

/-- R137: STOP BREAK-IN. -/
theorem exec_stopBreakIn {p : Port} {s : State} (hr : Ready (.stopBreakIn p) s) :
    ∃ t, exec (.stopBreakIn p) s = .next t ∧
      Undisturbed (served (.stopBreakIn p) .ok (be3 (ownedBy s.brk.owners (liveSource p))) (clearLive p s)) t ∧
      (OwnersRight s → OwnersRight t) := by
  have frame (bytes : List Byte) := settle_undisturbed (s.modPort p fun q => q.shift bytes)
    (clearLive p (s.modPort p fun q => q.shift bytes))
  have run (bytes : List Byte) : stopBreakIn p (s.modPort p fun q => q.shift bytes) =
    (settle (s.modPort p fun q => q.shift bytes) (clearLive p (s.modPort p fun q => q.shift bytes)),
      ⟨.ok, be3 (ownedBy s.brk.owners (liveSource p))⟩) := rfl
  simp only [clearLive_shift] at run frame
  obtain ⟨done, undisturbed⟩ := served_of_body rfl rfl hr (run _) (frame _)
  have right : OwnersRight s → OwnersRight _ := ownersRight_of_exec rfl (fun u => ended_stopBreakIn p) done
  exact ⟨_, done, undisturbed, right⟩

/-- Settles O33. -/
theorem breakInCommands : Obligations.BreakInCommands := by
  refine ⟨fun s => ?_, fun s k => ?_, fun p zone feed s hr => ⟨fun bad => ?_, fun hz hp hf => ?_, fun f hz hp hf => ?_⟩,
    fun p s hr => ?_⟩
  · exact ranking_eq s
  · refine (ownerNow_eq_find s k).trans (if_congr Iff.rfl ?_ rfl)
    refine congrArg (fun f => ((ranking s).find? f).getD .none) (funext fun x => ?_)
    cases sourceZone s x <;> rfl
  · have refused (u : State) (hu : u.loop = s.loop) : startBreakIn p zone feed u = refuse .badArgument u := by
      rcases bad with bad | bad
      · exact startBreakIn_badZone (by rw [setOk, hu]; exact bad)
      · exact startBreakIn_badFeed (feedOf_eq_none bad)
    exact congrArg Host.Outcome.next (portCommand_served rfl hr (refused _ rfl))
  · subst hp hf
    obtain ⟨t, done, undisturbed, right, -, live⟩ := exec_startBreakIn hr hz (f := none) rfl
    refine ⟨t, done, ?_, right⟩
    have fields : liveFields .o t = [0] ++ be3 zone := congrArg liveOFields live
    rw [fields] at undisturbed
    exact undisturbed
  · subst hp
    obtain ⟨t, done, undisturbed, right, live, -⟩ := exec_startBreakIn hr hz (feedOf_named hf)
    refine ⟨t, done, ?_, right⟩
    have code : b1 (feedCode (some f)) = [feed] := by rw [b1, ← hf, BitVec.ofNat_toNat, BitVec.setWidth_eq]
    have fields : liveFields .e t = [0] ++ be3 zone ++ [feed] := (congrArg liveEFields live).trans (congrArg ([0] ++ be3 zone ++ ·) code)
    rw [fields] at undisturbed
    exact undisturbed
  · obtain ⟨t, done, undisturbed, right⟩ := exec_stopBreakIn hr
    refine ⟨t, done, ?_, ?_, right⟩
    · rintro rfl
      exact undisturbed
    · rintro rfl
      exact undisturbed

end Sys2Proof.Machine

/-! The part's own rows (log 1 to 4): when each of them is due, and that one which is not due changes nothing. -/

namespace Sys2Proof.Machine

/-! ### Which rows are due -/

/-- What the engine looks at for each of the part's own rows. -/
def rowDue (s : State) : Instr → Bool
  | .surveyRound => roundDue s
  | .surveyTimeout d => surveyDue s d
  | .directiveIssue k => issueDue s k
  | .replyTimeout k => windowClosed s.sys.uptime (s.unit k)
  | .rouseWaitExpiry k => waitEnded s.sys.uptime (s.unit k)
  | .hangExpiry c => hangDue s c
  | .totExpiry c => totDue s c
  | .messageEnd c => endDue s .playing c
  | .checkMessageEnd c => endDue s .checking c
  | .airtimeMark => markDue s
  | .fireFilterExpiry => fireDue s
  | .portLapse p => lapseDue s p
  | _ => false

section
variable {s : State} {i : Instr}

theorem mem_dueIf {b : Bool} {j : Instr} : i ∈ dueIf b j ↔ i = j ∧ b = true := by
  cases b <;> simp [dueIf]

theorem mem_loopRows : i ∈ loopRows s ↔ (i = .surveyRound ∨ ∃ d, i = .surveyTimeout d) ∧ rowDue s i = true := by
  simp only [loopRows, List.mem_append, mem_dueIf]
  constructor
  · rintro ((⟨rfl, h⟩ | ⟨rfl, h⟩) | ⟨rfl, h⟩)
    · exact ⟨.inl rfl, h⟩
    · exact ⟨.inr ⟨.left, rfl⟩, h⟩
    · exact ⟨.inr ⟨.right, rfl⟩, h⟩
  · rintro ⟨rfl | ⟨d, rfl⟩, h⟩
    · exact .inl (.inl ⟨rfl, h⟩)
    · cases d with
      | left => exact .inl (.inr ⟨rfl, h⟩)
      | right => exact .inr ⟨rfl, h⟩

theorem mem_engineRows : i ∈ (List.finRange 24).flatMap (engineRows s) ↔
    (∃ k, i = .directiveIssue k ∨ i = .replyTimeout k ∨ i = .rouseWaitExpiry k) ∧ rowDue s i = true := by
  simp only [List.mem_flatMap, List.mem_finRange, true_and, engineRows, List.mem_append, mem_dueIf]
  constructor
  · rintro ⟨k, (⟨rfl, h⟩ | ⟨rfl, h⟩) | ⟨rfl, h⟩⟩
    · exact ⟨⟨k, .inl rfl⟩, h⟩
    · exact ⟨⟨k, .inr (.inl rfl)⟩, h⟩
    · exact ⟨⟨k, .inr (.inr rfl)⟩, h⟩
  · rintro ⟨⟨k, rfl | rfl | rfl⟩, h⟩
    · exact ⟨k, .inl (.inl ⟨rfl, h⟩)⟩
    · exact ⟨k, .inl (.inr ⟨rfl, h⟩)⟩
    · exact ⟨k, .inr ⟨rfl, h⟩⟩

theorem mem_talkRows : i ∈ [Chan.t1, .t2].flatMap (talkRows s) ↔
    (∃ c, i = .hangExpiry c ∨ i = .totExpiry c) ∧ rowDue s i = true := by
  simp only [List.mem_flatMap, talkRows, List.mem_append, mem_dueIf]
  constructor
  · rintro ⟨c, -, ⟨rfl, h⟩ | ⟨rfl, h⟩⟩
    · exact ⟨⟨c, .inl rfl⟩, h⟩
    · exact ⟨⟨c, .inr rfl⟩, h⟩
  · rintro ⟨⟨c, hc⟩, h⟩
    refine ⟨c, by cases c <;> decide, ?_⟩
    rcases hc with rfl | rfl
    · exact .inl ⟨rfl, h⟩
    · exact .inr ⟨rfl, h⟩

theorem mem_playRows : i ∈ PChan.every.flatMap (playRows s) ↔
    (∃ c, i = .messageEnd c ∨ i = .checkMessageEnd c) ∧ rowDue s i = true := by
  simp only [List.mem_flatMap, playRows, List.mem_append, mem_dueIf]
  constructor
  · rintro ⟨c, -, ⟨rfl, h⟩ | ⟨rfl, h⟩⟩
    · exact ⟨⟨c, .inl rfl⟩, h⟩
    · exact ⟨⟨c, .inr rfl⟩, h⟩
  · rintro ⟨⟨c, hc⟩, h⟩
    refine ⟨c, by cases c <;> decide, ?_⟩
    rcases hc with rfl | rfl
    · exact .inl ⟨rfl, h⟩
    · exact .inr ⟨rfl, h⟩

theorem mem_otherRows : i ∈ otherRows s ↔
    (i = .airtimeMark ∨ i = .fireFilterExpiry ∨ ∃ p, i = .portLapse p) ∧ rowDue s i = true := by
  simp only [otherRows, List.mem_append, mem_dueIf]
  constructor
  · rintro ((((⟨rfl, h⟩ | ⟨rfl, h⟩) | ⟨rfl, h⟩) | ⟨rfl, h⟩) | ⟨rfl, h⟩)
    · exact ⟨.inl rfl, h⟩
    · exact ⟨.inr (.inl rfl), h⟩
    · exact ⟨.inr (.inr ⟨.o, rfl⟩), h⟩
    · exact ⟨.inr (.inr ⟨.e, rfl⟩), h⟩
    · exact ⟨.inr (.inr ⟨.c, rfl⟩), h⟩
  · rintro ⟨rfl | rfl | ⟨p, rfl⟩, h⟩
    · exact .inl (.inl (.inl (.inl ⟨rfl, h⟩)))
    · exact .inl (.inl (.inl (.inr ⟨rfl, h⟩)))
    · cases p with
      | o => exact .inl (.inl (.inr ⟨rfl, h⟩))
      | e => exact .inl (.inr ⟨rfl, h⟩)
      | c => exact .inr ⟨rfl, h⟩

/-- A row is due exactly where its own test says so, and the part is not held in reset. -/
theorem mem_dueRows : i ∈ dueRows s ↔ s.sys.held = false ∧ rowDue s i = true := by
  unfold dueRows
  cases held : s.sys.held with
  | true => simp
  | false =>
    simp only [Bool.false_eq_true, if_false, List.mem_append, mem_loopRows, mem_engineRows, mem_talkRows, mem_playRows,
      mem_otherRows, true_and, ← or_and_right]
    refine and_iff_right_of_imp fun due => ?_
    cases i with
    | surveyRound => exact .inl (.inl (.inl (.inl (.inl rfl))))
    | surveyTimeout d => exact .inl (.inl (.inl (.inl (.inr ⟨d, rfl⟩))))
    | directiveIssue k => exact .inl (.inl (.inl (.inr ⟨k, .inl rfl⟩)))
    | replyTimeout k => exact .inl (.inl (.inl (.inr ⟨k, .inr (.inl rfl)⟩)))
    | rouseWaitExpiry k => exact .inl (.inl (.inl (.inr ⟨k, .inr (.inr rfl)⟩)))
    | hangExpiry c => exact .inl (.inl (.inr ⟨c, .inl rfl⟩))
    | totExpiry c => exact .inl (.inl (.inr ⟨c, .inr rfl⟩))
    | messageEnd c => exact .inl (.inr ⟨c, .inl rfl⟩)
    | checkMessageEnd c => exact .inl (.inr ⟨c, .inr rfl⟩)
    | airtimeMark => exact .inr (.inl rfl)
    | fireFilterExpiry => exact .inr (.inr (.inl rfl))
    | portLapse p => exact .inr (.inr (.inr ⟨p, rfl⟩))
    | _ => exact nomatch due

/-! ### The tests, as the statement writes them -/

theorem reachedOpt_iff {x : Option Word} : reachedOpt s.sys.uptime x = true ↔ MomentReached s x := by
  unfold reachedOpt MomentReached
  cases x with
  | none => simp
  | some w => simp [reached]

theorem quietPassed_iff {u : UnitRec} : quietPassed s.sys.uptime u = true ↔ u.quiet = none ∨ MomentReached s u.quiet := by
  rw [← reachedOpt_iff]
  unfold quietPassed reachedOpt
  cases u.quiet <;> simp

theorem surveyDue_iff {d : Side} : surveyDue s d = true ↔
    ∃ sent, s.loop.surveys.side d = .inFlight sent ∧ 40 ≤ (s.sys.uptime - sent).toNat := by
  unfold surveyDue
  cases s.loop.surveys.side d with
  | inFlight sent =>
    rw [decide_eq_true_eq]
    exact ⟨fun h => ⟨sent, rfl, h⟩, fun ⟨_, same, h⟩ => by cases same; exact h⟩
  | _ => simp

theorem levelsChoice_ne_nothing {u : UnitRec} : levelsChoice u ≠ .nothing ↔ u.levelsSlot = .levels ∧ u.applied.isSome = true := by
  unfold levelsChoice
  cases u.levelsSlot <;> cases u.applied <;> simp

theorem isDown_iff {m : TargetMode} : isDown m = true ↔ m ≠ .active := by cases m <;> decide

/-- R26: what the slots hold that goes next. -/
theorem issueChoice_ne_nothing {r : SegRec} {u : UnitRec} : issueChoice r u ≠ .nothing ↔
    u.levelsSlot = .zeroReset ∨ u.levelsSlot = .levels ∧ u.applied.isSome = true ∨
      ∃ m, u.modeSlot = some m ∧ modeHeldBack r = false ∧ (m = .active ∨ u.applied = some (.all 0)) := by
  have slot : issueChoice r u = if u.levelsSlot = .zeroReset then .zeroReset else
      match u.modeSlot with
      | none => levelsChoice u
      | some t =>
        if modeHeldBack r then levelsChoice u
        else if isDown t && u.applied ≠ some zeroLevels then levelsChoice u
        else .mode t := by
    unfold issueChoice
    cases u.levelsSlot <;> cases u.modeSlot <;> rfl
  rw [slot]
  by_cases zero : u.levelsSlot = .zeroReset
  · simp [zero]
  · rw [if_neg zero]
    simp only [zero, false_or]
    cases u.modeSlot with
    | none => simp [levelsChoice_ne_nothing]
    | some m =>
      dsimp only
      by_cases back : modeHeldBack r = true
      · rw [if_pos back]
        simp [levelsChoice_ne_nothing, back]
      · rw [if_neg back]
        by_cases wait : m ≠ .active ∧ u.applied ≠ some zeroLevels
        · rw [if_pos (by simp [isDown_iff, wait.1, wait.2])]
          simp only [levelsChoice_ne_nothing, Option.some.injEq, exists_eq_left', wait.1, false_or]
          exact ⟨.inl, fun h => h.elim id fun g => absurd g.2 wait.2⟩
        · rw [if_neg (by simpa [isDown_iff] using wait)]
          refine ⟨fun _ => .inr ⟨m, rfl, Bool.eq_false_iff.mpr back, ?_⟩, fun _ => nofun⟩
          by_contra neither
          exact wait ⟨fun g => neither (.inl g), fun g => neither (.inr g)⟩

theorem issueDue_iff {k : SegId} : issueDue s k = true ↔ TimerDue s (.directiveIssue k) := by
  simp only [issueDue, canIssue, Bool.and_eq_true, decide_eq_true_eq, quietPassed_iff, issueChoice_ne_nothing, TimerDue,
    Option.isNone_iff_eq_none, and_assoc]

theorem windowClosed_iff {k : SegId} : windowClosed s.sys.uptime (s.unit k) = true ↔ TimerDue s (.replyTimeout k) := by
  unfold windowClosed TimerDue
  cases flight : (s.unit k).inflight <;> simp [reachedOpt_iff, flight]

theorem waitEnded_iff {k : SegId} : waitEnded s.sys.uptime (s.unit k) = true ↔ TimerDue s (.rouseWaitExpiry k) := by
  unfold waitEnded TimerDue
  cases flight : (s.unit k).inflight <;> simp [reachedOpt_iff, flight]

theorem totDue_iff {c : Chan} : totDue s c = true ↔ TimerDue s (.totExpiry c) := by
  unfold totDue TimerDue limitInForce
  cases start : (s.chan c).totStart with
  | none => simp [start]
  | some start =>
    cases level : s.talk.level with
    | normal => simp only [decide_eq_true_eq, start, level, Option.some.injEq, exists_eq_left', true_and, reduceCtorEq, false_and, or_false]; rfl
    | incident =>
      by_cases off : s.talk.itotS = 0
      · simp [off, start, level]
      · simp only [off, if_false, decide_eq_true_eq, start, level, Option.some.injEq, exists_eq_left', true_and, reduceCtorEq,
          false_and, false_or, ne_eq, not_false_eq_true]
        rfl

theorem endDue_iff {c : PChan} {st : PlayState} : endDue s st c = true ↔ MessageOver s c st := by
  rw [endDue, Bool.and_eq_true, decide_eq_true_eq, MessageOver]
  refine and_congr_right fun _ => ?_
  unfold messageRead readLength
  cases (s.pchan c).cur with
  | none => simp
  | some q => cases (s.pchan c).message <;> simp

theorem fireDue_iff : fireDue s = true ↔ TimerDue s .fireFilterExpiry := by
  rw [fireDue, Bool.and_eq_true, decide_eq_true_eq, decide_eq_true_eq]
  exact Iff.rfl

theorem rowDue_iff : rowDue s i = true ↔ TimerDue s i := by
  cases i with
  | surveyRound => exact decide_eq_true_iff
  | surveyTimeout d => exact surveyDue_iff
  | directiveIssue k => exact issueDue_iff
  | replyTimeout k => exact windowClosed_iff
  | rouseWaitExpiry k => exact waitEnded_iff
  | hangExpiry c => simp only [rowDue, hangDue, Bool.and_eq_true, decide_eq_true_eq, reachedOpt_iff, TimerDue]
  | totExpiry c => exact totDue_iff
  | messageEnd c => exact endDue_iff
  | checkMessageEnd c => exact endDue_iff
  | airtimeMark =>
    rw [rowDue, markDue, Bool.and_eq_true, decide_eq_true_eq, decide_eq_true_eq]
    exact Iff.rfl
  | fireFilterExpiry => exact fireDue_iff
  | portLapse p => simp only [rowDue, lapseDue, Bool.and_eq_true, Bool.not_eq_true', reachedOpt_iff, TimerDue]
  | _ => simp [rowDue, TimerDue]

/-! ### A row that is not due -/

theorem settle_self (s : State) : settle s s = s := if_pos rfl

theorem issue_of_nothing {k : SegId} (h : issueChoice (s.seg k) (s.unit k) = .nothing) : issue k s = s := by
  simp only [issue, h]

theorem replyTimeout_of_open {k : SegId} (h : windowClosed s.sys.uptime (s.unit k) = false) : replyTimeout k s = s := by
  unfold replyTimeout
  split
  · rw [h]
    rfl
  · rfl

theorem rouseWaitExpiry_of_wait {k : SegId} (h : waitEnded s.sys.uptime (s.unit k) = false) : rouseWaitExpiry k s = s := by
  unfold rouseWaitExpiry
  split
  · rw [h]
    rfl
  · rfl

theorem checkMessageEnd_of_unread {c : PChan} (h : endDue s .checking c = false) : checkMessageEnd c s = s := by
  unfold checkMessageEnd
  dsimp only
  split
  · rw [h]
    rfl
  · rfl

/-- While the part is held in reset, or before its moment, a row of the part's own changes nothing. -/
theorem exec_of_not_due (timed : isTimed i = true) (h : i ∉ dueRows s) : exec i s = .next s := by
  rw [mem_dueRows, not_and, Bool.not_eq_true] at h
  by_cases held : s.sys.held = true
  · cases i with
    | directiveIssue k => exact congrArg Host.Outcome.next (if_neg (by rw [held]; exact Bool.false_ne_true))
    | surveyRound | surveyTimeout | replyTimeout | rouseWaitExpiry | hangExpiry | totExpiry | airtimeMark | messageEnd
    | checkMessageEnd | fireFilterExpiry | portLapse => exact congrArg Host.Outcome.next (if_pos held)
    | _ => exact nomatch timed
  · have off := h (Bool.eq_false_iff.mpr held)
    have unheld {t : State} (same : t = s) : (if s.sys.held then s else t) = s := by rw [same]; exact ite_self _
    cases i with
    | surveyRound => exact congrArg Host.Outcome.next (unheld (if_neg (Bool.eq_false_iff.mp off)))
    | surveyTimeout d => exact congrArg Host.Outcome.next (unheld (if_neg (Bool.eq_false_iff.mp off)))
    | directiveIssue k =>
      rw [rowDue, issueDue] at off
      refine congrArg Host.Outcome.next (ite_eq_right_iff.mpr fun can => issue_of_nothing ?_)
      rw [Bool.and_eq_true] at can
      rw [can.2, Bool.true_and, decide_eq_false_iff_not, ne_eq, Classical.not_not] at off
      exact off
    | replyTimeout k =>
      refine congrArg Host.Outcome.next (unheld ?_)
      rw [replyTimeout_of_open off, settle_self]
    | rouseWaitExpiry k => exact congrArg Host.Outcome.next (unheld (rouseWaitExpiry_of_wait off))
    | hangExpiry c => exact congrArg Host.Outcome.next (unheld (if_neg (Bool.eq_false_iff.mp off)))
    | totExpiry c => exact congrArg Host.Outcome.next (unheld (if_neg (Bool.eq_false_iff.mp off)))
    | airtimeMark => exact congrArg Host.Outcome.next (unheld (if_neg (Bool.eq_false_iff.mp off)))
    | messageEnd c => exact congrArg Host.Outcome.next (unheld (if_neg (Bool.eq_false_iff.mp off)))
    | checkMessageEnd c => exact congrArg Host.Outcome.next (unheld (checkMessageEnd_of_unread off))
    | fireFilterExpiry => exact congrArg Host.Outcome.next (unheld (if_neg (Bool.eq_false_iff.mp off)))
    | portLapse p => exact congrArg Host.Outcome.next (unheld (if_neg (Bool.eq_false_iff.mp off)))
    | _ => exact nomatch timed

/-- The row of the part's own that is due, run: the part is not held in reset. -/
theorem held_of_due (h : i ∈ dueRows s) : s.sys.held = false := (mem_dueRows.mp h).1

/-! ### The idle step -/

/-- Where rows are due, one of them is queued. -/
theorem idle_of_due (hp : s.pending = []) (h : dueRows s ≠ []) :
    ∃ i ∈ dueRows s, (idle s).pending = [i] ∧ { idle s with pending := [], draws := s.draws } = s := by
  have same : { s with pending := [] } = s := by rw [← hp]
  unfold idle
  split
  · next none => exact absurd none h
  · next i one =>
    rw [one]
    exact ⟨i, List.mem_singleton_self i, rfl, same⟩
  · next i l _ rows =>
    have inside : Config.pick s.draws % (i :: l).length < (i :: l).length := Nat.mod_lt _ (Nat.succ_pos _)
    refine ⟨_, ?_, rfl, same⟩
    rw [rows, List.getElem?_eq_getElem inside, Option.getD_some]
    exact List.getElem_mem inside

theorem idle_of_none (h : dueRows s = []) : idle s = tick s := by
  unfold idle
  rw [h]

/-! ### One millisecond -/

theorem Four_pget_map {α β : Type} (f : α → β) (v : Four α) (c : PChan) : (v.map f).pget c = f (v.pget c) := by cases c <;> rfl

theorem tick_pchan (c : PChan) : (tick s).pchan c = if s.sys.held then s.pchan c else readMs s (s.pchan c) := by
  unfold tick
  cases s.sys.held with
  | true => rfl
  | false => exact Four_pget_map ..

theorem tick_unit (k : SegId) : (tick s).unit k = { s.unit k with
    quiet := if s.sys.held = false ∧ quietPassed (s.sys.uptime + 1) (s.unit k) = true then none else (s.unit k).quiet } := by
  unfold tick
  cases s.sys.held with
  | true => rfl
  | false =>
    have settled : (vall s.engine.units (UnitRec.settleQuiet (s.sys.uptime + 1)))[k] =
      (s.unit k).settleQuiet (s.sys.uptime + 1) := vall_get ..
    refine settled.trans ?_
    unfold UnitRec.settleQuiet
    by_cases passed : quietPassed (s.sys.uptime + 1) (s.unit k) = true
    · rw [if_pos passed, if_pos ⟨rfl, passed⟩]
    · rw [if_neg passed, if_neg fun g => passed g.2]

theorem tick_frame :
    { tick s with sys := s.sys, plant := s.plant, play := s.play, engine := s.engine, wire := s.wire } = s ∧
    (tick s).sys = { s.sys with uptime := if s.sys.held then s.sys.uptime else s.sys.uptime + 1 } ∧
    (tick s).plant = { s.plant with clock := s.plant.clock + 1 } ∧ (tick s).wire = [] ∧
    { (tick s).engine with units := s.engine.units } = s.engine ∧ { (tick s).play with chans := s.play.chans } = s.play := by
  unfold tick
  split
  · next held => exact ⟨rfl, by simp only [if_pos held], rfl, rfl, rfl, rfl⟩
  · next live => exact ⟨rfl, by simp only [if_neg live], rfl, rfl, rfl, rfl⟩

theorem readFor_unnamed {r : PlayRec} (units : Nat) (h : r.message = none) : readFor s units r = r := by
  simp only [readFor, h]

/-- R120: a channel that is idle, held or names no message does not move. -/
theorem readMs_of_still {r : PlayRec} (h : r.state = .idle ∨ r.state = .held ∨ r.message = none) : readMs s r = r := by
  unfold readMs
  rcases h with h | h | h
  · rw [h]
  · rw [h]
  · cases r.state with
    | playing => exact readFor_unnamed _ h
    | checking => exact readFor_unnamed _ h
    | _ => rfl

theorem readMs_of_unserved {r : PlayRec} {i : MsgId} (h : r.message = some i) (hc : (s.msg i).content.isClosed = false) :
    readMs s r = r := by
  have unserved : (s.msg i).content.served? = none := by
    cases content : (s.msg i).content with
    | closed m declared damaged => rw [content] at hc; exact nomatch hc
    | _ => rfl
  unfold readMs
  cases r.state with
  | playing => exact readFor_unserved s _ r i h unserved
  | checking => exact readFor_unserved s _ r i h unserved
  | _ => rfl

/-- R120: what a channel reads in a closed message. -/
theorem readFor_served {r : PlayRec} {i : MsgId} {q : Cursor} {m : MsgBody} {declared : Half} {damaged : Bool} (units : Nat)
    (h : r.message = some i) (hq : r.cur = some q) (hm : (s.msg i).content = .closed m declared damaged) :
    readFor s units r = { r with cur := some { q.readOn m.length units with
      sum := if r.state = .checking then
          q.sum + checksum (memLoad s.store.mem m.first q.pos ((q.readOn m.length units).pos - q.pos))
        else q.sum } } := by
  simp only [readFor, h, hq, hm, MsgContent.served?]

theorem readMs_playing {r : PlayRec} {i : MsgId} {q : Cursor} {m : MsgBody} {declared : Half} {damaged : Bool}
    (h : r.message = some i) (hq : r.cur = some q) (hm : (s.msg i).content = .closed m declared damaged)
    (hs : r.state = .playing) : readMs s r = { r with cur := some (q.readOn m.length 2000) } := by
  have read : readMs s r = readFor s 2000 r := by
    unfold readMs
    rw [hs]
    rfl
  rw [read, readFor_served 2000 h hq hm, hs]
  rfl

theorem readMs_checking {r : PlayRec} {i : MsgId} {q : Cursor} {m : MsgBody} {declared : Half} {damaged : Bool}
    (h : r.message = some i) (hq : r.cur = some q) (hm : (s.msg i).content = .closed m declared damaged)
    (hs : r.state = .checking) : readMs s r = { r with cur := some { q.readOn m.length 131072 with
      sum := q.sum + checksum (memLoad s.store.mem m.first q.pos (min ((q.frac + 131072) / 125) (m.length - q.pos))) } } := by
  have read : readMs s r = readFor s 131072 r := by
    unfold readMs
    rw [hs]
    rfl
  have moved : (q.readOn m.length 131072).pos - q.pos = min ((q.frac + 131072) / 125) (m.length - q.pos) :=
    Nat.add_sub_cancel_left ..
  rw [read, readFor_served 131072 h hq hm, if_pos hs, moved]

/-- Settles O2. -/
theorem idleStep : Obligations.IdleStep := by
  refine ⟨fun s i => ?_, fun s i timed off => exec_of_not_due timed off, fun s hp => ⟨idle s, ?_, fun due => ?_, fun none => ?_⟩⟩
  · rw [mem_dueRows, rowDue_iff]
  · unfold step
    rw [hp]
  · exact idle_of_due hp due
  · rw [idle_of_none none]
    obtain ⟨rest, sys, plant, wire, engine, play⟩ := tick_frame (s := s)
    refine ⟨rest, sys, plant, wire, engine, tick_unit, play, fun c => ⟨fun still => ?_, fun i hi => ⟨fun unserved => ?_,
      fun q hq m declared damaged hm => ⟨fun live playing => ?_, fun live checking => ?_⟩⟩⟩⟩
    · rw [tick_pchan]
      rcases still with held | still
      · rw [held]
        rfl
      · rw [readMs_of_still still, ite_self]
    · rw [tick_pchan, readMs_of_unserved hi unserved, ite_self]
    · rw [tick_pchan, live, readMs_playing hi hq hm playing]
      rfl
    · rw [tick_pchan, live, readMs_checking hi hq hm checking]
      rfl

end

end Sys2Proof.Machine

/-! The incident controller (R150 to R158): what a change of claims makes of its record, and the FIRE line. -/

namespace Sys2Proof.Machine

section
variable {x : Law} {s : State}

/-! ### What an onset and a return leave alone -/

theorem kept_onset (hs : x ≠ .store) (hl : x ≠ .loop) (ho : x ≠ .owners) (before : State) : Kept x s (onset before s) := by
  have upToOwners : Kept x s (playoutOnset (talkLevel .incident (loopOnset (allocLevel .incident s)))) :=
    (((kept_setAllocLevel _).trans (kept_loopOnset hl)).trans (kept_setTalkLevel _)).trans (kept_playoutOnset hs)
  unfold onset
  dsimp only
  split
  · exact (upToOwners.trans (kept_recomputeOwners ho _)).trans (kept_raiseStarted _)
  · exact upToOwners.trans (kept_settle ho _)

theorem kept_returnToNormal (hl : x ≠ .loop) (ho : x ≠ .owners) (before : State) : Kept x s (returnToNormal before s) :=
  ((((kept_setAllocLevel _).trans (kept_loopLevel hl _)).trans (kept_setTalkLevel _)).trans kept_releaseP1).trans
    (kept_settle ho _)

/-! ### A change of a claim (R150) -/

theorem Claims.set_get (c : Claims) (y : Claim) : c.set y (c.get y) = c := by cases y <;> rfl

theorem changeClaim_same {y : Claim} {b : Bool} (cause : ClaimCause) (h : s.inc.claims.get y = b) :
    changeClaim y b cause s = s := if_pos h

/-- R150: a change of a claim writes claims and level of the controller's record, and nothing else there. -/
theorem changeClaim_inc (y : Claim) (b : Bool) (cause : ClaimCause) (s : State) :
    ∃ l, (changeClaim y b cause s).inc = { s.inc with claims := s.inc.claims.set y b, level := l } := by
  unfold changeClaim
  split
  · next same =>
    refine ⟨s.inc.level, ?_⟩
    have claims : s.inc.claims.set y b = s.inc.claims := by rw [← same, Claims.set_get]
    rw [claims]
  · refine ⟨levelOf (s.inc.claims.set y b), ?_⟩
    dsimp only
    split
    · exact kept_onset (x := .inc) nofun nofun nofun _
    · exact kept_returnToNormal (x := .inc) nofun nofun _
    · rfl

/-! ### The FIRE line (R154 to R156) -/

theorem fireLineChange_eq (b : Bool) (s : State) : fireLineChange b s =
    if s.inc.raw = b then s else { s with inc.raw := b, inc.changedAt := s.sys.uptime } := rfl

/-- What an expiry of the filter makes of the record: claim and arm of the LINE. -/
def FireTaken (s : State) (line arm : Bool) (t : State) : Prop :=
  ∃ l, t.inc = { s.inc with filtered := heldLevel s.inc.raw, claims := s.inc.claims.set .line line, arm := arm, level := l }

theorem fireTaken_claim {t : State} {arm : Bool} (line : Bool) (h : t.inc = { s.inc with filtered := heldLevel s.inc.raw, arm := arm }) :
    FireTaken s line arm (changeClaim .line line .fire t) := by
  obtain ⟨l, made⟩ := changeClaim_inc .line line .fire t
  exact ⟨l, by rw [made, h]⟩

theorem fireTaken_stays {t : State} {arm : Bool} (h : t.inc = { s.inc with filtered := heldLevel s.inc.raw, arm := arm }) :
    FireTaken s s.inc.claims.line arm t := ⟨s.inc.level, h⟩

theorem takeFireLevel_settling (h : s.inc.filtered = .unsettled) :
    FireTaken s (s.inc.raw || s.inc.claims.line) (!s.inc.raw) (takeFireLevel s) := by
  cases raw : s.inc.raw with
  | true =>
    simp only [takeFireLevel, h, raw]
    exact fireTaken_claim true (by simp [raw])
  | false =>
    simp only [takeFireLevel, h, raw]
    exact fireTaken_stays (by simp [raw])

/-- The filtered level that a settled filter is about to leave. -/
theorem filtered_of_due (h : s.inc.filtered ≠ .unsettled) (hd : s.inc.filtered ≠ heldLevel s.inc.raw) :
    s.inc.filtered = heldLevel (!s.inc.raw) := by
  cases f : s.inc.filtered with
  | unsettled => exact absurd f h
  | asserted => cases raw : s.inc.raw with
    | true => rw [f, raw] at hd; exact absurd rfl hd
    | false => rfl
  | deasserted => cases raw : s.inc.raw with
    | true => rfl
    | false => rw [f, raw] at hd; exact absurd rfl hd

theorem takeFireLevel_level (h : s.inc.filtered = heldLevel (!s.inc.raw)) (hs : s.inc.sense = .level) :
    FireTaken s s.inc.raw s.inc.arm (takeFireLevel s) := by
  cases raw : s.inc.raw with
  | true =>
    rw [raw] at h
    simp only [takeFireLevel, show s.inc.filtered = .deasserted from h, raw, hs]
    exact fireTaken_claim true (by simp [raw, hs])
  | false =>
    rw [raw] at h
    simp only [takeFireLevel, show s.inc.filtered = .asserted from h, raw, hs]
    exact fireTaken_claim false (by simp [raw, hs])

theorem takeFireLevel_edge (h : s.inc.filtered = heldLevel (!s.inc.raw)) (hs : s.inc.sense = .edge) :
    FireTaken s (s.inc.claims.line || s.inc.raw && s.inc.arm) (!s.inc.raw) (takeFireLevel s) := by
  cases raw : s.inc.raw with
  | true =>
    rw [raw] at h
    simp only [takeFireLevel, show s.inc.filtered = .deasserted from h, raw, hs, Bool.true_and]
    split
    · next armed =>
      rw [armed, Bool.or_true]
      exact fireTaken_claim true (by simp [raw, hs])
    · next unarmed =>
      have arm := Bool.eq_false_iff.mpr unarmed
      rw [arm, Bool.or_false]
      exact fireTaken_stays (by simp [raw, hs])
  | false =>
    rw [raw] at h
    simp only [takeFireLevel, show s.inc.filtered = .asserted from h, raw, hs, Bool.false_and, Bool.or_false]
    exact fireTaken_stays (by simp [raw, hs])

theorem exec_fireFilterExpiry (h : .fireFilterExpiry ∈ dueRows s) :
    exec .fireFilterExpiry s = .next (takeFireLevel s) ∧ s.inc.filtered ≠ heldLevel s.inc.raw := by
  obtain ⟨held, due⟩ := mem_dueRows.mp h
  have passed : fireDue s = true := due
  refine ⟨congrArg Host.Outcome.next ((if_neg (by rw [held]; exact Bool.false_ne_true)).trans (if_pos passed)), ?_⟩
  rw [fireDue, Bool.and_eq_true, decide_eq_true_eq] at passed
  exact passed.1

theorem hold_holding (t : State) (p : Port) (code : Byte) (r : Reply) :
    ((t.hold p code r).port p).holding = ⟨r.status, code, r.payload⟩ := by
  rw [State.hold, modPort_port, if_pos rfl]

/-! ### SET FIRE SENSE (R156) -/

/-- R156: what a changed sense makes of claim and arm. -/
theorem changeSense_inc (sense : FireSense) (s : State) :
    ∃ l, (changeSense sense s).inc = { s.inc with
      sense := sense, level := l,
      claims := s.inc.claims.set .line
        (if sense = .level ∧ s.inc.filtered ≠ .unsettled then decide (s.inc.filtered = .asserted) else s.inc.claims.line),
      arm := if sense = .edge ∧ s.inc.filtered ≠ .unsettled then decide (s.inc.filtered = .deasserted) else s.inc.arm } := by
  have claim (b : Bool) := changeClaim_inc .line b .sense { s with inc.sense := sense }
  have line : s.inc.claims.set .line s.inc.claims.line = s.inc.claims := Claims.set_get s.inc.claims .line
  unfold changeSense
  cases sense with
  | edge =>
    refine ⟨s.inc.level, ?_⟩
    cases f : s.inc.filtered <;> simp [line]
  | level =>
    cases f : s.inc.filtered with
    | unsettled => exact ⟨s.inc.level, by simp [line]⟩
    | asserted =>
      obtain ⟨l, made⟩ := claim true
      exact ⟨l, made.trans (by simp [f])⟩
    | deasserted =>
      obtain ⟨l, made⟩ := claim false
      exact ⟨l, made.trans (by simp [f])⟩

theorem flagOf_senseCode {b : Byte} {y : FireSense} (h : b.toNat = senseCode y) :
    flagOf b = some (decide (y = .edge)) ∧ fl (decide (y = .edge)) = [b] := by
  have small : ¬ 1 < b.toNat := by cases y <;> simp only [senseCode] at h <;> omega
  rcases zero_or_one small with rfl | rfl
  · cases y with
    | level => exact ⟨rfl, rfl⟩
    | edge => exact absurd h (by decide)
  · cases y with
    | level => exact absurd h (by decide)
    | edge => exact ⟨rfl, rfl⟩

theorem setFireSense_refused {b : Byte} (h : 1 < b.toNat) : setFireSense b s = refuse .badArgument s := by
  simp only [setFireSense, flagOf_eq_none h]

theorem setFireSense_named {b : Byte} {y : FireSense} (h : b.toNat = senseCode y) :
    setFireSense b s = (if s.inc.sense = y then s else changeSense y s,
      ⟨.ok, [b] ++ b1 (claimsCode (if s.inc.sense = y then s else changeSense y s).inc.claims)⟩) := by
  obtain ⟨flag, byte⟩ := flagOf_senseCode h
  have new : (if decide (y = .edge) = true then FireSense.edge else .level) = y := by cases y <;> rfl
  simp only [setFireSense, flag, byte, new]

theorem setFireSense_changes {b : Byte} {y : FireSense} (h : b.toNat = senseCode y) (hs : s.inc.sense ≠ y) :
    setFireSense b s = (changeSense y s, ⟨.ok, [b] ++ b1 (claimsCode (changeSense y s).inc.claims)⟩) := by
  rw [setFireSense_named h, if_neg hs]

theorem setFireSense_result {b : Byte} {y : FireSense} (h : b.toNat = senseCode y) (hs : s.inc.sense ≠ y) :
    ∃ t, setFireSense b s = (t, ⟨.ok, [b] ++ b1 (claimsCode t.inc.claims)⟩) ∧ ∃ l, t.inc = { s.inc with
      sense := y, level := l,
      claims := s.inc.claims.set .line
        (if y = .level ∧ s.inc.filtered ≠ .unsettled then decide (s.inc.filtered = .asserted) else s.inc.claims.line),
      arm := if y = .edge ∧ s.inc.filtered ≠ .unsettled then decide (s.inc.filtered = .deasserted) else s.inc.arm } :=
  ⟨_, setFireSense_changes h hs, changeSense_inc y s⟩

/-- Settles O23. -/
theorem fireLine : Obligations.FireLine := by
  refine ⟨fun b s => congrArg Host.Outcome.next (fireLineChange_eq b s), fun s due => ?_, fun p b s hr => ⟨fun bad => ?_, fun y hy =>
    ⟨fun same => ?_, fun other => ?_⟩⟩⟩
  · obtain ⟨run, leaves⟩ := exec_fireFilterExpiry due
    refine ⟨_, run, ?_⟩
    by_cases settling : s.inc.filtered = .unsettled
    · obtain ⟨l, made⟩ := takeFireLevel_settling settling
      rw [made]
      refine ⟨rfl, rfl, rfl, rfl, rfl, rfl, rfl, fun _ up => ?_, fun _ down => ?_, fun g => absurd settling g,
        fun g => absurd settling g, fun g => absurd settling g⟩
      · simp only [up, Claims.set, Bool.true_or, Bool.not_true, and_self]
      · simp only [down, Claims.set, Bool.false_or, Bool.not_false, and_self]
    · have was := filtered_of_due settling leaves
      cases sense : s.inc.sense with
      | level =>
        obtain ⟨l, made⟩ := takeFireLevel_level was sense
        rw [made]
        exact ⟨rfl, rfl, rfl, sense, rfl, rfl, rfl, fun g => absurd g settling, fun g => absurd g settling, fun _ _ => ⟨rfl, rfl⟩, fun _ g => absurd g (by decide),
          fun _ g => absurd g (by decide)⟩
      | edge =>
        obtain ⟨l, made⟩ := takeFireLevel_edge was sense
        rw [made]
        refine ⟨rfl, rfl, rfl, sense, rfl, rfl, rfl, fun g => absurd g settling, fun g => absurd g settling, fun _ g => absurd g (by decide),
          fun _ _ up => ?_, fun _ _ down => ?_⟩
        · simp only [up, Claims.set, Bool.true_and, Bool.not_true, and_self]
        · simp only [down, Claims.set, Bool.false_and, Bool.or_false, Bool.not_false, and_self]
  · exact congrArg Host.Outcome.next (portCommand_served rfl hr (setFireSense_refused bad))
  · refine congrArg Host.Outcome.next (portCommand_served rfl hr ((setFireSense_named (s := s.modPort p _) hy).trans ?_))
    rw [if_pos (show (s.modPort p _).inc.sense = y from same)]
    rfl
  · obtain ⟨t, run, l, made⟩ := setFireSense_result (s := s.modPort p fun q => q.shift (commandFrame 0x19 [b])) hy other
    refine ⟨_, exec_of_body rfl rfl hr run, hold_holding .., ?_⟩
    have inc : (t.hold p 0x19 ⟨.ok, [b] ++ b1 (claimsCode t.inc.claims)⟩).inc = t.inc := rfl
    rw [inc, made]
    exact ⟨rfl, rfl, rfl, rfl, rfl, rfl⟩

end

end Sys2Proof.Machine

/-! DECLARE INCIDENT and CLEAR INCIDENT (R150, R152, R153). -/

namespace Sys2Proof.Machine

theorem incidentAnswer_eq (s : State) :
    incidentAnswer s = b1 (claimsCode s.inc.claims) ++ [if s.inc.level = .incident then 1 else 0] := by
  unfold incidentAnswer
  cases s.inc.level <;> rfl

/-- R152: the claim that a port declares. -/
def declaredClaim (p : Port) : Claim := if p = .e then .rescue else .ops

section
variable {s : State}

theorem declareIncident_result (p : Port) (s : State) :
    ∃ t, declareIncident p s = (t, ⟨.ok, incidentAnswer t⟩) ∧
      (∃ l, t.inc = { s.inc with claims := s.inc.claims.set (declaredClaim p) true, level := l }) ∧
      (s.inc.claims.get (declaredClaim p) = true → t = s) := by
  cases p with
  | e => exact ⟨_, rfl, changeClaim_inc .rescue true .declareE s, changeClaim_same .declareE⟩
  | o => exact ⟨_, rfl, changeClaim_inc .ops true .declareO s, changeClaim_same .declareO⟩
  | c => exact ⟨_, rfl, changeClaim_inc .ops true .declareO s, changeClaim_same .declareO⟩

theorem set_declaredClaim (c : Claims) (p : Port) : c.set (declaredClaim p) true =
    if p = .e then { c with rescue := true } else { c with ops := true } := by cases p <;> rfl

theorem get_declaredClaim (c : Claims) (p : Port) : c.get (declaredClaim p) = if p = .e then c.rescue else c.ops := by
  cases p <;> rfl

theorem claimOf_eq_none {b : Byte} (h : 2 < b.toNat) : claimOf b = none := by
  unfold claimOf
  split
  · omega
  · omega
  · omega
  · rfl

theorem claimOf_claimCode (y : Claim) : claimOf (claimCode y) = some y := by cases y <;> rfl

theorem clearIncident_refused {p : Port} {b : Byte} (h : 2 < b.toNat) : clearIncident p b s = refuse .badArgument s := by
  simp only [clearIncident, claimOf_eq_none h]

theorem clearIncident_notPermitted {p : Port} {y : Claim} (h : mayClear p y = false) :
    clearIncident p (claimCode y) s = refuse .notPermitted s := by
  simp only [clearIncident, claimOf_claimCode, h, Bool.not_false, if_true]

theorem clearIncident_lineActive {p : Port} (h : mayClear p .line = true) (hf : s.inc.filtered = .asserted) :
    clearIncident p (claimCode .line) s = (s, ⟨.lineActive, incidentAnswer s⟩) := by
  simp only [clearIncident, claimOf_claimCode, h, hf, Bool.not_true, Bool.false_eq_true, if_false, true_and, if_true]

theorem clearIncident_cleared {p : Port} {y : Claim} (h : mayClear p y = true) (hf : ¬ (y = .line ∧ s.inc.filtered = .asserted)) :
    clearIncident p (claimCode y) s =
      (changeClaim y false (clearCause p) s, ⟨.ok, incidentAnswer (changeClaim y false (clearCause p) s)⟩) := by
  simp only [clearIncident, claimOf_claimCode, h, hf, Bool.not_true, Bool.false_eq_true, if_false]

theorem clearIncident_result {p : Port} {y : Claim} (h : mayClear p y = true) (hf : ¬ (y = .line ∧ s.inc.filtered = .asserted)) :
    ∃ t, clearIncident p (claimCode y) s = (t, ⟨.ok, incidentAnswer t⟩) ∧
      (∃ l, t.inc = { s.inc with claims := s.inc.claims.set y false, level := l }) ∧ (s.inc.claims.get y = false → t = s) :=
  ⟨_, clearIncident_cleared h hf, changeClaim_inc y false _ s, changeClaim_same _⟩

end

/-- Settles O24. -/
theorem claimCommands : Obligations.ClaimCommands := by
  refine ⟨fun p s hr => ?_, fun p b s hr => ⟨fun bad => ?_, fun y hy => ?_⟩⟩
  · obtain ⟨t, run, ⟨l, made⟩, same⟩ := declareIncident_result p (s.modPort p fun q => q.shift (commandFrame 0x38 []))
    have done := exec_of_body rfl rfl hr run
    have inc : (t.hold p 0x38 ⟨.ok, incidentAnswer t⟩).inc = t.inc := rfl
    refine ⟨_, done, ?_, ?_, ?_, fun present => ?_⟩
    · rw [inc, made]
      exact set_declaredClaim ..
    · rw [hold_holding, incidentAnswer_eq]
      rfl
    · rw [inc, made]
      rfl
    · rw [← get_declaredClaim] at present
      rw [same present]
      exact congrArg (fun a => served (.declareIncident p) .ok a s) (incidentAnswer_eq s)
  · exact congrArg Host.Outcome.next (portCommand_served rfl hr (clearIncident_refused bad))
  · subst hy
    refine ⟨fun other => ?_, fun hp hy active => ?_, fun may => ?_⟩
    · have forbidden : mayClear p y = false := by
        rcases other with ⟨rfl, h⟩ | ⟨rfl, rfl⟩
        · cases y <;> first | rfl | exact absurd rfl h
        · rfl
      exact congrArg Host.Outcome.next (portCommand_served rfl hr (clearIncident_notPermitted forbidden))
    · subst hp hy
      rw [← incidentAnswer_eq]
      exact congrArg Host.Outcome.next (portCommand_served rfl hr (clearIncident_lineActive (s := s.modPort .o _) rfl active))
    · have permitted : mayClear p y = true ∧ ¬ (y = .line ∧ s.inc.filtered = .asserted) := by
        rcases may with ⟨rfl, rfl⟩ | ⟨rfl, rfl | ⟨rfl, h⟩⟩
        · exact ⟨rfl, fun g => nomatch g.1⟩
        · exact ⟨rfl, fun g => nomatch g.1⟩
        · exact ⟨rfl, fun g => h g.2⟩
      obtain ⟨t, run, ⟨l, made⟩, same⟩ := clearIncident_result
        (s := s.modPort p fun q => q.shift (commandFrame 0x39 [claimCode y])) permitted.1 permitted.2
      have done := exec_of_body rfl rfl hr run
      have inc : (t.hold p 0x39 ⟨.ok, incidentAnswer t⟩).inc = t.inc := rfl
      refine ⟨_, done, ?_, ?_, ?_, fun absent => ?_⟩
      · rw [inc, made]
        rfl
      · rw [hold_holding, incidentAnswer_eq]
        rfl
      · rw [inc, made]
        rfl
      · rw [same absent]
        exact congrArg (fun a => served (.clearIncident p (claimCode y)) .ok a s) (incidentAnswer_eq s)

end Sys2Proof.Machine

/-! Which components of the state an operation writes. `Writes l s t` says that the change from `s` to `t` leaves every component
outside `l` as it was; each operation of the model has one lemma, and an operation made of others follows its own text. -/

namespace Sys2Proof.Machine

/-- The components of the state. -/
inductive Field where
  | sys | ports | loop | engine | alloc | meter | talk | store | play | brk | inc | plant | wire | lastMark | draws | pending
  deriving DecidableEq

/-- A component is the same in two states. -/
def Field.Same : Field → State → State → Prop
  | .sys, s, t => t.sys = s.sys
  | .ports, s, t => t.ports = s.ports
  | .loop, s, t => t.loop = s.loop
  | .engine, s, t => t.engine = s.engine
  | .alloc, s, t => t.alloc = s.alloc
  | .meter, s, t => t.meter = s.meter
  | .talk, s, t => t.talk = s.talk
  | .store, s, t => t.store = s.store
  | .play, s, t => t.play = s.play
  | .brk, s, t => t.brk = s.brk
  | .inc, s, t => t.inc = s.inc
  | .plant, s, t => t.plant = s.plant
  | .wire, s, t => t.wire = s.wire
  | .lastMark, s, t => t.lastMark = s.lastMark
  | .draws, s, t => t.draws = s.draws
  | .pending, s, t => t.pending = s.pending

/-- The change from `s` to `t` writes components of `l` alone. -/
structure Writes (l : List Field) (s t : State) : Prop where
  same : ∀ x, x ∉ l → x.Same s t

namespace Writes
variable {l l' : List Field} {s t u : State}

theorem refl (s : State) : Writes l s s := ⟨fun x _ => by cases x <;> rfl⟩

theorem trans (h : Writes l s t) (g : Writes l t u) : Writes l s u := ⟨fun x hx => by
  have a := h.same x hx
  have b := g.same x hx
  cases x <;> exact Eq.trans b a⟩

theorem mono (h : Writes l s t) (hl : l ⊆ l') : Writes l' s t :=
  ⟨fun x hx => h.same x fun g => hx (hl g)⟩

theorem ite {c : Prop} [Decidable c] (ht : c → Writes l s t) (hu : ¬ c → Writes l s u) : Writes l s (if c then t else u) := by
  split
  · exact ht ‹_›
  · exact hu ‹_›

theorem foldl {α : Type} {f : State → α → State} (hf : ∀ s a, Writes l s (f s a)) (as : List α) (s : State) :
    Writes l s (as.foldl f s) := by
  induction as generalizing s with
  | nil => exact refl s
  | cons a as ih => exact (hf s a).trans (ih _)

theorem forSegs {f : SegId → State → State} (hf : ∀ k s, Writes l s (f k s)) (s : State) : Writes l s (Machine.forSegs f s) :=
  foldl (fun t k => ite (fun _ => hf k t) fun _ => refl t) _ s

theorem forSet {m : SegSet} {f : SegId → State → State} (hf : ∀ k s, Writes l s (f k s)) (s : State) :
    Writes l s (Machine.forSet m f s) :=
  forSegs (fun k t => ite (fun _ => hf k t) fun _ => refl t) s

theorem sys (h : Writes l s t) (hl : Field.sys ∉ l := by decide) : t.sys = s.sys := h.same _ hl
theorem ports (h : Writes l s t) (hl : Field.ports ∉ l := by decide) : t.ports = s.ports := h.same _ hl
theorem loop (h : Writes l s t) (hl : Field.loop ∉ l := by decide) : t.loop = s.loop := h.same _ hl
theorem engine (h : Writes l s t) (hl : Field.engine ∉ l := by decide) : t.engine = s.engine := h.same _ hl
theorem alloc (h : Writes l s t) (hl : Field.alloc ∉ l := by decide) : t.alloc = s.alloc := h.same _ hl
theorem meter (h : Writes l s t) (hl : Field.meter ∉ l := by decide) : t.meter = s.meter := h.same _ hl
theorem talk (h : Writes l s t) (hl : Field.talk ∉ l := by decide) : t.talk = s.talk := h.same _ hl
theorem store (h : Writes l s t) (hl : Field.store ∉ l := by decide) : t.store = s.store := h.same _ hl
theorem play (h : Writes l s t) (hl : Field.play ∉ l := by decide) : t.play = s.play := h.same _ hl
theorem brk (h : Writes l s t) (hl : Field.brk ∉ l := by decide) : t.brk = s.brk := h.same _ hl
theorem inc (h : Writes l s t) (hl : Field.inc ∉ l := by decide) : t.inc = s.inc := h.same _ hl
theorem plant (h : Writes l s t) (hl : Field.plant ∉ l := by decide) : t.plant = s.plant := h.same _ hl
theorem wire (h : Writes l s t) (hl : Field.wire ∉ l := by decide) : t.wire = s.wire := h.same _ hl

end Writes

section
variable {s : State}

/-! ### One record -/

theorem writes_raise (d : Tri Bool) (e : EventKind) (y : Byte) (a b : Half) : Writes [.ports] s (s.raise d e y a b) := by
  refine ⟨fun x hx => ?_⟩
  cases x with
  | ports => exact absurd (List.mem_singleton_self _) hx
  | _ => rfl

theorem writes_modPort (p : Port) (f : PortRec → PortRec) : Writes [.ports] s (s.modPort p f) := by
  refine ⟨fun x hx => ?_⟩
  cases x with
  | ports => exact absurd (List.mem_singleton_self _) hx
  | _ => rfl

theorem writes_hold (p : Port) (code : Byte) (r : Reply) : Writes [.ports] s (s.hold p code r) := writes_modPort ..

theorem writes_loop (r : LoopRec) : Writes [.loop] s { s with loop := r } := by
  refine ⟨fun x hx => ?_⟩
  cases x with
  | loop => exact absurd (List.mem_singleton_self _) hx
  | _ => rfl

theorem writes_engine (r : EngineRec) : Writes [.engine] s { s with engine := r } := by
  refine ⟨fun x hx => ?_⟩
  cases x with
  | engine => exact absurd (List.mem_singleton_self _) hx
  | _ => rfl

theorem writes_alloc (r : AllocRec) : Writes [.alloc] s { s with alloc := r } := by
  refine ⟨fun x hx => ?_⟩
  cases x with
  | alloc => exact absurd (List.mem_singleton_self _) hx
  | _ => rfl

theorem writes_meter (r : MeterRec) : Writes [.meter] s { s with meter := r } := by
  refine ⟨fun x hx => ?_⟩
  cases x with
  | meter => exact absurd (List.mem_singleton_self _) hx
  | _ => rfl

theorem writes_talk (r : TalkTable) : Writes [.talk] s { s with talk := r } := by
  refine ⟨fun x hx => ?_⟩
  cases x with
  | talk => exact absurd (List.mem_singleton_self _) hx
  | _ => rfl

theorem writes_store (r : StoreRec) : Writes [.store] s { s with store := r } := by
  refine ⟨fun x hx => ?_⟩
  cases x with
  | store => exact absurd (List.mem_singleton_self _) hx
  | _ => rfl

theorem writes_play (r : PlayTable) : Writes [.play] s { s with play := r } := by
  refine ⟨fun x hx => ?_⟩
  cases x with
  | play => exact absurd (List.mem_singleton_self _) hx
  | _ => rfl

theorem writes_brk (r : BreakRec) : Writes [.brk] s { s with brk := r } := by
  refine ⟨fun x hx => ?_⟩
  cases x with
  | brk => exact absurd (List.mem_singleton_self _) hx
  | _ => rfl

theorem writes_inc (r : IncRec) : Writes [.inc] s { s with inc := r } := by
  refine ⟨fun x hx => ?_⟩
  cases x with
  | inc => exact absurd (List.mem_singleton_self _) hx
  | _ => rfl

/-! ### The allocator -/

/-- What a grant round writes. -/
def roundFields : List Field := [.ports, .alloc, .talk, .engine]

theorem writes_raiseGrantChange (k : SegId) (old new : Six Nat) (e : Entry) : Writes [.ports] s (raiseGrantChange k old new s e) :=
  .ite (fun _ => .refl s) fun _ => writes_raise ..

theorem writes_engineTakesGrants (k : SegId) : Writes [.engine] s (engineTakesGrants k s) :=
  .ite (fun _ => writes_engine _) fun _ => .refl s

theorem writes_runRound (k : SegId) : Writes roundFields s (runRound k s) := by
  refine .ite (fun _ => ?_) fun _ => .refl s
  refine Writes.trans ?_ ((writes_engineTakesGrants k).mono (by decide))
  refine Writes.trans ?_ ((writes_talk _).mono (by decide))
  refine Writes.trans ?_ (.foldl (fun t e => (writes_raiseGrantChange ..).mono (by decide)) _ _)
  exact (writes_alloc _).mono (by decide)

theorem writes_roundsWhereChanged (old : AllocRec) : Writes roundFields s (roundsWhereChanged old s) :=
  .forSegs (fun k t => .ite (fun _ => .refl t) fun _ => writes_runRound k) s

theorem writes_setActivity (b : Bool) : Writes roundFields s (setActivity b s) :=
  Writes.trans ((writes_alloc _).mono (by decide)) (.forSegs (fun k _ => writes_runRound k) _)

theorem writes_allocLevel (l : Level) : Writes roundFields s (allocLevel l s) :=
  Writes.trans ((writes_alloc _).mono (by decide)) (.forSegs (fun k _ => writes_runRound k) _)

theorem writes_suspendEntry (k : SegId) (c : Carrier) : Writes roundFields s (suspendEntry k c s) :=
  .ite (fun _ => .refl s) fun _ =>
    (((writes_alloc _).mono (by decide)).trans ((writes_raise ..).mono (by decide))).trans (writes_runRound k)

theorem writes_recomputeLimit (k : SegId) : Writes (.loop :: roundFields) s (recomputeLimit k s) :=
  .ite (fun _ => .refl s) fun _ => ((writes_loop _).mono (by decide)).trans ((writes_runRound k).mono (by decide))

/-! ### The talk controller -/

theorem writes_modChan (c : Chan) (f : TalkRec → TalkRec) : Writes [.talk] s (s.modChan c f) := writes_talk _

theorem writes_reactFloor (c : Chan) : Writes [.talk] s (reactFloor c s) := by
  rw [reactFloor_eq]
  exact writes_modChan ..

theorem writes_reactBoth : Writes [.talk] s (reactBoth s) := (writes_reactFloor .t1).trans (writes_reactFloor .t2)

theorem writes_unkeyFloor (c : Chan) : Writes [.talk] s (unkeyFloor c s) := by
  rw [unkeyFloor_eq]
  exact writes_modChan ..

theorem writes_expireTot (c : Chan) : Writes [.talk] s (expireTot c s) := by
  rw [expireTot_eq]
  exact writes_modChan ..

theorem writes_retime (old : Option Nat) : Writes [.talk] s (retime old s) := by
  have first : Writes [.talk] s (if totDue s .t1 then expireTot .t1 s else s) :=
    .ite (fun _ => writes_expireTot .t1) fun _ => .refl s
  exact .ite (fun _ => .refl s) fun _ => .ite (fun _ => first.trans (writes_expireTot .t2)) fun _ => first

theorem writes_raiseTalkIfChanged (before : State) (c : Chan) : Writes [.ports] s (raiseTalkIfChanged before c s) :=
  .ite (fun _ => .refl s) fun _ => writes_raise ..

theorem writes_talkFinish (before : State) : Writes roundFields s (talkFinish before s) := by
  have raised := (writes_raiseTalkIfChanged (s := s) before .t1).trans (writes_raiseTalkIfChanged before .t2)
  exact (raised.mono (by decide)).trans (.ite (fun _ => .refl _) fun _ => writes_setActivity _)

theorem writes_talkLevel (l : Level) : Writes roundFields s (talkLevel l s) :=
  (((writes_talk _).mono (by decide)).trans ((writes_retime _).mono (by decide))).trans (writes_talkFinish _)

/-! ### The loop controller -/

theorem writes_reconcile (k : SegId) : Writes [.engine] s (reconcile k s) := by
  refine .ite (fun _ => ?_) fun _ => .refl s
  split
  · exact writes_engine _
  · exact .refl s

theorem writes_loopOnset : Writes (.loop :: roundFields) s (loopOnset s) := by
  have written : Writes [.loop] s { s.modSegs (fun r => { r with commanded := .active }) with loop.level := .incident } :=
    (writes_loop (s := s) _).trans (writes_loop _)
  refine (written.mono (by decide)).trans ?_
  refine Writes.trans (.forSegs (fun k _ => writes_recomputeLimit k) _) ?_
  exact .forSegs (fun k _ => (writes_reconcile k).mono (by decide)) _

/-! ### The selector and the playout engine -/

/-- What a recomputation of the owners writes. -/
def ownerFields : List Field := [.ports, .play, .brk]

theorem writes_modPchan (c : PChan) (f : PlayRec → PlayRec) : Writes [.play] s (s.modPchan c f) := writes_play _

theorem writes_goIdle (c : PChan) : Writes [.play] s (goIdle c s) := writes_modPchan ..

theorem writes_raisePlayout (c : PChan) (r : PlayRec) (a b : Byte) : Writes [.ports] s (raisePlayout c r a b s) := writes_raise ..

theorem writes_raiseStarted (c : PChan) : Writes [.ports] s (raiseStarted c s) := writes_raise ..

theorem writes_endChannel (c : PChan) (e : EndCause) : Writes [.ports, .play] s (endChannel c e s) :=
  ((writes_goIdle c).mono (by decide)).trans ((writes_raisePlayout ..).mono (by decide))

theorem writes_resumeRounds (n : Nat) : Writes [.play] s (resumeRounds n s) := by
  induction n generalizing s with
  | zero => exact .refl s
  | succ n ih =>
    have round : Writes [.play] s (PChan.every.foldl (resumeChannel (ownersNow s)) s) :=
      .foldl (fun t c => .ite (fun _ => .ite (fun _ => writes_modPchan ..) fun _ => writes_goIdle c) fun _ => .refl t) _ s
    exact .ite (fun _ => round.trans ih) fun _ => round

theorem writes_holdChannel (c : PChan) : Writes [.play] s (holdChannel s c) :=
  .ite (fun _ => .ite (fun _ => writes_goIdle c) fun _ => writes_modPchan ..) fun _ => .refl s

theorem writes_raiseHoldResume (before : State) (starting : Option PChan) (c : PChan) :
    Writes [.ports] s (raiseHoldResume before starting s c) := by
  refine .ite (fun _ => .refl s) fun _ => ?_
  split
  · exact writes_raisePlayout ..
  · exact writes_raisePlayout ..
  · exact writes_raisePlayout ..
  · exact writes_raisePlayout ..
  · exact .refl s

theorem writes_recomputeOwners (starting : Option PChan) : Writes ownerFields s (recomputeOwners starting s) := by
  unfold recomputeOwners
  dsimp only
  refine Writes.trans ?_ (.foldl (fun t c => (writes_raiseHoldResume s starting c).mono (by decide)) _ _)
  refine Writes.trans ?_ (.foldl (fun t k => .ite (fun _ => .refl t) fun _ => (writes_raise ..).mono (by decide)) _ _)
  refine Writes.trans ?_ (.foldl (fun t c => (writes_holdChannel c).mono (by decide)) _ _)
  exact ((writes_resumeRounds 5).mono (by decide)).trans ((writes_brk _).mono (by decide))

theorem writes_settle (before : State) : Writes ownerFields s (settle before s) :=
  .ite (fun _ => .refl s) fun _ => writes_recomputeOwners none

theorem writes_setProgram (c : PChan) (p : Program) : Writes [.store, .play] s (setProgram c p s) :=
  ((writes_modPchan ..).mono (by decide)).trans ((writes_store _).mono (by decide))

theorem writes_takeOverP1 (i : MsgId) : Writes [.ports, .store, .play] s (takeOverP1 i s) := by
  have ended : Writes [.ports, .store, .play] s (if (s.pchan .p1).state = .idle then s else endChannel .p1 .overridden s) :=
    .ite (fun _ => .refl s) fun _ => (writes_endChannel ..).mono (by decide)
  unfold takeOverP1
  dsimp only
  refine Writes.trans ?_ ((writes_modPchan ..).mono (by decide))
  refine Writes.trans ?_ ((writes_play _).mono (by decide))
  exact ended.trans ((writes_setProgram ..).mono (by decide))

theorem writes_releaseP1 : Writes [.ports, .play] s (releaseP1 s) := by
  have ended : Writes [.ports, .play] s (if (s.pchan .p1).state = .idle then s else endChannel .p1 .stopped s) :=
    .ite (fun _ => .refl s) fun _ => writes_endChannel ..
  exact .ite (fun _ => ended.trans (((writes_play _).mono (by decide)).trans ((writes_modPchan ..).mono (by decide)))) fun _ => .refl s

end

end Sys2Proof.Machine

/-! What a recomputation of the owners (R144) makes of each playout channel. -/

namespace Sys2Proof.Machine

section
variable {s : State}

/-- R124: a channel's record when the channel has gone IDLE. -/
def PlayRec.idled (c : PChan) (p1Held : Bool) (r : PlayRec) : PlayRec :=
  { r with state := .idle, cur := none, finish := false, owner := if c = .p1 && p1Held then .incident else .none }

theorem goIdle_pchan (c d : PChan) (s : State) :
    (goIdle c s).pchan d = if c = d then (s.pchan c).idled c s.play.p1Held else s.pchan d := modPchan_pchan ..

/-- R144 step 2: resuming touches no channel but a HELD one. -/
theorem resumeChannel_pchan (v : Vector Source 24) (c : PChan) {d : PChan} (h : (s.pchan d).state ≠ .held) :
    (resumeChannel v s c).pchan d = s.pchan d := by
  unfold resumeChannel
  dsimp only
  split
  · next resumes =>
    have other : c ≠ d := by rintro rfl; exact h resumes.1
    split
    · rw [modPchan_pchan, if_neg other]
    · rw [goIdle_pchan, if_neg other]
  · rfl

theorem foldl_resumeChannel_pchan (v : Vector Source 24) (l : List PChan) {d : PChan} (h : (s.pchan d).state ≠ .held) :
    (l.foldl (resumeChannel v) s).pchan d = s.pchan d := by
  induction l generalizing s with
  | nil => rfl
  | cons c l ih =>
    have same := resumeChannel_pchan v c h
    rw [List.foldl_cons, ih (by rw [same]; exact h), same]

theorem resumeRounds_pchan (n : Nat) {d : PChan} (h : (s.pchan d).state ≠ .held) : (resumeRounds n s).pchan d = s.pchan d := by
  induction n generalizing s with
  | zero => rfl
  | succ n ih =>
    have same := foldl_resumeChannel_pchan (ownersNow s) PChan.every h
    unfold resumeRounds
    dsimp only
    split
    · rw [ih (by rw [same]; exact h), same]
    · exact same

/-- R144 step 4: a channel's record after the channels that own nothing have been held. -/
def PlayRec.afterHold (owners : Vector Source 24) (p1Held : Bool) (c : PChan) (r : PlayRec) : PlayRec :=
  if (playZone r).isSome ∧ r.state = .playing ∧ ownedBy owners (sourceOf c) = 0 then
    if r.finish then r.idled c p1Held
    else { r with state := .held, cur := r.cur.map fun q => startCursor q.index }
  else r

theorem holdChannel_pchan (c d : PChan) (s : State) : (holdChannel s c).pchan d =
    if c = d then (s.pchan c).afterHold s.brk.owners s.play.p1Held c else s.pchan d := by
  unfold holdChannel PlayRec.afterHold
  dsimp only
  split
  · split
    · exact goIdle_pchan ..
    · exact modPchan_pchan ..
  · split
    · next same => rw [same]
    · rfl

theorem holdChannel_owners (c : PChan) (s : State) : (holdChannel s c).brk = s.brk := (writes_holdChannel c).brk

theorem holdChannel_p1Held (c : PChan) (s : State) : (holdChannel s c).play.p1Held = s.play.p1Held := by
  unfold holdChannel
  dsimp only
  split
  · split <;> rfl
  · rfl

theorem holdChannels_pchan (c : PChan) (s : State) : (PChan.every.foldl holdChannel s).pchan c =
    (s.pchan c).afterHold s.brk.owners s.play.p1Held c := by
  simp only [PChan.every, List.foldl_cons, List.foldl_nil, holdChannel_pchan, holdChannel_owners, holdChannel_p1Held]
  cases c <;> simp only [reduceCtorEq, if_true, if_false]

theorem resumeRounds_p1Held (n : Nat) (s : State) : (resumeRounds n s).play.p1Held = s.play.p1Held :=
  (resumeRounds_undisturbed n s).held

/-- The events at the end of a recomputation write the ports alone. -/
theorem recomputeOwners_state (starting : Option PChan) (s : State) :
    Writes [.ports] (PChan.every.foldl holdChannel
      { resumeRounds 5 s with brk.owners := ownersNow (resumeRounds 5 s) }) (recomputeOwners starting s) := by
  unfold recomputeOwners
  dsimp only
  refine Writes.trans ?_ (.foldl (fun t c => writes_raiseHoldResume s starting c) _ _)
  exact .foldl (fun t k => .ite (fun _ => .refl t) fun _ => writes_raise ..) _ _

theorem foldl_holdChannel_brk (l : List PChan) (s : State) : (l.foldl holdChannel s).brk = s.brk := by
  have writes : Writes [.play] s (l.foldl holdChannel s) := .foldl (fun t c => writes_holdChannel c) l s
  exact writes.brk

theorem foldl_holdChannel_owners (u : State) (v : Vector Source 24) :
    (PChan.every.foldl holdChannel { u with brk.owners := v }).brk.owners = v :=
  (congrArg BreakRec.owners (foldl_holdChannel_brk ..) :)

theorem foldl_holdChannel_pchan (u : State) (v : Vector Source 24) (c : PChan) :
    (PChan.every.foldl holdChannel { u with brk.owners := v }).pchan c = (u.pchan c).afterHold v u.play.p1Held c :=
  holdChannels_pchan ..

/-- R144: the owners stored are those after the channels have resumed. -/
theorem recomputeOwners_owners (starting : Option PChan) (s : State) :
    (recomputeOwners starting s).brk.owners = ownersNow (resumeRounds 5 s) :=
  (congrArg BreakRec.owners (recomputeOwners_state starting s).brk :).trans (foldl_holdChannel_owners _ _)

theorem recomputeOwners_pchan (starting : Option PChan) (s : State) {c : PChan} (h : (s.pchan c).state ≠ .held) :
    (recomputeOwners starting s).pchan c =
      (s.pchan c).afterHold (recomputeOwners starting s).brk.owners s.play.p1Held c := by
  have play : (recomputeOwners starting s).pchan c = _ :=
    (congrArg (fun r : PlayTable => r.chans.pget c) (recomputeOwners_state starting s).play :).trans
      (foldl_holdChannel_pchan (resumeRounds 5 s) (ownersNow (resumeRounds 5 s)) c)
  rw [play, recomputeOwners_owners, resumeRounds_pchan 5 h, resumeRounds_p1Held]

theorem afterHold_of_not_playing (v : Vector Source 24) (b : Bool) (c : PChan) {r : PlayRec} (h : r.state ≠ .playing) :
    r.afterHold v b c = r := if_neg fun g => h g.2.1

/-- A channel that is neither PLAYING nor HELD is untouched. -/
theorem recomputeOwners_pchan_still (starting : Option PChan) (s : State) {c : PChan} (h : (s.pchan c).state ≠ .held)
    (h' : (s.pchan c).state ≠ .playing) : (recomputeOwners starting s).pchan c = s.pchan c := by
  rw [recomputeOwners_pchan starting s h, afterHold_of_not_playing _ _ _ h']

theorem settle_pchan_still (before s : State) {c : PChan} (h : (s.pchan c).state ≠ .held) (h' : (s.pchan c).state ≠ .playing) :
    (settle before s).pchan c = s.pchan c := by
  unfold settle
  split
  · rfl
  · exact recomputeOwners_pchan_still none s h h'

end

end Sys2Proof.Machine

/-! Onset and return to NORMAL (R151): what each block takes of the new level, and the takeover and release of P1. -/

namespace Sys2Proof.Machine

section
variable {s t : State}

/-! ### The level in the other blocks -/

theorem limitsRight_congr (hl : t.loop = s.loop) (he : t.engine = s.engine) (h : LimitsRight s) : LimitsRight t := by
  unfold LimitsRight State.seg State.unit at *
  rw [hl, he]
  exact h

theorem allocLevel_level (l : Level) (s : State) : (allocLevel l s).alloc.level = l := by
  unfold allocLevel
  rw [(Undisturbed.forSegs runRound runRound_undisturbed _).level]

theorem commanded_of_settings {r q : SegRec} (h : r.settings = q.settings) : r.commanded = q.commanded :=
  (congrArg SegRec.commanded h :)

theorem forSegs_reconcile_writes (s : State) : Writes [.engine] s (forSegs reconcile s) :=
  .forSegs (fun k _ => writes_reconcile k) s

/-- R19: what the loop controller's onset writes itself. -/
def activeCommanded (s : State) : State := { s.modSegs (fun r => { r with commanded := .active }) with loop.level := .incident }

theorem activeCommanded_seg (s : State) (k : SegId) : (activeCommanded s).seg k = { s.seg k with commanded := .active } := by
  simp only [activeCommanded, State.modSegs, State.seg, vall, Fin.getElem_fin, Vector.getElem_ofFn]

theorem loopOnset_eq (s : State) : loopOnset s = forSegs reconcile (forSegs recomputeLimit (activeCommanded s)) := by
  simp only [loopOnset, activeCommanded]

/-- R19: what the loop controller's onset makes of its own record, and the allocator's level. -/
theorem loopOnset_made (s : State) :
    (loopOnset s).loop.level = .incident ∧ (∀ k, ((loopOnset s).seg k).commanded = .active) ∧
      (loopOnset s).alloc.level = s.alloc.level ∧ LimitsRight (loopOnset s) := by
  have rounds := Undisturbed.forSegs recomputeLimit recomputeLimit_undisturbed (activeCommanded s)
  have limits := recomputeLimits_right (activeCommanded s)
  rw [loopOnset_eq]
  revert rounds limits
  generalize forSegs recomputeLimit (activeCommanded s) = u
  intro rounds limits
  have writes := forSegs_reconcile_writes u
  have kept : Kept .limits u (forSegs reconcile u) := Kept.forSegs (fun k _ => kept_reconcile k) u
  refine ⟨?_, fun k => ?_, ?_, kept limits⟩
  · rw [writes.loop]
    exact (congrArg LoopRec.level rounds.loop :)
  · rw [State.seg, writes.loop]
    exact (commanded_of_settings (rounds.seg k)).trans (by rw [activeCommanded_seg])
  · rw [writes.alloc, rounds.level]
    rfl

theorem retime_level (old : Option Nat) (s : State) : (retime old s).talk.level = s.talk.level := by
  have expire (c : Chan) (t : State) : (expireTot c t).talk.level = t.talk.level := by rw [expireTot_eq]; rfl
  have expireIf (c : Chan) (t : State) : (if totDue t c then expireTot c t else t).talk.level = t.talk.level := by
    split
    · exact expire c t
    · rfl
  unfold retime
  split
  · rfl
  · exact (expireIf .t2 _).trans (expireIf .t1 s)

theorem talkLevel_loop (l : Level) (s : State) : (talkLevel l s).loop = s.loop := (writes_talkLevel l).loop

theorem talkLevel_level (l : Level) (s : State) : (talkLevel l s).talk.level = l ∧ (talkLevel l s).alloc.level = s.alloc.level := by
  have finish := talkFinish_undisturbed s (retime (limitInForce s.talk) { s with talk.level := l })
  have talk : (talkLevel l s).talk.level = _ := (congrArg TalkTable.level finish.talk :)
  refine ⟨talk.trans (retime_level ..), finish.level.trans ?_⟩
  have timed := writes_retime (s := { s with talk.level := l }) (limitInForce s.talk)
  rw [timed.alloc]

/-- The blocks that take the new level before the playout engine. -/
structure LevelTaken (l : Level) (t : State) : Prop where
  alloc : t.alloc.level = l
  loop : t.loop.level = l
  talk : t.talk.level = l

theorem LevelTaken.writes {l : Level} (h : LevelTaken l s) (hw : Writes [.ports, .store, .play, .brk] s t) : LevelTaken l t :=
  ⟨by rw [hw.alloc]; exact h.alloc, by rw [hw.loop]; exact h.loop, by rw [hw.talk]; exact h.talk⟩

/-- The state of an onset before the playout engine's part in it. -/
def onsetLevels (s : State) : State := talkLevel .incident (loopOnset (allocLevel .incident s))

/-- The state of a return before the playout engine's part in it. -/
def returnLevels (s : State) : State := talkLevel .normal (loopReturn (allocLevel .normal s))

theorem levelTaken_onset (s : State) : LevelTaken .incident (onsetLevels s) := by
  unfold onsetLevels
  obtain ⟨level, _, alloc, _⟩ := loopOnset_made (allocLevel .incident s)
  obtain ⟨talk, same⟩ := talkLevel_level .incident (loopOnset (allocLevel .incident s))
  refine ⟨?_, ?_, talk⟩
  · rw [same, alloc, allocLevel_level]
  · rw [talkLevel_loop, level]

theorem commanded_onset (s : State) : (∀ k, ((onsetLevels s).seg k).commanded = .active) ∧ LimitsRight (onsetLevels s) := by
  unfold onsetLevels
  obtain ⟨_, commanded, _, right⟩ := loopOnset_made (allocLevel .incident s)
  refine ⟨fun k => ?_, kept_setTalkLevel (x := .limits) _ right⟩
  rw [State.seg, talkLevel_loop]
  exact commanded k

theorem loopReturn_level (s : State) : (loopReturn s).loop.level = .normal := rfl

theorem loopReturn_alloc (s : State) : (loopReturn s).alloc = s.alloc := rfl

theorem writes_loopReturn : Writes [.loop] s (loopReturn s) := writes_loop _

theorem loopReturn_segs (s : State) : (loopReturn s).loop.segs = s.loop.segs := rfl

theorem levelTaken_return (s : State) : LevelTaken .normal (returnLevels s) := by
  unfold returnLevels
  obtain ⟨talk, same⟩ := talkLevel_level .normal (loopReturn (allocLevel .normal s))
  refine ⟨?_, ?_, talk⟩
  · rw [same, loopReturn_alloc, allocLevel_level]
  · rw [talkLevel_loop, loopReturn_level]

/-! ### P1 (R130, R131) -/

theorem adjustUses_pchan (old new : Option Program) (s : State) (d : PChan) : (adjustUses old new s).pchan d = s.pchan d := by
  simp only [State.pchan, adjustUses]

theorem setProgram_pchan (c d : PChan) (new : Program) (s : State) : (setProgram c new s).pchan d =
    if c = d then { s.pchan c with program := some new } else s.pchan d := by
  unfold setProgram
  rw [adjustUses_pchan, modPchan_pchan]

theorem setProgram_content (c : PChan) (new : Program) (s : State) (i : MsgId) :
    ((setProgram c new s).msg i).content = (s.msg i).content := by
  unfold setProgram
  rw [adjustUses_msg]
  rfl

/-- R123: a channel's record at the beginning of a run. -/
def PlayRec.begun (kind : PlayKind) (owner : PlayOwner) (r : PlayRec) : PlayRec :=
  { r with
    state := (match kind with | .play => .playing | .check => .checking),
    owner := owner, finish := false, cur := some (startCursor 0) }

theorem beginRun_pchan (c d : PChan) (kind : PlayKind) (owner : PlayOwner) (s : State) : (beginRun c kind owner s).pchan d =
    if c = d then (s.pchan c).begun kind owner else s.pchan d := modPchan_pchan ..

/-- R130: P1 after the takeover, before the recomputation of owners. -/
theorem takeOverP1_p1 (i : MsgId) (s : State) : (takeOverP1 i s).play.p1Held = true ∧
    (takeOverP1 i s).pchan .p1 = ⟨.playing, some (incidentProgram i), .incident, some (startCursor 0), false⟩ := by
  refine ⟨rfl, ?_⟩
  unfold takeOverP1
  dsimp only
  generalize (if (s.pchan .p1).state = .idle then s else endChannel .p1 .overridden s) = u
  rw [beginRun_pchan, if_pos rfl]
  have program : (setProgram .p1 (incidentProgram i) u).pchan .p1 = { u.pchan .p1 with program := some (incidentProgram i) } := by
    rw [setProgram_pchan, if_pos rfl]
  have held (b : Bool) (v : State) : ({ v with play.p1Held := b } : State).pchan .p1 = v.pchan .p1 := rfl
  rw [held, program]
  rfl

theorem takeOverP1_content (i j : MsgId) (s : State) : ((takeOverP1 i s).msg j).content = (s.msg j).content := by
  unfold takeOverP1
  dsimp only
  have ended : ((if (s.pchan .p1).state = .idle then s else endChannel .p1 .overridden s)).store = s.store := by
    split
    · rfl
    · exact (writes_endChannel .p1 .overridden).store
  revert ended
  generalize (if (s.pchan .p1).state = .idle then s else endChannel .p1 .overridden s) = u
  intro ended
  have begun (v : State) : ((beginRun .p1 .play .incident { v with play.p1Held := true }).msg j) = v.msg j := rfl
  rw [begun, setProgram_content, State.msg, ended]
  rfl

theorem afterHold_owner (v : Vector Source 24) (b : Bool) (c : PChan) {r : PlayRec} (hs : r.state = .playing) (hf : r.finish = false) :
    (r.afterHold v b c).owner = r.owner ∧ (r.afterHold v b c).program = r.program ∧
      ((r.afterHold v b c).state = .playing ∨ (r.afterHold v b c).state = .held) := by
  unfold PlayRec.afterHold
  rw [hf]
  split
  · exact ⟨rfl, rfl, .inr rfl⟩
  · exact ⟨rfl, rfl, .inl hs⟩

end

end Sys2Proof.Machine

/-! What an onset and a return make of the part (R151, R130, R131). -/

namespace Sys2Proof.Machine

section
variable {s t u : State}

/-- The fields an onset may write. -/
def onsetFields : List Field := [.ports, .loop, .alloc, .talk, .engine, .store, .play, .brk]

theorem writes_onsetLevels : Writes (.loop :: roundFields) s (onsetLevels s) := by
  unfold onsetLevels
  exact (((writes_allocLevel _).mono (by decide)).trans writes_loopOnset).trans ((writes_talkLevel _).mono (by decide))

theorem incidentMessage_congr (hi : t.inc = s.inc) (hs : t.store = s.store) : incidentMessage t = incidentMessage s := by
  unfold incidentMessage State.msg
  rw [hi, hs]

theorem incidentMessage_eq_some {i : MsgId} : incidentMessage s = some i ↔ s.inc.message = some i ∧ (s.msg i).content.ready = true := by
  unfold incidentMessage
  cases s.inc.message with
  | none => exact ⟨nofun, fun h => nomatch h.1⟩
  | some j =>
    dsimp only
    split
    · next ready => exact ⟨fun h => by cases h; exact ⟨rfl, ready⟩, fun h => h.1⟩
    · next out => exact ⟨nofun, fun h => by cases h.1; exact absurd h.2 out⟩

theorem onset_some {i : MsgId} (before : State) (h : incidentMessage s = some i) :
    onset before s = raiseStarted .p1 (recomputeOwners (some .p1) (takeOverP1 i (onsetLevels s))) := by
  have levels : incidentMessage (onsetLevels s) = some i :=
    (incidentMessage_congr writes_onsetLevels.inc writes_onsetLevels.store).trans h
  have playout : playoutOnset (onsetLevels s) = takeOverP1 i (onsetLevels s) := by
    unfold playoutOnset
    rw [levels]
  rw [← playout]
  unfold onset onsetLevels
  rw [h]

theorem onset_none (before : State) (h : incidentMessage s = none) :
    onset before s = settle before (raiseMessageMissing (onsetLevels s)) := by
  have levels : incidentMessage (onsetLevels s) = none :=
    (incidentMessage_congr writes_onsetLevels.inc writes_onsetLevels.store).trans h
  have playout : playoutOnset (onsetLevels s) = raiseMessageMissing (onsetLevels s) := by
    unfold playoutOnset
    rw [levels]
  rw [← playout]
  unfold onset onsetLevels
  rw [h]

theorem writes_raiseMessageMissing : Writes [.ports] s (raiseMessageMissing s) := by
  unfold raiseMessageMissing
  split <;> exact writes_raise ..

theorem writes_onset (before s : State) : Writes [.ports, .store, .play, .brk] (onsetLevels s) (onset before s) := by
  cases h : incidentMessage s with
  | some i =>
    rw [onset_some before h]
    exact (((writes_takeOverP1 i).mono (by decide)).trans ((writes_recomputeOwners _).mono (by decide))).trans
      ((writes_raiseStarted _).mono (by decide))
  | none =>
    rw [onset_none before h]
    exact (writes_raiseMessageMissing.mono (by decide)).trans ((writes_settle _).mono (by decide))

theorem raiseStarted_play (c : PChan) (s : State) : (raiseStarted c s).play = s.play := (writes_raiseStarted c).play

theorem raiseStarted_pchan (c d : PChan) (s : State) : (raiseStarted c s).pchan d = s.pchan d := by
  rw [State.pchan, raiseStarted_play]
  rfl

/-- What an onset makes of P1 and the store with incident message `i`. -/
def P1Taken (i : MsgId) (s t : State) : Prop :=
  t.play.p1Held = true ∧ (t.pchan .p1).owner = .incident ∧ (t.pchan .p1).program = some (incidentProgram i) ∧
    ((t.pchan .p1).state = .playing ∨ (t.pchan .p1).state = .held) ∧ ∀ j, (t.msg j).content = (s.msg j).content

theorem onset_takes {i : MsgId} (before : State) (h : incidentMessage s = some i) : P1Taken i s (onset before s) := by
  have content (j : MsgId) : ((takeOverP1 i (onsetLevels s)).msg j).content = (s.msg j).content := by
    rw [takeOverP1_content, State.msg, writes_onsetLevels.store]
    rfl
  obtain ⟨held, p1⟩ := takeOverP1_p1 i (onsetLevels s)
  rw [onset_some before h]
  revert content held p1
  generalize takeOverP1 i (onsetLevels s) = u
  intro content held p1
  have pchan := recomputeOwners_pchan (some .p1) u (c := .p1) (by rw [p1]; nofun)
  obtain ⟨owner, program, state⟩ := afterHold_owner (recomputeOwners (some .p1) u).brk.owners u.play.p1Held .p1
    (r := u.pchan .p1) (by rw [p1]) (by rw [p1])
  have same := (writes_recomputeOwners (s := u) (some .p1)).store
  refine ⟨?_, ?_, ?_, ?_, fun j => ?_⟩
  · rw [raiseStarted_play, (recomputeOwners_undisturbed _ _).held, held]
  · rw [raiseStarted_pchan, pchan, owner, p1]
  · rw [raiseStarted_pchan, pchan, program, p1]
  · rw [raiseStarted_pchan, pchan]
    exact state
  · rw [← content j, State.msg, (writes_raiseStarted _).store, same]
    rfl

theorem onset_missing (before : State) (h : incidentMessage s = none) :
    (onset before s).play.p1Held = s.play.p1Held ∧ ((onset before s).pchan .p1).program = (s.pchan .p1).program ∧
      (onset before s).store = s.store := by
  have writes : Writes (.loop :: roundFields) s (raiseMessageMissing (onsetLevels s)) :=
    writes_onsetLevels.trans (writes_raiseMessageMissing.mono (by decide))
  rw [onset_none before h]
  revert writes
  generalize raiseMessageMissing (onsetLevels s) = u
  intro writes
  have settled := settle_undisturbed before u
  refine ⟨?_, ?_, ?_⟩
  · rw [settled.held, writes.play]
  · rw [settled.program, State.pchan, writes.play]
    rfl
  · rw [settled.store, writes.store]

/-- What an onset makes of the part, the playout engine aside. -/
structure OnsetMade (s t : State) : Prop where
  level : LevelTaken .incident t
  commanded : ∀ k, (t.seg k).commanded = .active
  limits : LimitsRight t
  writes : Writes onsetFields s t

theorem onset_made (before s : State) : OnsetMade s (onset before s) := by
  have writes := writes_onset before s
  obtain ⟨commanded, limits⟩ := commanded_onset s
  refine ⟨(levelTaken_onset s).writes writes, fun k => ?_, limitsRight_congr writes.loop writes.engine limits,
    (writes_onsetLevels.mono (by decide)).trans (writes.mono (by decide))⟩
  rw [State.seg, writes.loop]
  exact commanded k

/-! ### The return to NORMAL -/

theorem returnToNormal_eq (before s : State) : returnToNormal before s = settle before (releaseP1 (returnLevels s)) := by
  simp only [returnToNormal, returnLevels]

theorem writes_returnLevels : Writes (.loop :: roundFields) s (returnLevels s) := by
  unfold returnLevels
  exact (((writes_allocLevel _).mono (by decide)).trans (writes_loopReturn.mono (by decide))).trans
    ((writes_talkLevel _).mono (by decide))

theorem returnLevels_commanded (s : State) (k : SegId) : ((returnLevels s).seg k).commanded = (s.seg k).commanded := by
  unfold returnLevels
  rw [State.seg, talkLevel_loop, loopReturn_segs, (writes_allocLevel .normal).loop]
  rfl

/-- R131: P1 once it has been released. -/
theorem releaseP1_p1 (h : s.play.p1Held = true) : ((releaseP1 s).pchan .p1).state = .idle ∧
    ((releaseP1 s).pchan .p1).owner = .none ∧ (releaseP1 s).play.p1Held = false := by
  unfold releaseP1
  rw [if_pos h]
  dsimp only
  have idle : ((if (s.pchan .p1).state = .idle then s else endChannel .p1 .stopped s).pchan .p1).state = .idle := by
    split
    · next idle => exact idle
    · have raised (r : PlayRec) (x y : Byte) (v : State) : (raisePlayout .p1 r x y v).pchan .p1 = v.pchan .p1 := by
        rw [State.pchan, (writes_raisePlayout .p1 _ _ _).play]
        rfl
      rw [endChannel, raised, goIdle_pchan, if_pos rfl]
      rfl
  revert idle
  generalize (if (s.pchan .p1).state = .idle then s else endChannel .p1 .stopped s) = u
  intro idle
  rw [modPchan_pchan, if_pos rfl]
  exact ⟨idle, rfl, rfl⟩

theorem releaseP1_unheld (h : s.play.p1Held = false) : releaseP1 s = s := if_neg (by rw [h]; exact Bool.false_ne_true)

theorem releaseP1_program (s : State) : ((releaseP1 s).pchan .p1).program = (s.pchan .p1).program := by
  unfold releaseP1
  split
  · dsimp only
    rw [modPchan_pchan, if_pos rfl]
    refine Eq.trans (b := ((if (s.pchan .p1).state = .idle then s else endChannel .p1 .stopped s).pchan .p1).program) rfl ?_
    split
    · rfl
    · exact (endChannel_undisturbed .p1 .stopped s).program .p1
  · rfl

theorem releaseP1_held (s : State) : (releaseP1 s).play.p1Held = false := by
  cases h : s.play.p1Held with
  | true => exact (releaseP1_p1 h).2.2
  | false => rw [releaseP1_unheld h, h]

structure ReturnMade (s t : State) : Prop where
  level : LevelTaken .normal t
  commanded : ∀ k, (t.seg k).commanded = (s.seg k).commanded
  writes : Writes [.ports, .loop, .alloc, .talk, .engine, .play, .brk] s t
  held : t.play.p1Held = false
  p1 : s.play.p1Held = true → (t.pchan .p1).state = .idle ∧ (t.pchan .p1).owner = .none ∧
    (t.pchan .p1).program = (s.pchan .p1).program

theorem returnToNormal_made (before s : State) : ReturnMade s (returnToNormal before s) := by
  have play : (returnLevels s).play = s.play := writes_returnLevels.play
  have writes : Writes [.ports, .play, .brk] (returnLevels s) (returnToNormal before s) := by
    rw [returnToNormal_eq]
    exact (writes_releaseP1.mono (by decide)).trans ((writes_settle _).mono (by decide))
  refine ⟨(levelTaken_return s).writes (writes.mono (by decide)), fun k => ?_,
    (writes_returnLevels.mono (by decide)).trans (writes.mono (by decide)), ?_, fun held => ?_⟩
  · rw [State.seg, writes.loop]
    exact returnLevels_commanded s k
  · rw [returnToNormal_eq, (settle_undisturbed _ _).held, releaseP1_held]
  · obtain ⟨idle, owner, _⟩ := releaseP1_p1 (s := returnLevels s) (by rw [play, held])
    have still := settle_pchan_still before (releaseP1 (returnLevels s)) (c := .p1) (by rw [idle]; decide) (by rw [idle]; decide)
    rw [returnToNormal_eq, still]
    refine ⟨idle, owner, (releaseP1_program _).trans ?_⟩
    rw [State.pchan, play]
    rfl

end

end Sys2Proof.Machine

/-! R151: a claim that changes the level, as a DECLARE or a CLEAR makes it. -/

namespace Sys2Proof.Machine

section
variable {s : State}

theorem raiseIncident_inc (y : Claim) (cause : ClaimCause) (s : State) : (raiseIncident y cause s).inc = s.inc :=
  (writes_raise (s := s) ..).inc

theorem writes_claimed (y : Claim) (cause : ClaimCause) (r : IncRec) :
    Writes [.inc, .ports] s (raiseIncident y cause { s with inc := r }) :=
  ((writes_inc r).mono (by decide)).trans ((writes_raise ..).mono (by decide))

/-- The first claim: an onset, from a state that differs in the incident record and its event. -/
theorem changeClaim_first {y : Claim} (cause : ClaimCause) (hc : s.inc.claims = ⟨false, false, false⟩) (hl : s.inc.level = .normal) :
    ∃ u, changeClaim y true cause s = onset s u ∧ Writes [.inc, .ports] s u ∧ u.inc.level = .incident ∧
      u.inc.message = s.inc.message := by
  refine ⟨raiseIncident y cause { s with inc := { s.inc with claims := s.inc.claims.set y true, level := .incident } }, ?_,
    writes_claimed .., by rw [raiseIncident_inc], by rw [raiseIncident_inc]⟩
  have absent : s.inc.claims.get y ≠ true := by rw [hc]; cases y <;> exact Bool.false_ne_true
  have level : levelOf (s.inc.claims.set y true) = .incident := by rw [hc]; cases y <;> rfl
  unfold changeClaim
  rw [if_neg absent]
  simp only [level, hl]

/-- The last claim: a return to NORMAL. -/
theorem changeClaim_last {y : Claim} (cause : ClaimCause) (hc : s.inc.claims = (⟨false, false, false⟩ : Claims).set y true)
    (hl : s.inc.level = .incident) :
    ∃ u, changeClaim y false cause s = returnToNormal s u ∧ Writes [.inc, .ports] s u ∧ u.inc.level = .normal := by
  refine ⟨raiseIncident y cause { s with inc := { s.inc with claims := s.inc.claims.set y false, level := .normal } }, ?_,
    writes_claimed .., by rw [raiseIncident_inc]⟩
  have present : s.inc.claims.get y ≠ false := by rw [hc]; cases y <;> exact Bool.noConfusion
  have level : levelOf (s.inc.claims.set y false) = .normal := by rw [hc]; cases y <;> rfl
  unfold changeClaim
  rw [if_neg present]
  simp only [level, hl]

theorem declareIncident_first (p : Port) (hc : s.inc.claims = ⟨false, false, false⟩) (hl : s.inc.level = .normal) :
    ∃ u, declareIncident p s = (onset s u, ⟨.ok, incidentAnswer (onset s u)⟩) ∧ Writes [.inc, .ports] s u ∧
      u.inc.level = .incident ∧ u.inc.message = s.inc.message := by
  have first (y : Claim) (cause : ClaimCause) := changeClaim_first (y := y) cause hc hl
  unfold declareIncident
  cases p with
  | e =>
    obtain ⟨u, run, facts⟩ := first .rescue .declareE
    exact ⟨u, by rw [← run], facts⟩
  | o =>
    obtain ⟨u, run, facts⟩ := first .ops .declareO
    exact ⟨u, by rw [← run], facts⟩
  | c =>
    obtain ⟨u, run, facts⟩ := first .ops .declareO
    exact ⟨u, by rw [← run], facts⟩

end

theorem onset_declared (p : Port) (s : State) (hr : Ready (.declareIncident p) s) (hc : s.inc.claims = ⟨false, false, false⟩)
    (hl : s.inc.level = .normal) :
    ∃ t, exec (.declareIncident p) s = .next t ∧ t.inc.level = .incident ∧ t.alloc.level = .incident ∧
      t.loop.level = .incident ∧ t.talk.level = .incident ∧ (∀ k, (t.seg k).commanded = .active) ∧ LimitsRight t ∧
      t.sys = s.sys ∧ t.meter = s.meter ∧ t.plant = s.plant ∧
      (∀ i, s.inc.message = some i → (s.msg i).content.ready = true →
        t.play.p1Held = true ∧ (t.pchan .p1).owner = .incident ∧
        (t.pchan .p1).program = some ⟨.play, true, [i], BitVec.allOnes 24⟩ ∧
        ((t.pchan .p1).state = .playing ∨ (t.pchan .p1).state = .held) ∧
        ∀ j, (t.msg j).content = (s.msg j).content) ∧
      ((∀ i, s.inc.message = some i → (s.msg i).content.ready = false) →
        t.play.p1Held = s.play.p1Held ∧ (t.pchan .p1).program = (s.pchan .p1).program ∧ t.store = s.store) := by
  have frame : Writes [.ports] s (s.modPort p fun q => q.shift (commandFrame 0x38 [])) := writes_modPort ..
  obtain ⟨u, run, claimed, level, message⟩ := declareIncident_first (s := s.modPort p fun q => q.shift (commandFrame 0x38 [])) p hc hl
  have done := exec_of_body rfl rfl hr run
  revert claimed message done
  generalize s.modPort p _ = v at frame
  intro claimed message done
  have same : Writes [.inc, .ports] s u := (frame.mono (by decide)).trans claimed
  have made := onset_made v u
  have all : Writes (.inc :: onsetFields) s (onset v u) := (same.mono (by decide)).trans (made.writes.mono (by decide))
  have onsetLevel : (onset v u).inc.level = .incident := by rw [made.writes.inc, level]
  have takes (i : MsgId) (h : incidentMessage u = some i) := onset_takes v h
  have missing (h : incidentMessage u = none) := onset_missing v h
  have spoken (i : MsgId) : incidentMessage u = some i ↔ s.inc.message = some i ∧ (s.msg i).content.ready = true := by
    rw [incidentMessage_eq_some, message, frame.inc, State.msg, same.store]
    rfl
  refine ⟨_, done, ?_⟩
  have store : u.store = s.store := same.store
  have play : u.play = s.play := same.play
  revert made all onsetLevel takes missing
  generalize onset v u = t
  intro made all onsetLevel takes missing
  have answered := writes_hold (s := t) p 0x38 ⟨.ok, incidentAnswer t⟩
  generalize t.hold p 0x38 ⟨.ok, incidentAnswer t⟩ = w at answered
  have levels := made.level.writes (answered.mono (by decide))
  have total := all.trans (answered.mono (by decide))
  refine ⟨by rw [answered.inc, onsetLevel], levels.alloc, levels.loop, levels.talk, fun k => ?_,
    limitsRight_congr answered.loop answered.engine made.limits, total.sys, total.meter, total.plant, fun i named ready => ?_,
    fun none => ?_⟩
  · rw [State.seg, answered.loop]
    exact made.commanded k
  · obtain ⟨held, owner, program, state, content⟩ := takes i ((spoken i).mpr ⟨named, ready⟩)
    rw [State.pchan, answered.play]
    refine ⟨held, owner, program, state, fun j => ?_⟩
    rw [State.msg, answered.store]
    refine (content j).trans ?_
    rw [State.msg, store]
    rfl
  · have quiet : incidentMessage u = Option.none := by
      cases h : incidentMessage u with
      | none => rfl
      | some i =>
        obtain ⟨named, ready⟩ := (spoken i).mp h
        rw [none i named] at ready
        exact absurd ready Bool.false_ne_true
    obtain ⟨held, program, same⟩ := missing quiet
    rw [answered.play, answered.store, State.pchan, answered.play, held, same, store, play]
    refine ⟨rfl, program.trans ?_, rfl⟩
    rw [State.pchan, play]
    rfl

theorem return_cleared (p : Port) (y : Claim) (s : State) (hr : Ready (.clearIncident p (claimCode y)) s)
    (hp : mayClear p y = true) (hf : y = .line → s.inc.filtered ≠ .asserted) (hl : s.inc.level = .incident)
    (hc : s.inc.claims = (⟨false, false, false⟩ : Claims).set y true) :
    ∃ t, exec (.clearIncident p (claimCode y)) s = .next t ∧ t.inc.level = .normal ∧ t.alloc.level = .normal ∧
      t.loop.level = .normal ∧ t.talk.level = .normal ∧ (∀ k, (t.seg k).commanded = (s.seg k).commanded) ∧
      t.sys = s.sys ∧ t.meter = s.meter ∧ t.plant = s.plant ∧ t.store = s.store ∧ t.play.p1Held = false ∧
      (s.play.p1Held = true → (t.pchan .p1).state = .idle ∧ (t.pchan .p1).owner = .none ∧
        (t.pchan .p1).program = (s.pchan .p1).program) := by
  have frame : Writes [.ports] s (s.modPort p fun q => q.shift (commandFrame 0x39 [claimCode y])) := writes_modPort ..
  have run := clearIncident_cleared (s := s.modPort p fun q => q.shift (commandFrame 0x39 [claimCode y])) hp (fun g => hf g.1 g.2)
  have done := exec_of_body rfl rfl hr run
  obtain ⟨u, changed, claimed, level⟩ := changeClaim_last
    (s := s.modPort p fun q => q.shift (commandFrame 0x39 [claimCode y])) (clearCause p) hc hl
  rw [changed] at done
  clear changed run
  generalize s.modPort p _ = v at frame claimed done
  have same : Writes [.inc, .ports] s u := (frame.mono (by decide)).trans claimed
  have made := returnToNormal_made v u
  refine ⟨_, done, ?_⟩
  revert made
  generalize returnToNormal v u = t
  intro made
  have answered := writes_hold (s := t) p 0x39 ⟨.ok, incidentAnswer t⟩
  generalize t.hold p 0x39 ⟨.ok, incidentAnswer t⟩ = w at answered
  have levels := made.level.writes (answered.mono (by decide))
  have total : Writes [.inc, .ports, .loop, .alloc, .talk, .engine, .play, .brk] s w :=
    ((same.mono (by decide)).trans (made.writes.mono (by decide))).trans (answered.mono (by decide))
  refine ⟨by rw [answered.inc, made.writes.inc, level], levels.alloc, levels.loop, levels.talk, fun k => ?_, total.sys, total.meter,
    total.plant, total.store, by rw [answered.play, made.held], fun held => ?_⟩
  · rw [State.seg, answered.loop]
    refine (made.commanded k).trans ?_
    rw [State.seg, same.loop]
    rfl
  · obtain ⟨idle, owner, program⟩ := made.p1 (by rw [same.play, held])
    rw [State.pchan, answered.play]
    refine ⟨idle, owner, program.trans ?_⟩
    rw [State.pchan, same.play]
    rfl

/-- Settles O25. -/
theorem onsetAndReturn : Obligations.OnsetAndReturn :=
  ⟨onset_declared, fun p _ y s hr hy hp hf hl hc => by subst hy; exact return_cleared p y s hr hp hf hl hc⟩

end Sys2Proof.Machine

/-! START PLAYOUT and STOP PLAYOUT (R123, R124). -/

namespace Sys2Proof.Machine

section
variable {s : State} {p : Port} {chan : Byte} {c : PChan}

theorem raisePlayout_pchan (c d : PChan) (r : PlayRec) (x y : Byte) (s : State) : (raisePlayout c r x y s).pchan d = s.pchan d := by
  rw [State.pchan, (writes_raisePlayout c r x y).play]
  rfl

/-- R124: a channel that ends. -/
theorem endChannel_pchan (c d : PChan) (x : EndCause) (s : State) : (endChannel c x s).pchan d =
    if c = d then (s.pchan c).idled c s.play.p1Held else s.pchan d := by
  rw [endChannel, raisePlayout_pchan, goIdle_pchan]

theorem idled_eq (c : PChan) (b : Bool) (r : PlayRec) : r.idled c b =
    { r with state := .idle, cur := none, finish := false, owner := if c = .p1 ∧ b = true then .incident else .none } := by
  unfold PlayRec.idled
  simp only [Bool.and_eq_true, decide_eq_true_eq]

/-! ### START -/

/-- R123: the start of a channel. -/
def startRun (c : PChan) (kind : PlayKind) (owner : PlayOwner) (s : State) : State :=
  raiseStarted c (match kind with
    | .play => recomputeOwners (some c) (beginRun c kind owner s)
    | .check => beginRun c kind owner s)

theorem startPlayout_badArgument (h : chan.toNat = 0 ∨ 4 < chan.toNat) : startPlayout p chan s = refuse .badArgument s := by
  simp only [startPlayout, pchanOf_eq_none h]

section
variable (hc : chan.toNat = pchanCode c)
include hc

theorem startPlayout_inUse (h : heldByIncident s c = true) : startPlayout p chan s = refuse .inUse s := by
  simp only [startPlayout, pchanOf_eq_some hc, h, if_true]

variable (h : heldByIncident s c = false)
include h

theorem startPlayout_busy (hi : (s.pchan c).state ≠ .idle) : startPlayout p chan s = refuse .busy s := by
  simp only [startPlayout, pchanOf_eq_some hc, h, hi, Bool.false_eq_true, if_false, ne_eq, not_false_eq_true, if_true]

variable (hi : (s.pchan c).state = .idle)
include hi

theorem startPlayout_unprogrammed (hp : (s.pchan c).program = none) : startPlayout p chan s = refuse .notReady s := by
  simp only [startPlayout, pchanOf_eq_some hc, h, hi, hp, Bool.false_eq_true, if_false, ne_eq, not_true_eq_false]

theorem startPlayout_unready {prog : Program} (hp : (s.pchan c).program = some prog) (hr : playlistReady s prog = false) :
    startPlayout p chan s = refuse .notReady s := by
  simp only [startPlayout, pchanOf_eq_some hc, h, hi, hp, hr, Bool.false_eq_true, if_false, ne_eq, not_true_eq_false,
    Bool.not_false, if_true]

theorem startPlayout_starts {prog : Program} (hp : (s.pchan c).program = some prog) (hr : playlistReady s prog = true) :
    startPlayout p chan s = (startRun c prog.kind (portOwner p) s,
      ⟨.ok, b1 (playStateCode ((startRun c prog.kind (portOwner p) s).pchan c).state)⟩) := by
  cases kind : prog.kind with
  | play =>
    simp only [startPlayout, pchanOf_eq_some hc, h, hi, hp, hr, kind, Bool.false_eq_true, if_false, ne_eq, not_true_eq_false,
      Bool.not_true, startRun]
  | check =>
    simp only [startPlayout, pchanOf_eq_some hc, h, hi, hp, hr, kind, Bool.false_eq_true, if_false, ne_eq, not_true_eq_false,
      Bool.not_true, startRun]

end

theorem playlistReady_iff {prog : Program} {first : MsgId} (hf : prog.playlist.head? = some first) :
    playlistReady s prog = true ↔ (∀ j ∈ prog.playlist, (s.msg j).content.isClosed = true) ∧ (s.msg first).content.ready = true := by
  unfold playlistReady messageReady
  rw [hf, Bool.and_eq_true, List.all_eq_true]

theorem writes_startRun (c : PChan) (kind : PlayKind) (owner : PlayOwner) : Writes ownerFields s (startRun c kind owner s) := by
  have begun : Writes ownerFields s (beginRun c kind owner s) := (writes_modPchan ..).mono (by decide)
  unfold startRun
  refine Writes.trans ?_ ((writes_raiseStarted c).mono (by decide))
  cases kind with
  | play => exact begun.trans (writes_recomputeOwners _)
  | check => exact begun

/-- What a start leaves of the playout engine, whatever the kind. -/
theorem startRun_play (c : PChan) (kind : PlayKind) (owner : PlayOwner) (s : State) :
    (startRun c kind owner s).play.rotation = s.play.rotation ∧ (startRun c kind owner s).play.p1Held = s.play.p1Held := by
  unfold startRun
  rw [raiseStarted_play]
  cases kind with
  | play =>
    have owners := recomputeOwners_undisturbed (some c) (beginRun c .play owner s)
    exact ⟨owners.rotation, owners.held⟩
  | check => exact ⟨rfl, rfl⟩

/-- R123: a CHECK channel runs at once. -/
theorem startRun_check (c : PChan) (owner : PlayOwner) (s : State) :
    (startRun c .check owner s).pchan c = (s.pchan c).begun .check owner ∧ (startRun c .check owner s).brk = s.brk ∧
      ∀ d, d ≠ c → (startRun c .check owner s).pchan d = s.pchan d := by
  unfold startRun
  refine ⟨?_, (writes_raiseStarted c).brk, fun d other => ?_⟩
  · rw [raiseStarted_pchan, beginRun_pchan, if_pos rfl]
  · rw [raiseStarted_pchan, beginRun_pchan, if_neg other.symm]

/-- R123, R144: a PLAY channel is PLAYING where it owns a segment, and HELD where not. -/
theorem startRun_playing {prog : Program} (owner : PlayOwner) (hp : (s.pchan c).program = some prog) (hk : prog.kind = .play) :
    (startRun c .play owner s).pchan c = { (s.pchan c).begun .play owner with
      state := if ownedBy (startRun c .play owner s).brk.owners (sourceOf c) = 0 then .held else .playing } := by
  have begun : (beginRun c .play owner s).pchan c = (s.pchan c).begun .play owner := by rw [beginRun_pchan, if_pos rfl]
  have hold := recomputeOwners_pchan (some c) (beginRun c .play owner s) (c := c) (by rw [begun]; nofun)
  have zone : (playZone ((s.pchan c).begun .play owner)).isSome = true := by
    simp only [playZone, PlayRec.begun, hp, hk, true_or, and_self, if_true, Option.isSome_some]
  have brk : (startRun c .play owner s).brk = (recomputeOwners (some c) (beginRun c .play owner s)).brk := (writes_raiseStarted c).brk
  have pchan : (startRun c .play owner s).pchan c = (recomputeOwners (some c) (beginRun c .play owner s)).pchan c :=
    raiseStarted_pchan ..
  rw [pchan, brk, hold, begun]
  generalize (recomputeOwners (some c) (beginRun c .play owner s)).brk.owners = v
  unfold PlayRec.afterHold
  by_cases none : ownedBy v (sourceOf c) = 0
  · rw [if_pos ⟨zone, rfl, none⟩, if_pos none, if_neg (show ¬ ((s.pchan c).begun .play owner).finish = true from Bool.false_ne_true)]
    rfl
  · rw [if_neg fun g => none g.2.2, if_neg none]
    rfl

/-! ### STOP -/

theorem stopPlayout_badArgument (h : chan.toNat = 0 ∨ 4 < chan.toNat) : stopPlayout p chan s = refuse .badArgument s := by
  simp only [stopPlayout, pchanOf_eq_none h]

section
variable (hc : chan.toNat = pchanCode c)
include hc

theorem stopPlayout_notPermitted (hp : p = .e) (ho : (s.pchan c).owner ≠ .e) : stopPlayout p chan s = refuse .notPermitted s := by
  simp only [stopPlayout, pchanOf_eq_some hc, hp, ho, ne_eq, not_false_eq_true, and_self, if_true]

variable (ho : ¬ (p = .e ∧ (s.pchan c).owner ≠ .e))
include ho

theorem stopPlayout_idle (hi : (s.pchan c).state = .idle) : stopPlayout p chan s = accept s := by
  simp only [stopPlayout, pchanOf_eq_some hc]
  rw [if_neg ho, if_pos hi]

theorem stopPlayout_stops (hi : (s.pchan c).state ≠ .idle) :
    stopPlayout p chan s = accept (settle s (endChannel c .stopped s)) := by
  simp only [stopPlayout, pchanOf_eq_some hc]
  rw [if_neg ho, if_neg hi]

end

theorem stopped_pchan (c : PChan) (s : State) :
    (settle s (endChannel c .stopped s)).pchan c = (s.pchan c).idled c s.play.p1Held := by
  have ended : (endChannel c .stopped s).pchan c = (s.pchan c).idled c s.play.p1Held := by rw [endChannel_pchan, if_pos rfl]
  rw [settle_pchan_still _ _ (by rw [ended]; nofun) (by rw [ended]; nofun), ended]

end

end Sys2Proof.Machine

/-! START and STOP as commands of a port. -/

namespace Sys2Proof.Machine

section
variable {p : Port} {chan : Byte} {c : PChan} {s : State}

/-- R123: the accepted START. -/
theorem exec_startPlayout {prog : Program} (hr : Ready (.startPlayout p chan) s) (hc : chan.toNat = pchanCode c)
    (hh : heldByIncident s c = false) (hi : (s.pchan c).state = .idle) (hp : (s.pchan c).program = some prog)
    (ready : playlistReady s prog = true) :
    ∃ t, exec (.startPlayout p chan) s = .next t ∧
      (t.port p).holding = ⟨.ok, 0x51, b1 (playStateCode (t.pchan c).state)⟩ ∧
      (t.pchan c).owner = portOwner p ∧ (t.pchan c).finish = false ∧ (t.pchan c).program = some prog ∧
      (t.pchan c).cur = some ⟨0, 0, 0, 0⟩ ∧
      (prog.kind = .check → (t.pchan c).state = .checking ∧ t.brk = s.brk ∧ ∀ d, d ≠ c → t.pchan d = s.pchan d) ∧
      (prog.kind = .play → (t.pchan c).state = if ownedBy t.brk.owners (sourceOf c) = 0 then .held else .playing) ∧
      t.sys = s.sys ∧ t.store = s.store ∧ t.loop = s.loop ∧ t.alloc = s.alloc ∧ t.talk = s.talk ∧ t.inc = s.inc ∧
      t.play.rotation = s.play.rotation ∧ t.play.p1Held = s.play.p1Held ∧ t.meter = s.meter := by
  have frame : Writes [.ports] s (s.modPort p fun q => q.shift (commandFrame 0x51 [chan])) := writes_modPort ..
  have pchan (d : PChan) : (s.modPort p fun q => q.shift (commandFrame 0x51 [chan])).pchan d = s.pchan d := rfl
  have run := startPlayout_starts (s := s.modPort p fun q => q.shift (commandFrame 0x51 [chan])) (p := p) hc hh hi hp ready
  have done := exec_of_body rfl rfl hr run
  clear run
  generalize s.modPort p _ = v at frame pchan done
  have writes := writes_startRun (s := v) c prog.kind (portOwner p)
  obtain ⟨rotation, held⟩ := startRun_play c prog.kind (portOwner p) v
  have check := startRun_check c (portOwner p) v
  have play := startRun_playing (s := v) (portOwner p) (by rw [pchan, hp] : (v.pchan c).program = some prog)
  refine ⟨_, done, ?_⟩
  rw [hold_holding]
  have record : ((startRun c prog.kind (portOwner p) v).pchan c).owner = portOwner p ∧
      ((startRun c prog.kind (portOwner p) v).pchan c).finish = false ∧
      ((startRun c prog.kind (portOwner p) v).pchan c).program = some prog ∧
      ((startRun c prog.kind (portOwner p) v).pchan c).cur = some ⟨0, 0, 0, 0⟩ := by
    have program : (v.pchan c).program = some prog := by rw [pchan, hp]
    cases kind : prog.kind with
    | check =>
      rw [check.1]
      exact ⟨rfl, rfl, program, rfl⟩
    | play =>
      rw [play kind]
      exact ⟨rfl, rfl, program, rfl⟩
  obtain ⟨owner, finish, program, cur⟩ := record
  have checked (kind : prog.kind = .check) : ((startRun c prog.kind (portOwner p) v).pchan c).state = .checking ∧
      (startRun c prog.kind (portOwner p) v).brk = s.brk ∧
      ∀ d, d ≠ c → (startRun c prog.kind (portOwner p) v).pchan d = s.pchan d := by
    obtain ⟨record, brk, others⟩ := check
    rw [kind]
    refine ⟨by rw [record]; rfl, brk.trans frame.brk, fun d other => (others d other).trans (pchan d)⟩
  have played (kind : prog.kind = .play) : ((startRun c prog.kind (portOwner p) v).pchan c).state =
      if ownedBy (startRun c prog.kind (portOwner p) v).brk.owners (sourceOf c) = 0 then .held else .playing := by
    have record := play kind
    rw [kind]
    exact congrArg PlayRec.state record
  generalize startRun c prog.kind (portOwner p) v = t at *
  have total := (frame.mono (by decide)).trans writes
  exact ⟨rfl, owner, finish, program, cur, checked, played, total.sys, total.store, total.loop, total.alloc, total.talk, total.inc,
    rotation.trans (by rw [frame.play]), held.trans (by rw [frame.play]), total.meter⟩

/-- R124: the STOP of a running channel. -/
theorem exec_stopPlayout (hr : Ready (.stopPlayout p chan) s) (hc : chan.toNat = pchanCode c)
    (ho : ¬ (p = .e ∧ (s.pchan c).owner ≠ .e)) (hi : (s.pchan c).state ≠ .idle) :
    ∃ t, exec (.stopPlayout p chan) s = .next t ∧ Undisturbed (served (.stopPlayout p chan) .ok [] s) t ∧
      t.alloc = s.alloc ∧ t.loop = s.loop ∧ t.pchan c = (s.pchan c).idled c s.play.p1Held := by
  have frame : Writes [.ports] s (s.modPort p fun q => q.shift (commandFrame 0x52 [chan])) := writes_modPort ..
  have run := stopPlayout_stops (s := s.modPort p fun q => q.shift (commandFrame 0x52 [chan])) hc ho hi
  have quiet := (endChannel_undisturbed c .stopped (s.modPort p fun q => q.shift (commandFrame 0x52 [chan]))).trans
    (settle_undisturbed (s.modPort p fun q => q.shift (commandFrame 0x52 [chan])) _)
  obtain ⟨done, undisturbed⟩ := served_of_body rfl rfl hr run quiet
  refine ⟨_, done, undisturbed, ?_⟩
  have pchan := stopped_pchan c (s.modPort p fun q => q.shift (commandFrame 0x52 [chan]))
  have same : (s.modPort p fun q => q.shift (commandFrame 0x52 [chan])).pchan c = s.pchan c := rfl
  rw [same, frame.play] at pchan
  clear undisturbed done quiet run same
  generalize s.modPort p _ = v at frame pchan
  have ended : Writes ownerFields v (settle v (endChannel c .stopped v)) :=
    ((writes_endChannel c .stopped).mono (by decide)).trans (writes_settle v)
  generalize settle v (endChannel c .stopped v) = t at ended pchan
  have total := (frame.mono (by decide)).trans ended
  exact ⟨total.alloc, total.loop, pchan⟩

end

/-- R124: port O stops any channel, port E its own. -/
theorem may_stop {p : Port} {owner : PlayOwner} (h : p = .o ∨ owner = .e) : ¬ (p = .e ∧ owner ≠ .e) := by
  rintro ⟨rfl, foreign⟩
  exact h.elim (fun g => nomatch g) foreign

/-- Settles O38. -/
theorem startAndStop : Obligations.StartAndStop := by
  refine ⟨fun p chan s hr => ⟨fun bad => ?_, fun c hc => ⟨fun first held => ?_, fun free busy => ?_, fun free idle =>
    ⟨fun unprogrammed => ?_, fun prog first hp hf => ⟨fun unready => ?_, fun closed ready => ?_⟩⟩⟩⟩,
    fun p chan s hr => ⟨fun bad => ?_, fun c hc => ⟨fun hp foreign => ?_, fun may idle => ?_, fun may running => ?_⟩⟩⟩
  · exact congrArg Host.Outcome.next (portCommand_served rfl hr (startPlayout_badArgument (s := s.modPort p _) bad))
  · exact congrArg Host.Outcome.next (portCommand_served rfl hr
      (startPlayout_inUse (s := s.modPort p _) hc (heldByIncident_eq_true first held)))
  · exact congrArg Host.Outcome.next (portCommand_served rfl hr
      (startPlayout_busy (s := s.modPort p _) hc (heldByIncident_eq_false free) busy))
  · exact congrArg Host.Outcome.next (portCommand_served rfl hr
      (startPlayout_unprogrammed (s := s.modPort p _) hc (heldByIncident_eq_false free) idle unprogrammed))
  · have out : playlistReady s prog = false := by
      refine Bool.eq_false_iff.mpr fun holds => ?_
      obtain ⟨closed, ready⟩ := (playlistReady_iff hf).mp holds
      rcases unready with ⟨j, mem, opened⟩ | unready
      · rw [closed j mem] at opened; exact nomatch opened
      · rw [ready] at unready; exact nomatch unready
    exact congrArg Host.Outcome.next (portCommand_served rfl hr
      (startPlayout_unready (s := s.modPort p _) hc (heldByIncident_eq_false free) idle hp out))
  · exact exec_startPlayout hr hc (heldByIncident_eq_false free) idle hp ((playlistReady_iff hf).mpr ⟨closed, ready⟩)
  · exact congrArg Host.Outcome.next (portCommand_served rfl hr (stopPlayout_badArgument (s := s.modPort p _) bad))
  · exact congrArg Host.Outcome.next (portCommand_served rfl hr (stopPlayout_notPermitted (s := s.modPort p _) hc hp foreign))
  · exact congrArg Host.Outcome.next (portCommand_served rfl hr (stopPlayout_idle (s := s.modPort p _) hc (may_stop may) idle))
  · obtain ⟨t, done, undisturbed, alloc, loop, pchan⟩ := exec_stopPlayout hr hc (may_stop may) running
    exact ⟨t, done, undisturbed, alloc, loop, pchan.trans (idled_eq ..)⟩

end Sys2Proof.Machine

/-! Message ends (R127, R128, R112): what a channel does after the end of a message. -/

namespace Sys2Proof.Machine

section
variable {s : State} {c : PChan} {p : Program} {q : Cursor}

/-- R121: the place in the playlist after this one. -/
def nextIndex (p : Program) (q : Cursor) : Nat := if q.index + 1 = p.playlist.length then 0 else q.index + 1

/-- R127: the run ends at this message end. -/
def RunEnds (s : State) (c : PChan) (p : Program) (q : Cursor) : Prop :=
  (s.pchan c).finish = true ∨ (q.index + 1 = p.playlist.length ∧ p.repeats = false) ∨
    messageReady s p.playlist[nextIndex p q]? = false

/-- R127 step 4: the channel at the start of its next message, with the time beyond the end (log 4). -/
def pointed (c : PChan) (p : Program) (q : Cursor) (s : State) : State :=
  s.modPchan c fun r => { r with cur := some { startCursor (nextIndex p q) with frac := q.frac } }

theorem pointed_pchan (c : PChan) (p : Program) (q : Cursor) (s : State) : (pointed c p q s).pchan c =
    { s.pchan c with cur := some { startCursor (nextIndex p q) with frac := q.frac } } := by
  rw [pointed, modPchan_pchan, if_pos rfl]

section
variable (hp : (s.pchan c).program = some p) (hq : (s.pchan c).cur = some q)
include hp

theorem pointed_message : ((pointed c p q s).pchan c).message = p.playlist[nextIndex p q]? := by
  simp only [pointed_pchan, PlayRec.message, hp]
  rfl

include hq

theorem advance_eq : advance c s =
    if (s.pchan c).finish then endChannel c .lapsed s
    else if q.index + 1 = p.playlist.length ∧ !p.repeats then endChannel c .completed s
    else if messageReady s p.playlist[nextIndex p q]? then (pointed c p q s).modPchan c (readFor (pointed c p q s) 0)
    else endChannel c .notReady (pointed c p q s) := by
  have message : messageReady (pointed c p q s) ((pointed c p q s).pchan c).message = messageReady s p.playlist[nextIndex p q]? := by
    rw [pointed_message hp]
    rfl
  rw [← message]
  simp only [advance, hp, hq]
  rfl

theorem advance_ends (h : RunEnds s c p q) : (advance c s).pchan c = (s.pchan c).idled c s.play.p1Held := by
  have ended (x : EndCause) (u : State) : (endChannel c x u).pchan c = (u.pchan c).idled c u.play.p1Held := by
    rw [endChannel_pchan, if_pos rfl]
  rw [advance_eq hp hq]
  split
  · exact ended ..
  · next finish =>
    split
    · exact ended ..
    · next last =>
      have unready : messageReady s p.playlist[nextIndex p q]? = false := by
        rcases h with h | ⟨h, h'⟩ | h
        · exact absurd h finish
        · exact absurd ⟨h, by rw [h']; rfl⟩ last
        · exact h
      rw [if_neg (by rw [unready]; exact Bool.false_ne_true), ended, pointed_pchan]
      rfl

/-- The cursor of a channel that has begun its next message with the time beyond the end of the last. -/
def nextCursor (s : State) (r : PlayRec) (p : Program) (q : Cursor) (m : MsgBody) : Cursor :=
  ⟨nextIndex p q, min (q.frac / 125) m.length, q.frac - 125 * min (q.frac / 125) m.length,
    if r.state = .checking then checksum (memLoad s.store.mem m.first 0 (min (q.frac / 125) m.length)) else 0⟩

theorem advance_next (hf : (s.pchan c).finish = false) (hl : q.index + 1 = p.playlist.length → p.repeats = true) {id : MsgId}
    (hi : p.playlist[nextIndex p q]? = some id) {m : MsgBody} {declared : Half} (hm : (s.msg id).content = .closed m declared false) :
    (advance c s).pchan c = { s.pchan c with cur := some (nextCursor s (s.pchan c) p q m) } := by
  have ready : messageReady s p.playlist[nextIndex p q]? = true := by
    rw [hi]
    simp only [messageReady, hm]
    rfl
  have going : ¬ (q.index + 1 = p.playlist.length ∧ (!p.repeats) = true) := by
    rintro ⟨last, once⟩
    rw [hl last] at once
    exact nomatch once
  have content : ((pointed c p q s).msg id).content = .closed m declared false := hm
  rw [advance_eq hp hq, if_neg (by rw [hf]; exact Bool.false_ne_true), if_neg going, if_pos ready, modPchan_pchan, if_pos rfl,
    readFor_served 0 ((pointed_message hp).trans hi) (by rw [pointed_pchan]) content, pointed_pchan]
  simp only [Cursor.readOn, startCursor, nextCursor, Nat.add_zero, Nat.zero_add, Nat.sub_zero, Config.unitsPerByte]
  split
  · rw [zero_add]
    rfl
  · rfl

end

theorem writes_advance : Writes [.ports, .play] s (advance c s) := by
  unfold advance
  dsimp only
  split
  · refine .ite (fun _ => writes_endChannel ..) fun _ => .ite (fun _ => writes_endChannel ..) fun _ => ?_
    exact .ite (fun _ => ((writes_modPchan ..).trans (writes_modPchan ..)).mono (by decide))
      fun _ => ((writes_modPchan ..).mono (by decide)).trans (writes_endChannel ..)
  · exact .refl s

end

end Sys2Proof.Machine

/-! The message ends of a PLAY and of a CHECK channel, when they are due. -/

namespace Sys2Proof.Machine

section
variable {s u : State} {c : PChan} {p : Program} {q : Cursor}

/-! ### R127 -/

/-- R144: after an event a PLAYING channel plays on, or is HELD at the start of its message. -/
theorem settle_pchan_playing (before : State) (hs : (u.pchan c).state = .playing) (hf : (u.pchan c).finish = false) :
    (settle before u).pchan c = u.pchan c ∨
      (settle before u).pchan c = { u.pchan c with state := .held, cur := (u.pchan c).cur.map fun q => startCursor q.index } := by
  unfold settle
  split
  · exact .inl rfl
  · rw [recomputeOwners_pchan none u (by rw [hs]; nofun)]
    unfold PlayRec.afterHold
    split
    · rw [if_neg (by rw [hf]; exact Bool.false_ne_true)]
      exact .inr rfl
    · exact .inl rfl

theorem playMessageEnd_due (h : endDue s .playing c = true) : playMessageEnd c s =
    settle s (advance c { s with play.rotation := moveToEnd c s.play.rotation }) := if_pos h

theorem state_of_endDue {st : PlayState} (h : endDue s st c = true) : (s.pchan c).state = st := by
  rw [endDue, Bool.and_eq_true, decide_eq_true_eq] at h
  exact h.1

/-- What a channel does after a message end leaves programs and the rotation alone. -/
theorem advance_undisturbed (c : PChan) (s : State) : Undisturbed s (advance c s) := by
  have ended (x : EndCause) (u : State) : Undisturbed u (endChannel c x u) := endChannel_undisturbed c x u
  cases hp : (s.pchan c).program with
  | none =>
    simp only [advance, hp]
    exact .refl s
  | some p => cases hq : (s.pchan c).cur with
    | none =>
      simp only [advance, hp, hq]
      exact .refl s
    | some q =>
      have moved : Undisturbed s (pointed c p q s) := by
        unfold pointed
        exact modPchan_undisturbed s c _ fun _ => rfl
      have read (r : PlayRec) : (readFor (pointed c p q s) 0 r).program = r.program :=
        (congrArg PlayRec.program (readFor_frame (pointed c p q s) 0 r) :)
      rw [advance_eq hp hq]
      split
      · exact ended ..
      · split
        · exact ended ..
        · split
          · exact moved.trans (modPchan_undisturbed (pointed c p q s) c _ read)
          · exact moved.trans (ended ..)

/-- R121: a PLAYING channel whose message has ended is the last of the rotation. -/
def rotated (c : PChan) (s : State) : State := { s with play.rotation := moveToEnd c s.play.rotation }

theorem rotated_pchan (c d : PChan) (s : State) : (rotated c s).pchan d = s.pchan d := rfl

theorem writes_rotated : Writes [.play] s (rotated c s) := writes_play _

theorem exec_messageEnd (h : .messageEnd c ∈ dueRows s) :
    exec (.messageEnd c) s = .next (settle s (advance c (rotated c s))) ∧ (s.pchan c).state = .playing := by
  obtain ⟨held, due⟩ := mem_dueRows.mp h
  have ended : endDue s .playing c = true := due
  refine ⟨congrArg Host.Outcome.next ((if_neg (by rw [held]; exact Bool.false_ne_true)).trans ?_), state_of_endDue ended⟩
  exact playMessageEnd_due ended

/-- R127: the frame of a message end. -/
theorem messageEnd_frame (before : State) (c : PChan) (s : State) :
    Writes ownerFields s (settle before (advance c (rotated c s))) ∧
    (settle before (advance c (rotated c s))).play.rotation = moveToEnd c s.play.rotation ∧
    ∀ d, ((settle before (advance c (rotated c s))).pchan d).program = (s.pchan d).program := by
  have writes : Writes ownerFields s (settle before (advance c (rotated c s))) :=
    (writes_rotated.mono (by decide)).trans ((writes_advance.mono (by decide)).trans (writes_settle before))
  have quiet := (advance_undisturbed c (rotated c s)).trans (settle_undisturbed before _)
  exact ⟨writes, quiet.rotation, fun d => (quiet.program d).trans (by rw [rotated_pchan])⟩

/-- R127: a run that ends with its message. -/
theorem messageEnd_ends (before : State) (hp : (s.pchan c).program = some p) (hq : (s.pchan c).cur = some q) (h : RunEnds s c p q) :
    (settle before (advance c (rotated c s))).pchan c = (s.pchan c).idled c s.play.p1Held := by
  have ends : RunEnds (rotated c s) c p q := h
  have ended := advance_ends (s := rotated c s) hp hq ends
  rw [settle_pchan_still before _ (by rw [ended]; nofun) (by rw [ended]; nofun), ended]
  rfl

/-- R127: a run that goes on plays its next message, or is HELD at its start. -/
theorem messageEnd_next (before : State) (hp : (s.pchan c).program = some p) (hq : (s.pchan c).cur = some q)
    (hs : (s.pchan c).state = .playing) (hf : (s.pchan c).finish = false)
    (hl : q.index + 1 = p.playlist.length → p.repeats = true) {id : MsgId} (hi : p.playlist[nextIndex p q]? = some id) {m : MsgBody}
    {declared : Half} (hm : (s.msg id).content = .closed m declared false) :
    let r := (settle before (advance c (rotated c s))).pchan c
    r.state = .playing ∧ r.cur = some ⟨nextIndex p q, min (q.frac / 125) m.length, q.frac - 125 * min (q.frac / 125) m.length, 0⟩ ∨
      r.state = .held ∧ r.cur = some ⟨nextIndex p q, 0, 0, 0⟩ := by
  have next := advance_next (s := rotated c s) hp hq hf hl hi hm
  have cursor : nextCursor (rotated c s) (s.pchan c) p q m =
      ⟨nextIndex p q, min (q.frac / 125) m.length, q.frac - 125 * min (q.frac / 125) m.length, 0⟩ := by
    rw [nextCursor, if_neg (by rw [hs]; nofun)]
  rw [rotated_pchan, cursor] at next
  dsimp only
  rcases settle_pchan_playing before (u := advance c (rotated c s)) (by rw [next, hs]) (by rw [next, hf]) with same | held
  · rw [same, next]
    exact .inl ⟨hs, rfl⟩
  · rw [held, next]
    exact .inr ⟨rfl, rfl⟩

/-! ### R128 -/

theorem verdict_of_closed {i : MsgId} {m : MsgBody} {declared : Half} {damaged : Bool} (h : (s.msg i).content = .closed m declared damaged)
    (sum : Half) : (∀ j, (takeVerdict i sum s).msg j = if j = i ∧ sum ≠ declared then
      { s.msg i with content := .closed { m with computed := sum } declared true } else s.msg j) ∧
      (takeVerdict i sum s).store.mem = s.store.mem := by
  have changed (cause : MsgCause) (j : MsgId) (x : MsgContent) : (changeMessage i x cause s).msg j =
      if i = j then { s.msg i with content := x } else s.msg j := modMsg_msg ..
  simp only [takeVerdict, h]
  by_cases match_ : sum = declared
  · rw [if_pos match_]
    exact ⟨fun j => (if_neg fun g => g.2 match_).symm, rfl⟩
  · rw [if_neg match_]
    have outcome (j : MsgId) (x y : MsgRec) : (if i = j then x else y) = if j = i ∧ sum ≠ declared then x else y :=
      if_congr (by simp [match_, eq_comm]) rfl rfl
    split
    · exact ⟨fun j => (modMsg_msg ..).trans (outcome ..), rfl⟩
    · exact ⟨fun j => (changed ..).trans (outcome ..), rfl⟩

theorem writes_takeVerdict (i : MsgId) (sum : Half) : Writes [.ports, .store] s (takeVerdict i sum s) := by
  unfold takeVerdict
  split
  · refine .ite (fun _ => .refl s) fun _ => .ite (fun _ => (writes_store _).mono (by decide)) fun _ => ?_
    exact ((writes_store _).mono (by decide)).trans ((writes_raise ..).mono (by decide))
  · exact .refl s

/-- R128: the verdict and its event. -/
def judged (c : PChan) (i : MsgId) (sum : Half) (s : State) : State :=
  raisePlayout c (s.pchan c) 4 (if verdict i sum s then 0 else 1) (takeVerdict i sum s)

theorem writes_judged (c : PChan) (i : MsgId) (sum : Half) : Writes [.ports, .store] s (judged c i sum s) :=
  (writes_takeVerdict i sum).trans ((writes_raisePlayout ..).mono (by decide))

theorem judged_store (c : PChan) (i : MsgId) (sum : Half) (s : State) : (judged c i sum s).store = (takeVerdict i sum s).store :=
  (writes_raisePlayout ..).store

theorem exec_checkMessageEnd {i : MsgId} (h : .checkMessageEnd c ∈ dueRows s) (hq : (s.pchan c).cur = some q)
    (hi : (s.pchan c).message = some i) :
    exec (.checkMessageEnd c) s = .next (advance c (judged c i q.sum s)) ∧ (s.pchan c).state = .checking := by
  obtain ⟨held, due⟩ := mem_dueRows.mp h
  have ended : endDue s .checking c = true := due
  refine ⟨congrArg Host.Outcome.next ((if_neg (by rw [held]; exact Bool.false_ne_true)).trans ?_), state_of_endDue ended⟩
  simp only [checkMessageEnd, hq, hi, ended, if_true, judged]

end

end Sys2Proof.Machine

/-! O39, the two kinds of channel side by side. -/

namespace Sys2Proof.Machine

section
variable {s : State} {c : PChan} {p : Program} {q : Cursor}

theorem idled_facts (c : PChan) (b : Bool) (r : PlayRec) : (r.idled c b).state = .idle ∧ (r.idled c b).cur = none ∧
    (r.idled c b).finish = false ∧ (r.idled c b).owner = if c = .p1 ∧ b = true then .incident else .none := by
  rw [idled_eq]
  exact ⟨rfl, rfl, rfl, rfl⟩

theorem message_of_cur {id : MsgId} (hp : (s.pchan c).program = some p) (hq : (s.pchan c).cur = some q)
    (hi : p.playlist[q.index]? = some id) : (s.pchan c).message = some id := by
  simp only [PlayRec.message, hp, hq, hi]

/-- R128: what the end of a checked message makes of the part. -/
theorem checkEnd_frame (c : PChan) (i : MsgId) (sum : Half) (s : State) :
    Writes [.ports, .store, .play] s (advance c (judged c i sum s)) ∧
    (advance c (judged c i sum s)).store = (takeVerdict i sum s).store ∧
    (advance c (judged c i sum s)).play.rotation = s.play.rotation ∧
    ∀ d, ((advance c (judged c i sum s)).pchan d).program = (s.pchan d).program := by
  have verdict := writes_judged (s := s) c i sum
  have store : (advance c (judged c i sum s)).store = (takeVerdict i sum s).store := by
    rw [← judged_store]
    exact writes_advance.store
  have quiet := advance_undisturbed c (judged c i sum s)
  refine ⟨(verdict.mono (by decide)).trans (writes_advance.mono (by decide)), store, ?_, fun d => ?_⟩
  · rw [quiet.rotation, verdict.play]
  · rw [quiet.program, State.pchan, verdict.play]
    rfl

theorem messageReady_congr {s t : State} (h : t.store = s.store) (m : Option MsgId) : messageReady t m = messageReady s m := by
  unfold messageReady State.msg
  rw [h]

theorem checkEnd_ends {i : MsgId} {sum : Half} (hp : (s.pchan c).program = some p) (hq : (s.pchan c).cur = some q)
    (h : (s.pchan c).finish = true ∨ (q.index + 1 = p.playlist.length ∧ p.repeats = false) ∨
      messageReady (advance c (judged c i sum s)) p.playlist[nextIndex p q]? = false) :
    (advance c (judged c i sum s)).pchan c = (s.pchan c).idled c s.play.p1Held := by
  have play : (judged c i sum s).play = s.play := (writes_judged c i sum).play
  have store : (advance c (judged c i sum s)).store = (judged c i sum s).store := writes_advance.store
  rw [messageReady_congr store] at h
  revert h
  generalize judged c i sum s = u at *
  intro h
  have pchan : u.pchan c = s.pchan c := by rw [State.pchan, play]; rfl
  rw [← pchan] at hp hq h
  rw [advance_ends hp hq h, pchan, play]

theorem checkEnd_next {i : MsgId} {sum : Half} (hp : (s.pchan c).program = some p) (hq : (s.pchan c).cur = some q)
    (hs : (s.pchan c).state = .checking) (hf : (s.pchan c).finish = false)
    (hl : q.index + 1 = p.playlist.length → p.repeats = true) {id : MsgId} (hi : p.playlist[nextIndex p q]? = some id) {m : MsgBody}
    {declared : Half} (hm : ((advance c (judged c i sum s)).msg id).content = .closed m declared false)
    (mem : (takeVerdict i sum s).store.mem = s.store.mem) :
    let r := (advance c (judged c i sum s)).pchan c
    r.state = .checking ∧ r.cur = some ⟨nextIndex p q, min (q.frac / 125) m.length, q.frac - 125 * min (q.frac / 125) m.length,
      checksum (memLoad s.store.mem m.first 0 (min (q.frac / 125) m.length))⟩ := by
  have play : (judged c i sum s).play = s.play := (writes_judged c i sum).play
  have store : (advance c (judged c i sum s)).store = (judged c i sum s).store := writes_advance.store
  rw [← judged_store] at mem
  rw [State.msg, store] at hm
  generalize judged c i sum s = u at *
  have pchan : u.pchan c = s.pchan c := by rw [State.pchan, play]; rfl
  rw [← pchan] at hp hq hs hf
  dsimp only
  rw [advance_next hp hq hf hl hi hm, nextCursor, if_pos hs, mem]
  exact ⟨hs, rfl⟩

end

/-- Settles O39. -/
theorem messageEnds : Obligations.MessageEnds := by
  intro c s p q hp hq hlen last next ended early
  have idled {t : State} (h : t.pchan c = (s.pchan c).idled c s.play.p1Held) : ended t := by
    dsimp only [ended]
    rw [h]
    exact idled_facts ..
  refine ⟨fun due => ?_, fun due id hid m declared damaged hm => ?_⟩
  · obtain ⟨done, playing⟩ := exec_messageEnd due
    obtain ⟨writes, rotation, program⟩ := messageEnd_frame s c s
    have ends (h : RunEnds s c p q) := idled (messageEnd_ends s hp hq h)
    refine ⟨_, done, rotation, writes.store, writes.sys, writes.alloc, writes.talk, writes.inc, (program c).trans hp,
      fun finish => ends (.inl finish), fun _ last once => ends (.inr (.inl ⟨last, once⟩)), fun finish going =>
        ⟨fun unready => ends (.inr (.inr unready)), fun id hid m declared hm => ?_⟩⟩
    exact messageEnd_next s hp hq playing finish going hid hm
  · obtain ⟨done, checking⟩ := exec_checkMessageEnd due hq (message_of_cur hp hq hid)
    obtain ⟨writes, store, rotation, program⟩ := checkEnd_frame c id q.sum s
    obtain ⟨msgs, mem⟩ := verdict_of_closed hm q.sum
    refine ⟨_, done, rotation, writes.brk, writes.sys, writes.alloc, writes.talk, writes.inc, (program c).trans hp, fun j => ?_,
      by rw [store, mem], fun finish => idled (checkEnd_ends hp hq (.inl finish)),
      fun _ last once => idled (checkEnd_ends hp hq (.inr (.inl ⟨last, once⟩))), fun finish going =>
        ⟨fun unready => idled (checkEnd_ends hp hq (.inr (.inr unready))), fun id' hid' m' declared' hm' => ?_⟩⟩
    · rw [State.msg, store]
      exact msgs j
    · exact checkEnd_next hp hq checking finish going hid' hm' mem

end Sys2Proof.Machine

/-! Line units (R1 to R8): every operation of a unit replaces its record and puts frames onto the loop. -/

namespace Sys2Proof.Machine

section
variable {s : State} {k : SegId} {u v : LineUnit} {ws : List WireFrame}

/-- The unit at a position has this record, and these frames have gone out. -/
def onUnit (k : SegId) (v : LineUnit) (ws : List WireFrame) (s : State) : State :=
  { s with plant.units := vupd s.plant.units k fun _ => some v, wire := s.wire ++ ws }

theorem onUnit_lineUnit (k j : SegId) (v : LineUnit) (ws : List WireFrame) (s : State) :
    (onUnit k v ws s).lineUnit j = if k = j then some v else s.lineUnit j := vupd_get ..

theorem onUnit_lineUnit_self (k : SegId) (v : LineUnit) (ws : List WireFrame) (s : State) :
    (onUnit k v ws s).lineUnit k = some v := by rw [onUnit_lineUnit, if_pos rfl]

theorem onUnit_frame (k : SegId) (v : LineUnit) (ws : List WireFrame) (s : State) :
    { onUnit k v ws s with plant.units := s.plant.units, wire := s.wire } = s ∧
      ∀ j, j ≠ k → (onUnit k v ws s).lineUnit j = s.lineUnit j :=
  ⟨rfl, fun j other => by rw [onUnit_lineUnit, if_neg other.symm]⟩

theorem vupd_congr {α : Type} {n : Nat} (x : Vector α n) (i : Fin n) {f g : α → α} (h : f x[i] = g x[i]) : vupd x i f = vupd x i g := by
  unfold vupd
  rw [h]

theorem vupd_vupd {α : Type} {n : Nat} (x : Vector α n) (i : Fin n) (f g : α → α) : vupd (vupd x i f) i g = vupd x i fun a => g (f a) := by
  unfold vupd
  rw [Vector.set_set]
  simp only [Fin.getElem_fin, Vector.getElem_set_self]

theorem vupd_self {α : Type} {n : Nat} (x : Vector α n) (i : Fin n) {f : α → α} (h : f x[i] = x[i]) : vupd x i f = x := by
  unfold vupd
  rw [h]
  exact Vector.set_getElem_self _

theorem modLineUnit_eq (hu : s.lineUnit k = some u) (f : LineUnit → LineUnit) : s.modLineUnit k f = onUnit k (f u) [] s := by
  have units : vupd s.plant.units k (Option.map f) = vupd s.plant.units k fun _ => some (f u) :=
    vupd_congr _ _ (congrArg (Option.map f) hu)
  simp only [State.modLineUnit, onUnit, units, List.append_nil]

theorem modLineUnit_onUnit (f : LineUnit → LineUnit) : (onUnit k v ws s).modLineUnit k f = onUnit k (f v) ws s := by
  simp only [State.modLineUnit, onUnit, vupd_vupd, Option.map_some]

theorem transmit_onUnit (x : Sender) (bytes : List Byte) :
    (onUnit k v ws s).transmit x bytes = onUnit k v (ws ++ [⟨x, bytes⟩]) s := by
  simp only [State.transmit, onUnit, List.append_assoc]

/-! ### Notices (R8) -/

/-- R8: the unit once it has sent a notice for a channel. -/
def LineUnit.noted (c : Chan) (r : UplinkRec) (u : LineUnit) : LineUnit :=
  { u with seq := u.seq + 1, refQ := u.refQ.set c (some r.quality) }

/-- R8: a notice goes out of both directions. -/
def noticeFrames (k : SegId) (c : Chan) (r : UplinkRec) (u : LineUnit) : List WireFrame :=
  let bytes := encodeNotice ⟨u.serial, u.seq + 1, c, r⟩
  [⟨.unit k .left, bytes⟩, ⟨.unit k .right, bytes⟩]

theorem sendNotice_onUnit (c : Chan) : sendNotice k c (onUnit k v ws s) =
    onUnit k (v.noted c (s.plant.rf[k].get c)) (ws ++ noticeFrames k c (s.plant.rf[k].get c) v) s := by
  simp only [sendNotice, onUnit_lineUnit_self, modLineUnit_onUnit, transmit_onUnit, List.append_assoc]
  rfl

theorem noticeIfUp_onUnit (c : Chan) : noticeIfUp k c (onUnit k v ws s) =
    if (s.plant.rf[k].get c).carrier then
      onUnit k (v.noted c (s.plant.rf[k].get c)) (ws ++ noticeFrames k c (s.plant.rf[k].get c) v) s
    else onUnit k v ws s := by
  rw [← sendNotice_onUnit]
  rfl

/-- R8: what the wake of a unit's receivers makes of its record. -/
theorem wakeReceivers_onUnit (k : SegId) (v : LineUnit) (ws : List WireFrame) (s : State) :
    ∃ seq refQ ws', wakeReceivers k (onUnit k v ws s) = onUnit k { v with seq := seq, refQ := refQ } ws' s := by
  have notice (c : Chan) (v : LineUnit) (ws : List WireFrame) :
      ∃ seq refQ ws', noticeIfUp k c (onUnit k v ws s) = onUnit k { v with seq := seq, refQ := refQ } ws' s := by
    rw [noticeIfUp_onUnit]
    split
    · exact ⟨_, _, _, rfl⟩
    · exact ⟨v.seq, v.refQ, ws, rfl⟩
  simp only [wakeReceivers, onUnit_lineUnit_self, modLineUnit_onUnit]
  split
  · obtain ⟨seq, refQ, ws', first⟩ := notice .t1 { v with refQ := .all none } ws
    obtain ⟨seq', refQ', ws'', second⟩ := notice .t2 { v with seq := seq, refQ := refQ } ws'
    exact ⟨seq', refQ', ws'', by rw [first, second]⟩
  · exact ⟨v.seq, v.refQ, ws, rfl⟩

/-! ### A unit changes -/

theorem changeUnit_none (f : LineUnit → LineUnit) (h : s.lineUnit k = none) : changeUnit k f s = s := by
  simp only [changeUnit, h]

/-- R8: a unit whose receivers do not come alive sends nothing. -/
theorem changeUnit_quiet {f : LineUnit → LineUnit} (h : s.lineUnit k = some u) (quiet : receiving (f u).mode = true → receiving u.mode = true) :
    changeUnit k f s = onUnit k (f u) [] s := by
  have asleep : (!receiving u.mode && receiving (f u).mode) = false := by
    cases after : receiving (f u).mode with
    | false => exact Bool.and_false _
    | true => rw [quiet after]; rfl
  simp only [changeUnit, h, asleep, Bool.false_eq_true, if_false, modLineUnit_eq h]

theorem changeUnit_wakes {f : LineUnit → LineUnit} (h : s.lineUnit k = some u) (dead : receiving u.mode = false)
    (alive : receiving (f u).mode = true) : changeUnit k f s = wakeReceivers k (onUnit k (f u) [] s) := by
  simp only [changeUnit, h, dead, alive, Bool.not_false, Bool.and_self, if_true, modLineUnit_eq h]

theorem receiving_iff {m : UnitMode} : receiving m = true ↔ m = .active ∨ m = .standby := by cases m <;> decide

end

end Sys2Proof.Machine

/-! Supply, temperature and uplink changes of a line unit (R1, R2, R3, R8). -/

namespace Sys2Proof.Machine

section
variable {s : State} {k : SegId} {u : LineUnit}

theorem downlink_none (h : s.lineUnit k = none) : s.downlink k = .off := by simp only [State.downlink, h]

theorem downlink_some (h : s.lineUnit k = some u) : s.downlink k = u.downlink := by simp only [State.downlink, h]

/-! ### Start-up -/

/-- R1, R2, R3: a unit at its start-up, before it reports a carrier. -/
def startUp (serial : Word) (temp : TempClass) (supply : Supply) : LineUnit where
  serial := serial
  mode := if supply = .low then .dormant else if temp = .hot then .overheat else .standby
  temp := temp
  supply := supply
  forced := decide (supply = .low)
  levels := .all 0
  seq := 0
  rouse := none
  refQ := .all none

theorem unitSupplyApplied_eq (k : SegId) (serial : Word) (temp : TempClass) (supply : Supply) (s : State) :
    unitSupplyApplied k serial temp supply s = wakeReceivers k (onUnit k (startUp serial temp supply) [] s) := by
  have state (v : LineUnit) : onUnit k v [] s = { s with plant.units := vupd s.plant.units k fun _ => some v } := by
    simp only [onUnit, List.append_nil]
  rw [state]
  cases supply <;> rfl

/-! ### Temperature (R2) -/

theorem takeTemperature_hot_running (h : u.mode = .active ∨ u.mode = .standby) :
    u.takeTemperature .hot = { u with temp := .hot, mode := .overheat } := by
  unfold LineUnit.takeTemperature
  rcases h with h | h <;> rw [h]

theorem takeTemperature_hot_off (h : u.mode = .dormant ∨ u.mode = .overheat) : u.takeTemperature .hot = { u with temp := .hot } := by
  unfold LineUnit.takeTemperature
  rcases h with h | h <;> rw [h]

variable {temp : TempClass}

theorem takeTemperature_stays (ht : temp ≠ .hot) (h : u.mode ≠ .overheat) : u.takeTemperature temp = { u with temp := temp } := by
  unfold LineUnit.takeTemperature
  cases mode : u.mode with
  | overheat => exact absurd mode h
  | _ => cases temp <;> trivial

theorem takeTemperature_cools (ht : temp ≠ .hot) (h : u.mode = .overheat) :
    u.takeTemperature temp = { u with temp := temp, mode := .standby, levels := .all 0 } := by
  unfold LineUnit.takeTemperature
  rw [h]
  cases temp with
  | hot => exact absurd rfl ht
  | _ => rfl

/-- What a temperature makes of the unit, the notices of a unit that wakes aside. -/
theorem changeTemperature_made (h : s.lineUnit k = some u) :
    ∃ seq refQ ws, changeUnit k (LineUnit.takeTemperature temp) s =
        onUnit k { u.takeTemperature temp with seq := seq, refQ := refQ } ws s ∧
      (temp = .hot ∨ u.mode ≠ .overheat → seq = u.seq ∧ refQ = u.refQ) := by
  have fields (temp : TempClass) : (u.takeTemperature temp).seq = u.seq ∧ (u.takeTemperature temp).refQ = u.refQ := by
    unfold LineUnit.takeTemperature
    dsimp only
    split <;> exact ⟨rfl, rfl⟩
  obtain ⟨seq, refQ⟩ := fields temp
  by_cases cools : temp ≠ .hot ∧ u.mode = .overheat
  · obtain ⟨ht, mode⟩ := cools
    have alive : receiving (u.takeTemperature temp).mode = true := by rw [takeTemperature_cools ht mode]; rfl
    rw [changeUnit_wakes h (by rw [mode]; rfl) alive]
    obtain ⟨seq, refQ, ws, made⟩ := wakeReceivers_onUnit k (u.takeTemperature temp) [] s
    exact ⟨seq, refQ, ws, made, fun stays => stays.elim (fun g => absurd g ht) fun g => absurd mode g⟩
  · have quiet : receiving (u.takeTemperature temp).mode = true → receiving u.mode = true := by
      by_cases ht : temp = .hot
      · subst ht
        intro alive
        cases mode : u.mode with
        | active => rfl
        | standby => rfl
        | dormant => rw [takeTemperature_hot_off (.inl mode)] at alive; rwa [mode] at alive
        | overheat => rw [takeTemperature_hot_off (.inr mode)] at alive; rwa [mode] at alive
      · rw [takeTemperature_stays ht fun mode => cools ⟨ht, mode⟩]
        exact id
    refine ⟨u.seq, u.refQ, [], ?_, fun _ => ⟨rfl, rfl⟩⟩
    rw [changeUnit_quiet h quiet, ← seq, ← refQ]

/-! ### Supply (R3) -/

theorem takeSupply_eq (supply : Supply) (u : LineUnit) : u.takeSupply supply =
    if supply = .ok then { u with supply := .ok }
    else if u.mode = .dormant then { u with supply := .low, forced := true }
    else { u with supply := .low, mode := .dormant, forced := true, levels := .all 0, rouse := none } := by
  unfold LineUnit.takeSupply
  cases supply with
  | ok => rfl
  | low => cases u.mode <;> rfl

theorem takeSupply_receiving (supply : Supply) (u : LineUnit) (h : receiving (u.takeSupply supply).mode = true) :
    receiving u.mode = true := by
  rw [takeSupply_eq] at h
  split at h
  · exact h
  · split at h
    · exact h
    · exact nomatch h

/-! ### Uplink (R8) -/

theorem qualityGap_due {a b : BitVec 4} : 2 ≤ qualityGap a b ↔ a.toNat + 2 ≤ b.toNat ∨ b.toNat + 2 ≤ a.toNat := by
  unfold qualityGap
  omega

theorem noticeDue_iff {c : Chan} {old : UplinkRec} {carrier : Bool} {q : BitVec 4} : noticeDue u c old ⟨carrier, q⟩ = true ↔
    (u.mode = .active ∨ u.mode = .standby) ∧ (old.carrier ≠ carrier ∨
      ∃ ref, u.refQ.get c = some ref ∧ (ref.toNat + 2 ≤ q.toNat ∨ q.toNat + 2 ≤ ref.toNat)) := by
  unfold noticeDue
  rw [Bool.and_eq_true, receiving_iff, Bool.or_eq_true, bne_iff_ne]
  refine and_congr_right fun _ => or_congr_right ?_
  cases u.refQ.get c with
  | none => simp
  | some ref => simp only [decide_eq_true_eq, qualityGap_due, Option.some.injEq, exists_eq_left']

/-- R8: what the receivers at a position hear on a channel changes. -/
def heard (k : SegId) (c : Chan) (r : UplinkRec) (s : State) : State :=
  { s with plant.rf := vupd s.plant.rf k fun p => p.set c r }

theorem unitUplinkChange_none (c : Chan) (r : UplinkRec) (h : s.lineUnit k = none) : unitUplinkChange k c r s = heard k c r s := by
  simp only [unitUplinkChange, h, heard]

theorem unitUplinkChange_some (c : Chan) (r : UplinkRec) (h : s.lineUnit k = some u) : unitUplinkChange k c r s =
    if noticeDue u c (s.plant.rf[k].get c) r then sendNotice k c (heard k c r s) else heard k c r s := by
  simp only [unitUplinkChange, h, heard]

theorem heard_rf (k : SegId) (c : Chan) (r : UplinkRec) (s : State) : ((heard k c r s).plant.rf[k]).get c = r := by
  refine (congrArg (fun p => Pair.get p c) ((vupd_get s.plant.rf k k fun p => p.set c r).trans (if_pos rfl))).trans ?_
  exact (Pair_get_set ..).trans (if_pos rfl)

theorem sendNotice_eq {c : Chan} {r : UplinkRec} (h : s.lineUnit k = some u) (hr : (s.plant.rf[k]).get c = r) :
    sendNotice k c s = { s.modLineUnit k (fun u => { u with seq := u.seq + 1, refQ := u.refQ.set c (some r.quality) }) with
      wire := s.wire ++ [⟨.unit k .left, encodeNotice ⟨u.serial, u.seq + 1, c, r⟩⟩,
        ⟨.unit k .right, encodeNotice ⟨u.serial, u.seq + 1, c, r⟩⟩] } := by
  simp only [sendNotice, h, hr, State.transmit, List.append_assoc, List.cons_append, List.nil_append, modLineUnit_wire]

end

/-- Settles O45. -/
theorem unitChanges : Obligations.UnitChanges := by
  refine ⟨fun k s => ⟨downlink_none, fun u hu => ?_⟩, fun k serial temp supply s => ?_, fun k temp s => ⟨fun none => ?_, fun u hu => ?_⟩,
    fun k supply s => ⟨fun none => ?_, fun u hu => ?_⟩, fun k c carrier q s => ⟨fun none => ?_, fun u hu => ⟨fun quiet => ?_, fun due => ?_⟩⟩,
    fun i up s => rfl⟩
  · rw [downlink_some hu]
    unfold LineUnit.downlink
    refine ⟨fun h => ?_, fun h => ?_, fun h => ?_⟩
    · rw [h]
    · rw [h]
    · rcases h with h | h <;> rw [h]
  · obtain ⟨seq, refQ, ws, made⟩ := wakeReceivers_onUnit k (startUp serial temp supply) [] s
    rw [← unitSupplyApplied_eq] at made
    obtain ⟨same, others⟩ := onUnit_frame k { startUp serial temp supply with seq := seq, refQ := refQ } ws s
    exact ⟨_, _, congrArg Host.Outcome.next made, onUnit_lineUnit_self .., rfl, rfl, rfl, rfl, rfl, rfl, rfl, same, others⟩
  · exact congrArg Host.Outcome.next (changeUnit_none _ none)
  · obtain ⟨seq, refQ, ws, made, stays⟩ := changeTemperature_made (temp := temp) hu
    obtain ⟨same, others⟩ := onUnit_frame k { u.takeTemperature temp with seq := seq, refQ := refQ } ws s
    refine ⟨_, _, congrArg Host.Outcome.next made, onUnit_lineUnit_self .., same, others, ?_, ?_, ?_, ?_⟩
    · rintro ⟨rfl, mode⟩
      obtain ⟨rfl, rfl⟩ := stays (.inl rfl)
      rw [takeTemperature_hot_running mode]
    · rintro ⟨rfl, mode⟩
      obtain ⟨rfl, rfl⟩ := stays (.inl rfl)
      rw [takeTemperature_hot_off mode]
    · rintro ⟨ht, mode⟩
      obtain ⟨rfl, rfl⟩ := stays (.inr mode)
      rw [takeTemperature_stays ht mode]
    · rintro ⟨ht, mode⟩
      rw [takeTemperature_cools ht mode]
  · exact congrArg Host.Outcome.next (changeUnit_none _ none)
  · rw [← takeSupply_eq, modLineUnit_eq hu]
    exact congrArg Host.Outcome.next (changeUnit_quiet hu (takeSupply_receiving supply u))
  · exact congrArg Host.Outcome.next (unitUplinkChange_none c _ none)
  · refine congrArg Host.Outcome.next ((unitUplinkChange_some c ⟨carrier, q⟩ hu).trans (if_neg fun due => ?_))
    exact quiet (noticeDue_iff.mp due)
  · refine congrArg Host.Outcome.next ((unitUplinkChange_some c ⟨carrier, q⟩ hu).trans ((if_pos (noticeDue_iff.mpr due)).trans ?_))
    exact sendNotice_eq (s := heard k c ⟨carrier, q⟩ s) hu (heard_rf ..)

end Sys2Proof.Machine

/-! Surveys that pass a unit and directives that it takes (R4 to R8). -/

namespace Sys2Proof.Machine

section
variable {s : State} {k : SegId} {u v : LineUnit} {frame : List Byte}

/-! ### Surveys (R4, R5) -/

/-- R4: a HOLD survey. -/
def LineUnit.surveyed (hold : Bool) (u : LineUnit) : LineUnit := if hold then u.hold else u

theorem surveyed_passes {hold : Bool} (h : hold = false ∨ u.mode = .dormant ∨ u.mode = .overheat) : u.surveyed hold = u := by
  unfold LineUnit.surveyed
  rcases h with h | h
  · rw [h]
    rfl
  · split
    · unfold LineUnit.hold
      rcases h with h | h <;> rw [h]
    · rfl

theorem surveyed_active {hold : Bool} (h : hold = true) (hm : u.mode = .active) :
    u.surveyed hold = { u with mode := if u.temp = .hot then .overheat else .standby, levels := .all 0 } := by
  rw [LineUnit.surveyed, if_pos h, LineUnit.hold, hm]
  rfl

theorem surveyed_standby {hold : Bool} (h : hold = true) (hm : u.mode = .standby) :
    u.surveyed hold = { u with levels := .all 0 } := by
  rw [LineUnit.surveyed, if_pos h, LineUnit.hold, hm]
  rfl

theorem entryFor_eq (v : LineUnit) (rf : Pair UplinkRec) (m : Six Half) : entryFor v rf m =
    ⟨v.serial, v.mode, v.forced, some v.temp, v.supply,
      ⟨if v.mode = .active ∨ v.mode = .standby then some rf.t1 else none, if v.mode = .active ∨ v.mode = .standby then some rf.t2 else none⟩,
      if v.mode = .active then some m else none⟩ := by
  unfold entryFor
  by_cases alive : v.mode = .active ∨ v.mode = .standby
  · rw [if_pos alive, if_pos alive, if_pos (receiving_iff.mpr alive)]
    rfl
  · rw [if_neg alive, if_neg alive, if_neg fun h => alive (receiving_iff.mp h)]
    rfl

/-- R4: the survey as it leaves the unit. -/
def surveyFrames (p : PlantRec) (k : SegId) (f : SurveyFrame) (e : SurveyEntry) : List WireFrame :=
  match surveyExit p k f.origin with
  | some d => [⟨.unit k d, encodeSurvey { f with entries := f.entries ++ [e] }⟩]
  | none => []

theorem unitSurveyPass_ignored (m : Six Half) (h : s.lineUnit k = none ∨ decodeSurvey frame = none) : unitSurveyPass k frame m s = s := by
  unfold unitSurveyPass
  split
  · next hu hf => rcases h with h | h
                  · rw [h] at hu; exact nomatch hu
                  · rw [h] at hf; exact nomatch hf
  · rfl

theorem unitSurveyPass_eq {f : SurveyFrame} (m : Six Half) (hu : s.lineUnit k = some u) (hf : decodeSurvey frame = some f) :
    unitSurveyPass k frame m s = onUnit k (u.surveyed f.hold)
      (surveyFrames s.plant k f (entryFor (u.surveyed f.hold) (s.plant.rf[k]) m)) s := by
  simp only [unitSurveyPass, hu, hf, modLineUnit_eq hu, transmit_onUnit, surveyFrames, LineUnit.surveyed]
  cases surveyExit s.plant k f.origin <;> rfl

/-! ### Directives (R6, R7) -/

theorem unitDirectiveTaken_ignored (x : Side)
    (h : s.lineUnit k = none ∨ decodeDirective frame = none ∨ ∃ f, decodeDirective frame = some f ∧ f.hops ≠ 1) :
    unitDirectiveTaken k x frame s = s := by
  unfold unitDirectiveTaken
  split
  · next hu hf =>
    rcases h with h | h | ⟨f, h, far⟩
    · rw [h] at hu; exact nomatch hu
    · rw [h] at hf; exact nomatch hf
    · rw [h] at hf
      cases hf
      exact if_neg far
  · rfl

section
variable {f : DirectiveFrame} {x : Side} (hu : s.lineUnit k = some u) (hf : decodeDirective frame = some f) (hh : f.hops = 1)
include hu hf hh

theorem unitDirectiveTaken_eq : unitDirectiveTaken k x frame s =
    match (u.take s.plant.clock f).2 with
    | some o => (changeUnit k (fun _ => (u.take s.plant.clock f).1) s).transmit (.unit k x) (encodeReply ⟨f.serial, o⟩)
    | none => changeUnit k (fun _ => (u.take s.plant.clock f).1) s := by
  cases taken : (u.take s.plant.clock f).2 with
  | some o => simp only [unitDirectiveTaken, hu, hf, hh, if_true, taken]
  | none => simp only [unitDirectiveTaken, hu, hf, hh, if_true, taken]

/-- R6: a unit that takes a directive and whose receivers do not come alive sends the reply alone. -/
theorem unitDirectiveTaken_answers {o : ReplyOutcome} (ht : u.take s.plant.clock f = (v, some o))
    (quiet : receiving v.mode = true → receiving u.mode = true) :
    exec (.unitDirectiveTaken k x frame) s = .next
      { s.modLineUnit k (fun _ => v) with wire := s.wire ++ [⟨.unit k x, encodeReply ⟨f.serial, o⟩⟩] } := by
  refine congrArg Host.Outcome.next ((unitDirectiveTaken_eq hu hf hh).trans ?_)
  simp only [ht, changeUnit_quiet (f := fun _ => v) hu quiet, transmit_onUnit, modLineUnit_eq hu]
  rfl

/-- R7: a ROUSE that opens the window is not answered. -/
theorem unitDirectiveTaken_silent (ht : u.take s.plant.clock f = (v, none)) (quiet : receiving v.mode = true → receiving u.mode = true) :
    exec (.unitDirectiveTaken k x frame) s = .next (s.modLineUnit k fun _ => v) := by
  refine congrArg Host.Outcome.next ((unitDirectiveTaken_eq hu hf hh).trans ?_)
  simp only [ht, changeUnit_quiet (f := fun _ => v) hu quiet, modLineUnit_eq hu]

/-- R7, R8: a unit that a ROUSE wakes. -/
theorem unitDirectiveTaken_wakes {o : ReplyOutcome} (ht : u.take s.plant.clock f = (v, some o)) (dead : receiving u.mode = false)
    (alive : receiving v.mode = true) : exec (.unitDirectiveTaken k x frame) s = .next
      ((wakeReceivers k (onUnit k v [] s)).transmit (.unit k x) (encodeReply ⟨f.serial, o⟩)) := by
  refine congrArg Host.Outcome.next ((unitDirectiveTaken_eq hu hf hh).trans ?_)
  simp only [ht, changeUnit_wakes (f := fun _ => v) hu dead alive]

end

section
variable {f : DirectiveFrame} {now : Nat}

theorem take_wrongUnit (h : u.serial ≠ f.serial) : u.take now f = (u, some .wrongUnit) := if_pos h

variable (h : u.serial = f.serial)
include h

theorem take_own : u.take now f = match f.body with
    | .rouse => u.rouseAt now
    | .levels v =>
      if u.mode = .dormant then (u, some .asleep)
      else if Config.unitRating < sixSum v then (u, some .rating)
      else ({ u with levels := v }, some (.ack u.mode))
    | .mode t =>
      if u.mode = .dormant then (u, some .asleep)
      else if u.mode = .overheat ∨ u.mode = unitModeOf t then (u, some (.ack u.mode))
      else (u.enter t, some (.ack (u.enter t).mode)) := by
  refine (if_neg fun g => g h).trans ?_
  cases f.body <;> rfl

theorem take_asleep (hb : f.body ≠ .rouse) (hm : u.mode = .dormant) : u.take now f = (u, some .asleep) := by
  rw [take_own h]
  cases body : f.body with
  | rouse => exact absurd body hb
  | levels v => exact if_pos hm
  | mode t => exact if_pos hm

theorem take_levels {levels : Six Half} (hb : f.body = .levels levels) (hm : u.mode ≠ .dormant) : u.take now f =
    if 8000 < (levels.map (·.toNat)).total then (u, some .rating) else ({ u with levels := levels }, some (.ack u.mode)) := by
  rw [take_own h, hb]
  exact if_neg hm

theorem take_mode {m : TargetMode} (hb : f.body = .mode m) (hm : u.mode ≠ .dormant) : u.take now f =
    if u.mode = .overheat ∨ u.mode = unitModeOf m then (u, some (.ack u.mode)) else (u.enter m, some (.ack (u.enter m).mode)) := by
  rw [take_own h, hb]
  exact if_neg hm

theorem take_rouse (hb : f.body = .rouse) : u.take now f = u.rouseAt now := by
  rw [take_own h, hb]

end

/-! ### Rouse (R7) -/

theorem rouseAt_awake (now : Nat) (h : u.mode ≠ .dormant) : u.rouseAt now = (u, some (.ack u.mode)) := if_pos h

theorem rouseAt_opens {now : Nat} (h : u.mode = .dormant)
    (hr : u.rouse = none ∨ now - u.rouse.getD 0 < 5 ∨ 50 < now - u.rouse.getD 0) :
    u.rouseAt now = ({ u with rouse := some now }, none) := by
  refine (if_neg fun g => g h).trans ?_
  cases rouse : u.rouse with
  | none => rfl
  | some t =>
    rw [rouse] at hr
    exact if_pos (hr.resolve_left nofun)

theorem rouseAt_second {now : Nat} (h : u.mode = .dormant) (hr : u.rouse.isSome = true) (h5 : 5 ≤ now - u.rouse.getD 0)
    (h50 : now - u.rouse.getD 0 ≤ 50) : u.rouseAt now =
      if u.supply = .low then ({ u with rouse := none }, some .supplyLow)
      else (({ u with rouse := none, forced := false }).enterStandby, some (.ack .standby)) := by
  refine (if_neg fun g => g h).trans ?_
  cases rouse : u.rouse with
  | none => rw [rouse] at hr; exact nomatch hr
  | some t =>
    rw [rouse, Option.getD_some] at h5 h50
    refine (if_neg (by omega)).trans ?_
    cases u.supply <;> rfl

end

end Sys2Proof.Machine

/-! O46: the surveys and directives of a line unit, and the notices of one that wakes (R8). -/

namespace Sys2Proof.Machine

section
variable {s : State} {k : SegId} {u v : LineUnit} {frame : List Byte}

/-- R8: the notices of a unit that wakes are those of its carriers that are up, numbered in turn. -/
theorem wakeReceivers_eq (rf : Pair UplinkRec) (hrf : s.plant.rf[k] = rf) (ws : List WireFrame) (hv : receiving v.mode = true) :
    let up (c : Chan) : Byte := if (rf.get c).carrier then 1 else 0
    let notices (seq : Byte) (c : Chan) : List WireFrame :=
      if (rf.get c).carrier then
        [⟨.unit k .left, encodeNotice ⟨v.serial, seq, c, rf.get c⟩⟩, ⟨.unit k .right, encodeNotice ⟨v.serial, seq, c, rf.get c⟩⟩]
      else []
    let quality (c : Chan) : Option (BitVec 4) := if (rf.get c).carrier then some (rf.get c).quality else none
    wakeReceivers k (onUnit k v ws s) = onUnit k { v with
      seq := v.seq + up .t1 + up .t2, refQ := ⟨quality .t1, quality .t2⟩ }
      (ws ++ notices (v.seq + 1) .t1 ++ notices (v.seq + up .t1 + 1) .t2) s := by
  intro up notices quality
  have first : noticeIfUp k .t1 (onUnit k { v with refQ := .all none } ws s) =
      onUnit k { v with seq := v.seq + up .t1, refQ := ⟨quality .t1, none⟩ } (ws ++ notices (v.seq + 1) .t1) s := by
    rw [noticeIfUp_onUnit, hrf]
    dsimp only [up, quality, notices]
    split
    · rfl
    · rw [add_zero, List.append_nil]
      rfl
  have second (seq : Byte) (ws : List WireFrame) : noticeIfUp k .t2 (onUnit k { v with seq := seq, refQ := ⟨quality .t1, none⟩ } ws s) =
      onUnit k { v with seq := seq + up .t2, refQ := ⟨quality .t1, quality .t2⟩ } (ws ++ notices (seq + 1) .t2) s := by
    rw [noticeIfUp_onUnit, hrf]
    dsimp only [up, quality, notices]
    split
    · rfl
    · rw [add_zero, List.append_nil]
  have woken : wakeReceivers k (onUnit k v ws s) = noticeIfUp k .t2 (noticeIfUp k .t1 (onUnit k { v with refQ := .all none } ws s)) := by
    simp only [wakeReceivers, onUnit_lineUnit_self, modLineUnit_onUnit, hv, if_true]
  rw [woken, first, second]

theorem linkOut_onUnit {x : Side} {o : List Byte} {ws : List WireFrame} {f : LineUnit → LineUnit} (hu : s.lineUnit k = some u) :
    (onUnit k (f u) ws s).transmit (.unit k x) o =
      { s.modLineUnit k f with wire := s.wire ++ ws ++ [⟨.unit k x, o⟩] } := by
  rw [transmit_onUnit, modLineUnit_eq hu, List.append_assoc]
  rfl

/-- R4: the exits of a survey. -/
theorem surveyFrames_eq (p : PlantRec) (k : SegId) (f : SurveyFrame) (e : SurveyEntry) :
    let out (d : Side) : WireFrame := ⟨.unit k d, encodeSurvey { f with entries := f.entries ++ [e] }⟩
    (linkUp p k f.origin.other = true → surveyFrames p k f e = [out f.origin.other]) ∧
    (linkUp p k f.origin.other = false → linkUp p k f.origin = true → surveyFrames p k f e = [out f.origin]) ∧
    (linkUp p k f.origin.other = false → linkUp p k f.origin = false → surveyFrames p k f e = []) := by
  refine ⟨fun out => ?_, fun far near => ?_, fun far near => ?_⟩
  · simp only [surveyFrames, surveyExit, out, if_true]
  · simp only [surveyFrames, surveyExit, far, near, Bool.false_eq_true, if_false, if_true]
  · simp only [surveyFrames, surveyExit, far, near, Bool.false_eq_true, if_false]

end

/-- R4, R5: the surveys of a supplied unit. -/
theorem exec_unitSurveyPass {k : SegId} {frame : List Byte} {m : Six Half} {s : State} {u : LineUnit} {f : SurveyFrame}
    (hu : s.lineUnit k = some u) (hf : decodeSurvey frame = some f) :
    ∃ t v, exec (.unitSurveyPass k frame m) s = .next t ∧ t.lineUnit k = some v ∧
      { t with plant.units := s.plant.units, wire := s.wire } = s ∧ (∀ j, j ≠ k → t.lineUnit j = s.lineUnit j) ∧
      (f.hold = false ∨ u.mode = .dormant ∨ u.mode = .overheat → v = u) ∧
      (f.hold = true → u.mode = .active → v = { u with mode := if u.temp = .hot then .overheat else .standby, levels := .all 0 }) ∧
      (f.hold = true → u.mode = .standby → v = { u with levels := .all 0 }) ∧
      t.wire = s.wire ++ surveyFrames s.plant k f (entryFor v (s.plant.rf[k]) m) := by
  obtain ⟨same, others⟩ := onUnit_frame k (u.surveyed f.hold)
    (surveyFrames s.plant k f (entryFor (u.surveyed f.hold) (s.plant.rf[k]) m)) s
  exact ⟨_, _, congrArg Host.Outcome.next (unitSurveyPass_eq m hu hf), onUnit_lineUnit_self .., same, others, surveyed_passes,
    surveyed_active, surveyed_standby, rfl⟩

/-- R6, R7: the directives that a supplied unit takes. -/
theorem directives {k : SegId} {x : Side} {frame : List Byte} {s : State} {u : LineUnit} {f : DirectiveFrame}
    (hu : s.lineUnit k = some u) (hf : decodeDirective frame = some f) (hh : f.hops = 1) :
    let answers (v : LineUnit) (o : ReplyOutcome) : Prop := exec (.unitDirectiveTaken k x frame) s = .next
      { s.modLineUnit k (fun _ => v) with wire := s.wire ++ [⟨.unit k x, encodeReply ⟨f.serial, o⟩⟩] }
    let gap := s.plant.clock - u.rouse.getD 0
    (u.serial ≠ f.serial → answers u .wrongUnit) ∧
    (u.serial = f.serial → f.body ≠ .rouse → u.mode = .dormant → answers u .asleep) ∧
    (∀ v, u.serial = f.serial → f.body = .levels v → u.mode ≠ .dormant →
      (8000 < (v.map (·.toNat)).total → answers u .rating) ∧
      ((v.map (·.toNat)).total ≤ 8000 → answers { u with levels := v } (.ack u.mode))) ∧
    (∀ m, u.serial = f.serial → f.body = .mode m → u.mode ≠ .dormant →
      (u.mode = .overheat ∨ u.mode = unitModeOf m → answers u (.ack u.mode)) ∧
      (u.mode ≠ .overheat → u.mode ≠ unitModeOf m →
        (m = .active → answers { u with mode := .active } (.ack .active)) ∧
        (m = .standby → u.temp ≠ .hot → answers { u with mode := .standby, levels := .all 0 } (.ack .standby)) ∧
        (m = .standby → u.temp = .hot → answers { u with mode := .overheat, levels := .all 0 } (.ack .overheat)) ∧
        (m = .dormant → answers { u with mode := .dormant, forced := false, levels := .all 0, rouse := none } (.ack .dormant)))) ∧
    (u.serial = f.serial → f.body = .rouse → u.mode ≠ .dormant → answers u (.ack u.mode)) ∧
    (u.serial = f.serial → f.body = .rouse → u.mode = .dormant → (u.rouse = none ∨ gap < 5 ∨ 50 < gap) →
      exec (.unitDirectiveTaken k x frame) s = .next (s.modLineUnit k fun _ => { u with rouse := some s.plant.clock })) ∧
    (u.serial = f.serial → f.body = .rouse → u.mode = .dormant → u.rouse.isSome = true → 5 ≤ gap → gap ≤ 50 →
      (u.supply = .low → answers { u with rouse := none } .supplyLow) ∧
      (u.supply = .ok → u.temp = .hot →
        answers { u with mode := .overheat, forced := false, levels := .all 0, rouse := none } (.ack .standby)) ∧
      (u.supply = .ok → u.temp ≠ .hot →
        let rf := s.plant.rf[k]
        let up (c : Chan) : Byte := if (rf.get c).carrier then 1 else 0
        let notices (seq : Byte) (c : Chan) : List WireFrame :=
          if (rf.get c).carrier then
            [⟨.unit k .left, encodeNotice ⟨u.serial, seq, c, rf.get c⟩⟩, ⟨.unit k .right, encodeNotice ⟨u.serial, seq, c, rf.get c⟩⟩]
          else []
        let quality (c : Chan) : Option (BitVec 4) := if (rf.get c).carrier then some (rf.get c).quality else none
        exec (.unitDirectiveTaken k x frame) s = .next
          { s.modLineUnit k (fun u => { u with
              mode := .standby, forced := false, levels := .all 0, rouse := none, seq := u.seq + up .t1 + up .t2,
              refQ := ⟨quality .t1, quality .t2⟩ }) with
            wire := s.wire ++ notices (u.seq + 1) .t1 ++ notices (u.seq + up .t1 + 1) .t2 ++
              [⟨.unit k x, encodeReply ⟨f.serial, .ack .standby⟩⟩] })) := by
  refine ⟨fun other => ?_, fun own hb hm => ?_, fun levels own hb hm => ?_, fun m own hb hm => ?_, fun own hb hm => ?_,
    fun own hb hm opens => ?_, fun own hb hm isSome h5 h50 => ?_⟩
  · exact unitDirectiveTaken_answers hu hf hh (take_wrongUnit other) id
  · exact unitDirectiveTaken_answers hu hf hh (take_asleep own hb hm) id
  · have taken := take_levels (now := s.plant.clock) own hb hm
    refine ⟨fun exceeds => ?_, fun fits => ?_⟩
    · exact unitDirectiveTaken_answers hu hf hh (taken.trans (if_pos exceeds)) id
    · exact unitDirectiveTaken_answers hu hf hh (taken.trans (if_neg (Nat.not_lt.mpr fits))) id
  · have taken := take_mode (now := s.plant.clock) own hb hm
    refine ⟨fun stays => ?_, fun cool other => ?_⟩
    · exact unitDirectiveTaken_answers hu hf hh (taken.trans (if_pos stays)) id
    · have enters := taken.trans (if_neg (not_or.mpr ⟨cool, other⟩))
      have awake : receiving u.mode = true := by
        cases mode : u.mode with
        | dormant => exact absurd mode hm
        | overheat => exact absurd mode cool
        | _ => rfl
      refine ⟨?_, ?_, ?_, ?_⟩
      · rintro rfl
        exact unitDirectiveTaken_answers hu hf hh enters fun _ => awake
      · rintro rfl temp
        refine unitDirectiveTaken_answers hu hf hh (enters.trans ?_) fun _ => awake
        simp only [LineUnit.enter, LineUnit.enterStandby, if_neg temp]
        rfl
      · rintro rfl temp
        refine unitDirectiveTaken_answers hu hf hh (enters.trans ?_) fun _ => awake
        simp only [LineUnit.enter, LineUnit.enterStandby, if_pos temp]
        rfl
      · rintro rfl
        exact unitDirectiveTaken_answers hu hf hh enters fun _ => awake
  · exact unitDirectiveTaken_answers hu hf hh ((take_rouse own hb).trans (rouseAt_awake _ hm)) id
  · exact unitDirectiveTaken_silent hu hf hh ((take_rouse own hb).trans (rouseAt_opens hm opens)) id
  · have taken := (take_rouse (now := s.plant.clock) own hb).trans (rouseAt_second hm isSome h5 h50)
    refine ⟨fun low => ?_, fun ok hot => ?_, fun ok cool => ?_⟩
    · exact unitDirectiveTaken_answers hu hf hh (taken.trans (if_pos low)) id
    · refine unitDirectiveTaken_answers hu hf hh ((taken.trans (if_neg (by rw [ok]; nofun))).trans ?_) nofun
      simp only [LineUnit.enterStandby, if_pos hot]
      rfl
    · have wakes := taken.trans (if_neg (by rw [ok]; nofun))
      have standby : ({ u with rouse := none, forced := false } : LineUnit).enterStandby =
          { u with mode := .standby, forced := false, levels := .all 0, rouse := none } := by
        simp only [LineUnit.enterStandby, if_neg cool]
        rfl
      have dead : receiving u.mode = false := by rw [hm]; rfl
      refine (unitDirectiveTaken_wakes hu hf hh (wakes.trans (congrArg (·, _) standby)) dead rfl).trans ?_
      refine congrArg Host.Outcome.next ?_
      rw [wakeReceivers_eq _ rfl [] rfl]
      refine (linkOut_onUnit (f := fun u => { u with
        mode := .standby, forced := false, levels := .all 0, rouse := none,
        seq := u.seq + (if (s.plant.rf[k].get .t1).carrier then 1 else 0) + (if (s.plant.rf[k].get .t2).carrier then 1 else 0),
        refQ := _ }) hu).trans ?_
      rw [List.nil_append, ← List.append_assoc]

/-- Settles O46. -/
theorem unitFrames : Obligations.UnitFrames := by
  refine ⟨fun k frame m s => ⟨fun off => ?_, fun u f hu hf => ?_⟩, fun k x frame s => ⟨fun off => ?_, fun u f hu hf hh => ?_⟩⟩
  · exact congrArg Host.Outcome.next (unitSurveyPass_ignored m off)
  · obtain ⟨t, v, done, unit, same, others, passes, active, standby, wire⟩ := exec_unitSurveyPass (m := m) hu hf
    obtain ⟨far, near, none⟩ := surveyFrames_eq s.plant k f (entryFor v (s.plant.rf[k]) m)
    refine ⟨t, v, done, unit, same, others, passes, active, standby, ?_⟩
    rw [entryFor_eq] at *
    exact ⟨fun out => wire.trans (congrArg (s.wire ++ ·) (far out)), fun shut out => wire.trans (congrArg (s.wire ++ ·) (near shut out)),
      fun shut shut' => by rw [wire, none shut shut', List.append_nil]⟩
  · exact congrArg Host.Outcome.next (unitDirectiveTaken_ignored x off)
  · exact directives hu hf hh

end Sys2Proof.Machine

/-! The service loop's frames (R181): each is read back with every field, and one changed byte makes it no frame. -/

namespace Sys2Proof.Machine

open Laws.Period (be2_join be4_join)

/-! ### One changed byte -/

theorem byteSum_set {bytes : List Byte} {n : Nat} (b : Byte) (h : n < bytes.length) :
    byteSum (bytes.set n b) + bytes.getD n 0 = byteSum bytes + b := by
  induction bytes generalizing n with
  | nil => exact absurd h (Nat.not_lt_zero n)
  | cons x xs ih =>
    cases n with
    | zero =>
      rw [List.set_cons_zero, List.getD_cons_zero, byteSum, byteSum]
      ac_rfl
    | succ n =>
      have tail := ih (Nat.lt_of_succ_lt_succ h)
      rw [List.set_cons_succ, List.getD_cons_succ, byteSum, byteSum, BitVec.add_assoc, tail]
      ac_rfl

/-- R181: a frame with one changed byte no longer sums to 0. -/
theorem byteSum_set_ne_zero {bytes : List Byte} {n : Nat} {b : Byte} (h : n < bytes.length) (other : bytes.getD n 0 ≠ b)
    (sum : byteSum bytes = 0) : byteSum (bytes.set n b) ≠ 0 := by
  intro zero
  have moved := byteSum_set b h
  rw [zero, sum] at moved
  exact other (by simpa using moved)

section
variable {bytes : List Byte} (h : byteSum bytes ≠ 0)
include h

theorem check_fails (b : Bool) : ¬ (b && byteSum bytes == 0) = true := by
  rw [beq_false_of_ne h, Bool.and_false]
  exact Bool.false_ne_true

theorem decodeSurvey_damaged : decodeSurvey bytes = none := by
  unfold decodeSurvey
  split
  · exact if_neg (check_fails h _)
  · rfl

theorem decodeDirective_damaged : decodeDirective bytes = none := if_neg (check_fails h true)

theorem decodeReply_damaged : decodeReply bytes = none := by
  unfold decodeReply
  split
  · exact if_neg (check_fails h _)
  · rfl

theorem decodeNotice_damaged : decodeNotice bytes = none := by
  unfold decodeNotice
  split
  · exact if_neg (check_fails h _)
  · rfl

end

/-! ### Notices and replies -/

/-- A frame's bytes, check byte aside, sum with it to 0. -/
theorem byteSum_check (bs : List Byte) : byteSum (bs ++ [checkByte bs]) = 0 := byteSum_withCheck bs

/-- R181: the byte of a notice's channel, carrier and quality. -/
theorem noticeByte (c : Chan) (carrier : Bool) (q : BitVec 4) :
    let b : Byte := flagBit (c == .t2) 7 ||| flagBit carrier 4 ||| q.zeroExtend 8
    (if b.getLsbD 7 then Chan.t2 else .t1) = c ∧ b.getLsbD 4 = carrier ∧ b.extractLsb' 0 4 = q := by
  revert q
  cases c <;> cases carrier <;> decide

theorem decodeNotice_bytes (s3 s2 s1 s0 seq q : Byte) : decodeNotice (withCheck [0x04, s3, s2, s1, s0, seq, q]) =
    some ⟨s3 ++ s2 ++ s1 ++ s0, seq, if q.getLsbD 7 then .t2 else .t1, ⟨q.getLsbD 4, q.extractLsb' 0 4⟩⟩ := by
  have sum := byteSum_check [0x04, s3, s2, s1, s0, seq, q]
  simp only [List.cons_append, List.nil_append] at sum
  simp only [withCheck, List.cons_append, List.nil_append, decodeNotice, sum, BEq.rfl, Bool.and_self, if_true]

theorem decodeNotice_encodeNotice (f : NoticeFrame) : decodeNotice (encodeNotice f) = some f := by
  obtain ⟨chan, carrier, quality⟩ := noticeByte f.chan f.uplink.carrier f.uplink.quality
  refine (decodeNotice_bytes ..).trans ?_
  rw [chan, carrier, quality, be4_join]

theorem modeOfCode_modeCode (m : UnitMode) : modeOfCode (modeCode m).toNat = some m := by cases m <;> rfl

theorem targetOfCode_targetCode (t : TargetMode) : targetOfCode (targetCode t).toNat = some t := by cases t <;> rfl

theorem decodeReply_bytes (s3 s2 s1 s0 o m : Byte) : decodeReply (withCheck [0x03, s3, s2, s1, s0, o, m]) =
    match o.toNat with
    | 0 => (modeOfCode m.toNat).map fun m => ⟨s3 ++ s2 ++ s1 ++ s0, .ack m⟩
    | 1 => some ⟨s3 ++ s2 ++ s1 ++ s0, .asleep⟩
    | 2 => some ⟨s3 ++ s2 ++ s1 ++ s0, .rating⟩
    | 3 => some ⟨s3 ++ s2 ++ s1 ++ s0, .supplyLow⟩
    | 4 => some ⟨s3 ++ s2 ++ s1 ++ s0, .wrongUnit⟩
    | _ => none := by
  refine (if_pos (c := ((0x03 : Byte) == 0x03 && byteSum (withCheck [0x03, s3, s2, s1, s0, o, m]) == 0) = true) ?_).trans ?_
  · rw [byteSum_withCheck]
    rfl
  · rfl

theorem decodeReply_encodeReply (f : ReplyFrame) : decodeReply (encodeReply f) = some f := by
  obtain ⟨serial, outcome⟩ := f
  cases outcome with
  | ack m => exact (decodeReply_bytes ..).trans (by
    refine Eq.trans (b := (modeOfCode (modeCode m).toNat).map fun m => ⟨serial, .ack m⟩) ?_ (by rw [modeOfCode_modeCode]; rfl)
    rw [be4_join]
    rfl)
  | asleep => exact (decodeReply_bytes ..).trans (by rw [be4_join]; rfl)
  | rating => exact (decodeReply_bytes ..).trans (by rw [be4_join]; rfl)
  | supplyLow => exact (decodeReply_bytes ..).trans (by rw [be4_join]; rfl)
  | wrongUnit => exact (decodeReply_bytes ..).trans (by rw [be4_join]; rfl)

/-! ### Directives -/

theorem six_join (v : Six Half) : (⟨v.c1.extractLsb' 8 8 ++ v.c1.extractLsb' 0 8, v.c2.extractLsb' 8 8 ++ v.c2.extractLsb' 0 8,
    v.c3.extractLsb' 8 8 ++ v.c3.extractLsb' 0 8, v.c4.extractLsb' 8 8 ++ v.c4.extractLsb' 0 8,
    v.rs.extractLsb' 8 8 ++ v.rs.extractLsb' 0 8, v.bc.extractLsb' 8 8 ++ v.bc.extractLsb' 0 8⟩ : Six Half) = v := by
  simp only [be2_join]

theorem decodeDirective_encodeDirective (f : DirectiveFrame) : decodeDirective (encodeDirective f) = some f := by
  obtain ⟨hops, serial, body⟩ := f
  have sum : (byteSum (encodeDirective ⟨hops, serial, body⟩) == 0) = true := by
    rw [encodeDirective, byteSum_withCheck]
    rfl
  refine (if_pos sum).trans ?_
  cases body with
  | levels v => exact congrArg some (congrArg₂ (DirectiveFrame.mk hops) (be4_join serial) (congrArg DirectiveBody.levels (six_join v)))
  | mode t =>
    have joined := congrArg (fun serial => some (DirectiveFrame.mk hops serial (.mode t))) (be4_join serial)
    cases t <;> exact joined
  | rouse => exact congrArg some (congrArg (DirectiveFrame.mk hops · .rouse) (be4_join serial))

end Sys2Proof.Machine

/-! Surveys: the entries one after another (R5, R181). -/

namespace Sys2Proof.Machine

open Laws.Period (be2_join be4_join)

theorem decodeUplink_encodeUplink (u : Option UplinkRec) : decodeUplink (encodeUplink u) = u := by
  have bits (carrier : Bool) (q : BitVec 4) :
      let b : Byte := flagBit true 7 ||| flagBit carrier 4 ||| q.zeroExtend 8
      b.getLsbD 7 = true ∧ b.getLsbD 4 = carrier ∧ b.extractLsb' 0 4 = q := by
    revert q
    cases carrier <;> decide
  cases u with
  | none => rfl
  | some r =>
    obtain ⟨present, carrier, quality⟩ := bits r.carrier r.quality
    refine (if_pos present).trans ?_
    rw [encodeUplink, carrier, quality]

/-- R181: the byte of an entry's modes and flags. -/
def entryFlags (e : SurveyEntry) : Byte :=
  modeCode e.mode ||| flagBit e.forced 2 ||| (tempBits e.temp <<< 3) ||| (supplyCode e.supply <<< 5) |||
    flagBit e.measured.isSome 6

theorem entryFlags_bits (e : SurveyEntry) : modeOfCode ((entryFlags e).extractLsb' 0 2).toNat = some e.mode ∧
    (entryFlags e).getLsbD 2 = e.forced ∧ tempOfCode ((entryFlags e).extractLsb' 3 2).toNat = e.temp ∧
    (if (entryFlags e).getLsbD 5 then Supply.low else .ok) = e.supply ∧ (entryFlags e).getLsbD 6 = e.measured.isSome := by
  obtain ⟨serial, mode, forced, temp, supply, uplink, measured⟩ := e
  have flags (m : Bool) :
      let b : Byte := modeCode mode ||| flagBit forced 2 ||| (tempBits temp <<< 3) ||| (supplyCode supply <<< 5) ||| flagBit m 6
      modeOfCode (b.extractLsb' 0 2).toNat = some mode ∧ b.getLsbD 2 = forced ∧ tempOfCode (b.extractLsb' 3 2).toNat = temp ∧
        (if b.getLsbD 5 then Supply.low else .ok) = supply ∧ b.getLsbD 6 = m := by
    rcases temp with _ | temp
    · cases mode <;> cases forced <;> cases supply <;> cases m <;> decide
    · cases temp <;> cases mode <;> cases forced <;> cases supply <;> cases m <;> decide
  exact flags measured.isSome

theorem encodeEntry_eq (e : SurveyEntry) (rest : List Byte) : encodeEntry e ++ rest =
    e.serial.extractLsb' 24 8 :: e.serial.extractLsb' 16 8 :: e.serial.extractLsb' 8 8 :: e.serial.extractLsb' 0 8 ::
      entryFlags e :: encodeUplink e.uplink.t1 :: encodeUplink e.uplink.t2 :: ((e.measured.map encodeSix).getD [] ++ rest) := by
  obtain ⟨serial, mode, forced, temp, supply, uplink, measured⟩ := e
  cases measured <;> rfl

/-- R5: an entry at the front of the bytes is read back, with the bytes after it. -/
theorem decodeEntry_encodeEntry (e : SurveyEntry) (rest : List Byte) : decodeEntry (encodeEntry e ++ rest) = some (e, rest) := by
  obtain ⟨mode, forced, temp, supply, measured⟩ := entryFlags_bits e
  rw [encodeEntry_eq]
  cases levels : e.measured with
  | none =>
    rw [levels] at measured
    simp only [decodeEntry, mode, forced, temp, supply, measured, decodeUplink_encodeUplink, be4_join, Option.isSome_none,
      Bool.false_eq_true, if_false, Option.map_none, Option.getD_none, List.nil_append]
    rw [← levels]
  | some v =>
    rw [levels] at measured
    simp only [decodeEntry, mode, forced, temp, supply, measured, decodeUplink_encodeUplink, be4_join, Option.isSome_some,
      if_true, Option.map_some, Option.getD_some, encodeSix, be2, List.cons_append, List.nil_append, be2_join]
    rw [← levels]

theorem decodeEntries_encodeEntry (es : List SurveyEntry) : decodeEntries es.length (es.flatMap encodeEntry) = some es := by
  induction es with
  | nil => rfl
  | cons e es ih =>
    rw [List.flatMap_cons, List.length_cons, decodeEntries, decodeEntry_encodeEntry]
    simp only [ih, Option.map_some]

theorem decodeSurvey_bytes (flags round count x : Byte) (body : List Byte)
    (sum : byteSum (0x01 :: flags :: round :: count :: (body ++ [x])) = 0) :
    decodeSurvey (0x01 :: flags :: round :: count :: (body ++ [x])) =
      (decodeEntries count.toNat body).map fun es =>
        { origin := if flags.getLsbD 0 then .right else .left, hold := flags.getLsbD 1, round := round, entries := es } := by
  have dropped : (body ++ [x]).dropLast = body := List.dropLast_concat
  obtain ⟨a, as, cons⟩ := List.exists_cons_of_ne_nil (List.concat_ne_nil x body)
  rw [cons] at sum dropped ⊢
  simp only [decodeSurvey, sum, dropped, BEq.rfl, Bool.and_self, if_true]

theorem byteSum_encodeSurvey (f : SurveyFrame) : byteSum (encodeSurvey f) = 0 := byteSum_withCheck _

theorem decodeSurvey_encodeSurvey (f : SurveyFrame) (h : f.entries.length < 256) : decodeSurvey (encodeSurvey f) = some f := by
  have flags (origin : Side) (hold : Bool) :
      let b : Byte := flagBit (origin == .right) 0 ||| flagBit hold 1
      (if b.getLsbD 0 then Side.right else .left) = origin ∧ b.getLsbD 1 = hold := by
    cases origin <;> cases hold <;> decide
  obtain ⟨origin, hold⟩ := flags f.origin f.hold
  have count : (BitVec.ofNat 8 f.entries.length).toNat = f.entries.length := by
    rw [BitVec.toNat_ofNat, Nat.mod_eq_of_lt h]
  refine (decodeSurvey_bytes _ f.round _ _ (f.entries.flatMap encodeEntry) (byteSum_encodeSurvey f)).trans ?_
  rw [count, decodeEntries_encodeEntry, origin, hold]
  rfl

/-- Settles O49. -/
theorem loopFramesReadBack : Obligations.LoopFramesReadBack := by
  refine ⟨decodeSurvey_encodeSurvey, decodeDirective_encodeDirective, decodeReply_encodeReply, decodeNotice_encodeNotice,
    fun bytes n b hn other sum => ?_⟩
  have damaged := byteSum_set_ne_zero hn other sum
  exact ⟨decodeSurvey_damaged damaged, decodeDirective_damaged damaged, decodeReply_damaged damaged, decodeNotice_damaged damaged⟩

end Sys2Proof.Machine

/-! Passes of grant rounds (R48, R52, R54): what they make of a segment's entries and of its LEVELS slot. -/

namespace Sys2Proof.Machine

section
variable {s t u w w' : State} {k j : SegId}

/-! ### What a round reads and writes -/

/-- What a round on one segment reads of the rest of the part is the same in two states. -/
structure SameInputs (s t : State) : Prop where
  sys : t.sys = s.sys
  loop : t.loop = s.loop
  level : t.alloc.level = s.alloc.level
  capPct : t.alloc.capPct = s.alloc.capPct
  activity : t.alloc.activity = s.alloc.activity

theorem SameInputs.refl (s : State) : SameInputs s s := ⟨rfl, rfl, rfl, rfl, rfl⟩

theorem SameInputs.trans (h : SameInputs s t) (g : SameInputs t u) : SameInputs s u :=
  ⟨g.sys.trans h.sys, g.loop.trans h.loop, g.level.trans h.level, g.capPct.trans h.capPct, g.activity.trans h.activity⟩

theorem SameInputs.seg (h : SameInputs s t) (k : SegId) : t.seg k = s.seg k := by
  rw [State.seg, h.loop]
  rfl

theorem wantsOf_congr {al al' : AllocRec} (hl : al'.level = al.level) (hc : al'.capPct = al.capPct) (ha : al'.activity = al.activity)
    (eff : Nat) (a : AllocSeg) : wantsOf al' eff a = wantsOf al eff a := by
  unfold wantsOf
  rw [hl, hc, ha]

theorem SameInputs.wants (h : SameInputs s t) (eff : Nat) (a : AllocSeg) : wantsOf t.alloc eff a = wantsOf s.alloc eff a :=
  wantsOf_congr h.level h.capPct h.activity eff a

theorem SameInputs.roundResult (h : SameInputs s t) (ha : t.aseg k = s.aseg k) : t.roundResult k = s.roundResult k := by
  unfold State.roundResult
  rw [h.seg, ha, h.wants]

theorem runRound_sys (k : SegId) (s : State) : (runRound k s).sys = s.sys := (writes_runRound k).sys

theorem runRound_activity (k : SegId) (s : State) : (runRound k s).alloc.activity = s.alloc.activity := by
  by_cases h : s.sys.part = .run ∧ k.val < s.loop.n
  · have alloc : (runRound k s).alloc =
        (s.modAseg k fun a => { a.withGrants (s.roundResult k).1 with ptr := (s.roundResult k).2 }).alloc := by
      rw [runRound, if_pos h]
      exact (engineTakesGrants_alloc ..).trans (raiseGrantChanges_alloc ..)
    rw [alloc]
    rfl
  · rw [runRound, if_neg h]

theorem sameInputs_runRound (k : SegId) (s : State) : SameInputs s (runRound k s) :=
  ⟨runRound_sys k s, runRound_loop k s, (runRound_undisturbed k s).level, (runRound_undisturbed k s).cap, runRound_activity k s⟩

/-- R25: what the engine makes of a unit when the grants of its segment are handed over. -/
def UnitRec.takeGrants (r : SegRec) (g : Six Nat) (u : UnitRec) : UnitRec :=
  if !wantsAcquisition r && u.levelsClear && u.behind g then u.requestLevels else u

theorem engineTakesGrants_unit (k j : SegId) (s : State) : (engineTakesGrants k s).unit j =
    if k = j then (s.unit k).takeGrants (s.seg k) (s.aseg k).grants else s.unit j := by
  unfold engineTakesGrants UnitRec.takeGrants
  split
  · rw [modUnit_unit]
  · split
    · next e => rw [e]
    · rfl

/-- R52: a round hands the grants of its segment to the engine. -/
theorem runRound_unit (k j : SegId) (s : State) : (runRound k s).unit j =
    if s.sys.part = .run ∧ k.val < s.loop.n ∧ k = j then (s.unit k).takeGrants (s.seg k) (s.roundResult k).1 else s.unit j := by
  by_cases h : s.sys.part = .run ∧ k.val < s.loop.n
  · rw [runRound, if_pos h]
    have raised (g g' : Six Nat) (l : List Entry) (t : State) : Writes [.ports] t (l.foldl (raiseGrantChange k g g') t) :=
      .foldl (fun t e => writes_raiseGrantChange k g g' e) l t
    have before := (raised (s.aseg k).grants (s.roundResult k).1 Entry.every
      (s.modAseg k fun a => { a.withGrants (s.roundResult k).1 with ptr := (s.roundResult k).2 }))
    dsimp only
    rw [engineTakesGrants_unit]
    simp only [h, true_and]
    revert before
    generalize Entry.every.foldl (raiseGrantChange k (s.aseg k).grants (s.roundResult k).1)
      (s.modAseg k fun a => { a.withGrants (s.roundResult k).1 with ptr := (s.roundResult k).2 }) = v
    intro before
    have unit (j : SegId) : (refreshRelay v).unit j = s.unit j := by
      have engine : v.engine = s.engine := before.engine
      rw [State.unit, show (refreshRelay v).engine = v.engine from rfl, engine]
      rfl
    have seg : (refreshRelay v).seg k = s.seg k := by
      have loop : v.loop = s.loop := before.loop
      rw [State.seg, show (refreshRelay v).loop = v.loop from rfl, loop]
      rfl
    have grants : ((refreshRelay v).aseg k).grants = (s.roundResult k).1 := by
      have aseg : (refreshRelay v).aseg k = _ := (congrArg (fun a : AllocRec => a.segs[k]) before.alloc :)
      have made := modAseg_aseg s k k fun a => { a.withGrants (s.roundResult k).1 with ptr := (s.roundResult k).2 }
      rw [if_pos rfl] at made
      rw [aseg.trans made]
      rfl
    rw [unit, unit, seg, grants]
  · rw [runRound, if_neg h, if_neg fun g => h ⟨g.1, g.2.1⟩]

/-- What a round writes of a segment. -/
def roundView (s : State) (k : SegId) : AllocSeg × UnitRec := (s.aseg k, s.unit k)

theorem runRound_view_other (h : k ≠ j) (s : State) : roundView (runRound k s) j = roundView s j := by
  rw [roundView, runRound_aseg, runRound_unit, if_neg fun g => h g.2.2, if_neg fun g => h g.2.2]
  rfl

theorem SameInputs.runRound_view (h : SameInputs s t) (hv : roundView t k = roundView s k) :
    roundView (runRound k t) k = roundView (runRound k s) k := by
  have aseg : t.aseg k = s.aseg k := congrArg Prod.fst hv
  have unit : t.unit k = s.unit k := congrArg Prod.snd hv
  simp only [roundView, runRound_aseg, runRound_unit, h.roundResult aseg, h.sys, h.loop, h.seg, aseg, unit]

/-! ### A pass of rounds -/

/-- In the segments 1 to N that `P` names there has been a round on the inputs of `w`. -/
structure Rounds (w u : State) (P : SegId → Prop) : Prop where
  inputs : SameInputs w u
  named : ∀ j : SegId, j.val < w.loop.n → P j → roundView u j = roundView (runRound j w) j
  others : ∀ j : SegId, ¬ (j.val < w.loop.n ∧ P j) → roundView u j = roundView w j

/-- R54: a pass that runs a round on the segments whose own part of the state asks for one. -/
theorem forSegs_rounds {c : SegId → State → Prop} [∀ k t, Decidable (c k t)] {P : SegId → Prop}
    (hc : ∀ k t, SameInputs w t → roundView t k = roundView w k → (c k t ↔ P k)) :
    Rounds w (forSegs (fun k t => if c k t then runRound k t else t) w) P := by
  have keeps (k : SegId) (t : State) : SameInputs t (if c k t then runRound k t else t) := by
    split
    · exact sameInputs_runRound k t
    · exact .refl t
  have n (k : SegId) (t : State) : (if c k t then runRound k t else t).loop.n = t.loop.n := by rw [(keeps k t).loop]
  have other (k j : SegId) (t : State) (e : k ≠ j) : roundView (if c k t then runRound k t else t) j = roundView t j := by
    split
    · exact runRound_view_other e t
    · rfl
  have passed {j : SegId} (h : j.val < w.loop.n) := forSegs_view (view := roundView) (R := SameInputs) .refl
    (fun _ _ _ => .trans) keeps n other h
  refine ⟨forSegs_rel .refl (fun _ _ _ => .trans) keeps w, fun j hj named => ?_, fun j out => ?_⟩
  · obtain ⟨t, inputs, view, -, result⟩ := passed hj
    rw [result, if_pos ((hc j t inputs view).mpr named), inputs.runRound_view view]
  · by_cases hj : j.val < w.loop.n
    · obtain ⟨t, inputs, view, -, result⟩ := passed hj
      rw [result, if_neg fun asked => out ⟨hj, (hc j t inputs view).mp asked⟩, view]
    · exact forSegs_view_beyond n other (Nat.le_of_not_lt hj)

theorem Rounds.aseg (h : Rounds w u P) : RoundsAt w u P := by
  refine fun k => ⟨fun ⟨named, run, inside⟩ => ?_, fun out => ?_⟩
  · have view : u.aseg k = (runRound k w).aseg k := congrArg Prod.fst (h.named k inside named)
    rw [view, runRound_aseg, if_pos ⟨run, inside, rfl⟩]
  · by_cases in_ : k.val < w.loop.n ∧ P k
    · have view : u.aseg k = (runRound k w).aseg k := congrArg Prod.fst (h.named k in_.1 in_.2)
      rw [view, runRound_aseg, if_neg fun g => out ⟨in_.2, g.1, in_.1⟩]
    · exact congrArg Prod.fst (h.others k in_)

/-- R54, as `roundsWhereChanged` runs it. -/
theorem roundsWhereChanged_rounds (old : AllocRec) (w : State) : Rounds w (roundsWhereChanged old w) (WantsChanged old w) := by
  have pass := forSegs_rounds (w := w) (P := WantsChanged old w)
    (c := fun k t => ¬ wantsOf old (t.seg k).eff old.segs[k] = wantsOf t.alloc (t.seg k).eff (t.aseg k)) fun k t inputs view => by
      have aseg : t.aseg k = w.aseg k := congrArg Prod.fst view
      rw [inputs.seg, inputs.wants, aseg]
      rfl
  have same : roundsWhereChanged old w = forSegs (fun k t =>
      if ¬ wantsOf old (t.seg k).eff old.segs[k] = wantsOf t.alloc (t.seg k).eff (t.aseg k) then runRound k t else t) w := by
    unfold roundsWhereChanged
    refine congrArg (forSegs · w) (funext fun k => funext fun t => ?_)
    rw [ite_not]
  rw [same]
  exact pass

/-- Rounds are about the allocator, the loop record and the part's state alone. -/
theorem RoundsAt.carry {P Q : SegId → Prop} (h : RoundsAt w u P) (hs : w'.sys = w.sys) (hl : w'.loop = w.loop)
    (ha : w'.alloc = w.alloc) (hu : t.alloc = u.alloc) (hp : ∀ k, k.val < w.loop.n → (P k ↔ Q k)) : RoundsAt w' t Q := by
  intro k
  obtain ⟨named, others⟩ := h k
  have result : w'.roundResult k = w.roundResult k := by
    unfold State.roundResult State.seg State.aseg
    rw [hl, ha]
  have aseg : w'.aseg k = w.aseg k := by
    unfold State.aseg
    rw [ha]
  have aseg' : t.aseg k = u.aseg k := by
    unfold State.aseg
    rw [hu]
  rw [result, aseg, aseg', hs, hl]
  refine ⟨fun ⟨hq, run, inside⟩ => named ⟨(hp k inside).mpr hq, run, inside⟩, fun out => others fun ⟨p, run, inside⟩ => ?_⟩
  exact out ⟨(hp k inside).mp p, run, inside⟩

end

end Sys2Proof.Machine

/-! Writes of the allocator's settings (R40 to R42, R54): the rounds they cause and the requests that those leave. -/

namespace Sys2Proof.Machine

section
variable {s t w : State} {segs : SegSet} {f : AllocSeg → AllocSeg}

theorem Writes.eq_alloc (h : Writes [.alloc] s t) : t = { s with alloc := t.alloc } := by
  have sys := h.sys
  have ports := h.ports
  have loop := h.loop
  have engine := h.engine
  have meter := h.meter
  have talk := h.talk
  have store := h.store
  have play := h.play
  have brk := h.brk
  have inc := h.inc
  have plant := h.plant
  have wire := h.wire
  have mark : t.lastMark = s.lastMark := h.same .lastMark (by decide)
  have draws : t.draws = s.draws := h.same .draws (by decide)
  have pending : t.pending = s.pending := h.same .pending (by decide)
  cases s
  cases t
  simp only at sys ports loop engine meter talk store play brk inc plant wire mark draws pending
  subst sys ports loop engine meter talk store play brk inc plant wire mark draws pending
  rfl

theorem writeSet_aseg (m : SegSet) (f : AllocSeg → AllocSeg) (s : State) (k : SegId) :
    (writeSet m f s).aseg k = if inSet m k then f (s.aseg k) else s.aseg k := by
  simp only [writeSet, State.aseg, Fin.getElem_fin, Vector.getElem_ofFn]

/-- A write in every segment of a set is one write of the entries. -/
theorem forSet_modAseg (h : setOk s segs = true) : forSet segs (fun k t => t.modAseg k f) s = writeSet segs f s := by
  have writes : Writes [.alloc] s (forSet segs (fun k t => t.modAseg k f) s) := .forSet (fun k t => writes_alloc _) s
  have scalars := forSet_rel (R := fun s t : State => { t.alloc with segs := s.alloc.segs } = s.alloc)
    (fun _ => rfl) (fun _ _ _ a b => by rw [← b] at a; exact a) (fun k t => rfl) segs s (f := fun k t => t.modAseg k f)
  have entries (k : SegId) : (forSet segs (fun k t => t.modAseg k f) s).aseg k = (writeSet segs f s).aseg k := by
    have view := forSet_view_of_map (view := State.aseg) (f := fun k t => t.modAseg k f) (g := fun _ => f) (fun _ _ => rfl)
      (fun k j t => modAseg_aseg ..) segs s k
    rw [view, writeSet_aseg]
    by_cases inside : inSet segs k = true
    · rw [if_pos ⟨lt_of_setOk h inside, inside⟩, if_pos inside]
    · rw [if_neg fun g => inside g.2, if_neg inside]
  have vectors : (forSet segs (fun k t => t.modAseg k f) s).alloc.segs = (writeSet segs f s).alloc.segs :=
    Vector.ext fun i hi => entries ⟨i, hi⟩
  rw [writes.eq_alloc]
  generalize (forSet segs (fun k t => t.modAseg k f) s).alloc = al at scalars vectors
  have alloc : al = (writeSet segs f s).alloc := by
    obtain ⟨segs', cap, activity, level⟩ := al
    simp only at vectors
    subst vectors
    exact (congrArg (fun a : AllocRec => { a with segs := (writeSet segs f s).alloc.segs }) scalars :)
  rw [alloc]
  rfl

theorem writeEntries_eq (h : setOk s segs = true) : writeEntries segs f s = roundsWhereChanged s.alloc (writeSet segs f s) := by
  rw [writeEntries, forSet_modAseg h]

theorem writes_writeSet : Writes [.alloc] s (writeSet segs f s) := writes_alloc _

theorem writes_served (i : Instr) (st : Status) (out : List Byte) (s : State) : Writes [.ports] s (served i st out s) := by
  unfold served
  split
  · exact (writes_modPort ..).trans (writes_hold ..)
  · exact .refl s

/-- R25: when the grants of a segment queue a LEVELS. -/
theorem takeGrants_levels {u : UnitRec} (r : SegRec) (g : Six Nat) (h : u.levelsSlot = .empty) :
    (u.takeGrants r g).levelsSlot = .levels ↔ (r.acquired = true ∨ r.link ≠ .present) ∧ u.marked = false ∧ u.levelsClear = true ∧
      u.behind g = true := by
  have asks : (!wantsAcquisition r && u.levelsClear && u.behind g) = true ↔
      (r.acquired = true ∨ r.link ≠ .present) ∧ u.levelsClear = true ∧ u.behind g = true := by
    unfold wantsAcquisition
    simp only [Bool.and_eq_true, Bool.not_and, Bool.not_not, Bool.or_eq_true, Bool.not_eq_true', decide_eq_false_iff_not, and_assoc]
    exact and_congr_left fun _ => or_comm
  unfold UnitRec.takeGrants
  by_cases asked : (!wantsAcquisition r && u.levelsClear && u.behind g) = true
  · obtain ⟨ready, clear, behind⟩ := asks.mp asked
    rw [if_pos asked]
    unfold UnitRec.requestLevels
    cases marked : u.marked with
    | true => simp [h]
    | false => simp [h, ready, clear, behind]
  · rw [if_neg asked, h]
    refine ⟨nofun, fun ⟨ready, _, rest⟩ => absurd (asks.mpr ⟨ready, rest⟩) asked⟩

/-- R25, R54: the LEVELS requests that a pass of rounds leaves. -/
theorem Rounds.levels {P : SegId → Prop} {u : State} (h : Rounds w u P) {k : SegId} (he : (w.unit k).levelsSlot = .empty) :
    (u.unit k).levelsSlot = .levels ↔ k.val < w.loop.n ∧ w.sys.part = .run ∧ P k ∧
      ((w.seg k).acquired = true ∨ (w.seg k).link ≠ .present) ∧ (w.unit k).marked = false ∧ (w.unit k).levelsClear = true ∧
      (w.unit k).behind (u.aseg k).grants = true := by
  by_cases in_ : k.val < w.loop.n ∧ P k
  · have unit : u.unit k = (runRound k w).unit k := congrArg Prod.snd (h.named k in_.1 in_.2)
    have aseg : u.aseg k = (runRound k w).aseg k := congrArg Prod.fst (h.named k in_.1 in_.2)
    by_cases run : w.sys.part = .run
    · rw [unit, aseg, runRound_unit, runRound_aseg, if_pos ⟨run, in_.1, rfl⟩, if_pos ⟨run, in_.1, rfl⟩, takeGrants_levels _ _ he]
      exact ⟨fun rest => ⟨in_.1, run, in_.2, rest⟩, fun ⟨_, _, _, rest⟩ => rest⟩
    · rw [unit, runRound_unit, if_neg fun g => run g.1, he]
      exact ⟨nofun, fun g => absurd g.2.1 run⟩
  · have unit : u.unit k = w.unit k := congrArg Prod.snd (h.others k in_)
    rw [unit, he]
    exact ⟨nofun, fun g => absurd ⟨g.1, g.2.2.1⟩ in_⟩

end

end Sys2Proof.Machine

/-! SET FLOORS, SET INCIDENT FLOORS, SET BROADCAST REQUEST and SET RESCUE REQUEST: one argument for the four. -/

namespace Sys2Proof.Machine

section
variable {i : Instr} {p : Port} {code : Byte} {bytes : List Byte} {body : State → State × Reply} {s : State} {segs : SegSet}
  {f : AllocSeg → AllocSeg}

/-- What an accepted change `w` of the allocator's settings comes to (R54, R25). -/
def SettingsTaken (i : Instr) (s w : State) : Prop :=
  ∃ t, exec i s = .next t ∧ Undisturbed w t ∧ t.loop = s.loop ∧ RoundsAt w t (WantsChanged s.alloc w) ∧
    ∀ k, (s.unit k).levelsSlot = .empty → ((t.unit k).levelsSlot = .levels ↔
      k.val < s.loop.n ∧ s.sys.part = .run ∧ WantsChanged s.alloc w k ∧ ((s.seg k).acquired = true ∨ (s.seg k).link ≠ .present) ∧
      (s.unit k).marked = false ∧ (s.unit k).levelsClear = true ∧ (s.unit k).behind (t.aseg k).grants = true)

/-- A state, and what rounds from `u` make of it, seen from a state with the same inputs. -/
theorem wantsChanged_congr {old : AllocRec} {w w' : State} (hl : w'.loop = w.loop) (ha : w'.alloc = w.alloc) (k : SegId) :
    WantsChanged old w' k ↔ WantsChanged old w k := by
  unfold WantsChanged State.seg State.aseg
  rw [hl, ha]

theorem settingsTaken {w : State} (hf : commandFields i = some (p, code, bytes)) (he : exec i s = .next (portCommand i body s))
    (hr : Ready i s) (hw : Writes [.alloc] s w)
    (hb : body (s.modPort p fun q => q.shift (commandFrame code bytes)) =
      accept (settle (s.modPort p fun q => q.shift (commandFrame code bytes))
        (roundsWhereChanged s.alloc (w.modPort p fun q => q.shift (commandFrame code bytes))))) :
    SettingsTaken i s (served i .ok [] w) := by
  have frame : Writes [.ports] w (w.modPort p fun q => q.shift (commandFrame code bytes)) := writes_modPort ..
  have quiet := (roundsWhereChanged_undisturbed s.alloc (w.modPort p fun q => q.shift (commandFrame code bytes))).trans
    (settle_undisturbed (s.modPort p fun q => q.shift (commandFrame code bytes)) _)
  obtain ⟨done, undisturbed⟩ := served_of_body (w := w) hf he hr hb quiet
  refine ⟨_, done, undisturbed, ?_⟩
  have answered : Writes [.ports] w (served i .ok [] w) := writes_served ..
  clear done undisturbed quiet hb
  generalize s.modPort p _ = v
  generalize w.modPort p _ = x at frame
  have written : Writes [.ports, .alloc] s x := (hw.mono (by decide)).trans (frame.mono (by decide))
  have rounds := roundsWhereChanged_rounds s.alloc x
  have settled : Writes ownerFields (roundsWhereChanged s.alloc x) (settle v (roundsWhereChanged s.alloc x)) := writes_settle v
  revert rounds settled
  generalize roundsWhereChanged s.alloc x = u
  intro rounds settled
  generalize settle v u = t at settled
  generalize served i .ok [] w = w' at answered
  have changed (k : SegId) : WantsChanged s.alloc w' k ↔ WantsChanged s.alloc x k :=
    wantsChanged_congr (answered.loop.trans frame.loop.symm) (answered.alloc.trans frame.alloc.symm) k
  have ended := writes_hold (s := t) p code ⟨.ok, []⟩
  generalize t.hold p code ⟨.ok, []⟩ = y at ended
  have final : Writes [.ports, .play, .brk] u y := (settled.mono (by decide)).trans (ended.mono (by decide))
  refine ⟨final.loop.trans (rounds.inputs.loop.trans written.loop), ?_, fun k empty => ?_⟩
  · exact rounds.aseg.carry (answered.sys.trans frame.sys.symm) (answered.loop.trans frame.loop.symm)
      (answered.alloc.trans frame.alloc.symm) final.alloc fun k _ => (changed k).symm
  · have unit : y.unit k = u.unit k := by
      rw [State.unit, final.engine]
      rfl
    have before : x.unit k = s.unit k := by
      rw [State.unit, written.engine]
      rfl
    have seg : x.seg k = s.seg k := by
      rw [State.seg, written.loop]
      rfl
    have aseg : y.aseg k = u.aseg k := by
      rw [State.aseg, final.alloc]
      rfl
    have levels := rounds.levels (k := k) (by rw [before]; exact empty)
    rw [before, seg, written.loop, written.sys] at levels
    rw [unit, aseg, changed]
    exact levels

theorem writeSet_modPort (m : SegSet) (f : AllocSeg → AllocSeg) (p : Port) (g : PortRec → PortRec) (s : State) :
    (writeSet m f s).modPort p g = writeSet m f (s.modPort p g) := by
  simp only [writeSet, State.modPort]

theorem powerOk_iff {h : Half} : powerOk h = true ↔ h.toNat ≤ 8000 := decide_eq_true_iff

theorem setOk_congr {u : State} (h : u.loop = s.loop) (m : SegSet) : setOk u m = setOk s m := by
  unfold setOk
  rw [h]

theorem all_powerOk_iff {l : List Half} : l.all powerOk = true ↔ ∀ v ∈ l, v.toNat ≤ 8000 := by
  simp only [List.all_eq_true, powerOk_iff]

/-- The operands of a write are refused where the set or a power is out of range. -/
theorem refused_of_bad {values : List Half} (h : setOk s segs = false ∨ ∃ v ∈ values, 8000 < v.toNat) :
    ¬ (setOk s segs && values.all powerOk) = true := by
  rw [Bool.and_eq_true, all_powerOk_iff]
  rintro ⟨ok, all⟩
  rcases h with h | ⟨v, mem, big⟩
  · rw [h] at ok
    exact nomatch ok
  · exact absurd (all v mem) (by omega)

/-- A command that writes `f` in the entries of a set, where set and powers are in range. -/
theorem write_of_body {values : List Half} (hf : commandFields i = some (p, code, bytes))
    (he : exec i s = .next (portCommand i body s)) (hr : Ready i s)
    (hb : ∀ u, body u = if setOk u segs && values.all powerOk then accept (settle u (writeEntries segs f u)) else refuse .badArgument u) :
    (setOk s segs = false ∨ (∃ v ∈ values, 8000 < v.toNat) → Refuses i s .badArgument) ∧
      (setOk s segs = true → (∀ v ∈ values, v.toNat ≤ 8000) → SettingsTaken i s (served i .ok [] (writeSet segs f s))) := by
  refine ⟨fun bad => refuses_of_body hf he hr fun u hu => ?_, fun ok all => settingsTaken hf he hr writes_writeSet ?_⟩
  · rw [hb, setOk_congr (s := s) (by rw [hu]; rfl)]
    exact if_neg (refused_of_bad bad)
  · have ok' : setOk (s.modPort p fun q => q.shift (commandFrame code bytes)) segs = true := ok
    rw [writeSet_modPort, hb, if_pos (by rw [ok', all_powerOk_iff.mpr all]; rfl), writeEntries_eq ok']
    rfl

end

/-- Settles O19. -/
theorem allocationWrites : Obligations.AllocationWrites := by
  unfold Obligations.AllocationWrites
  intro writes
  refine ⟨fun p segs f s hr => ?_, fun p segs rs bc s hr => ?_, fun p segs q s hr => ?_, fun p segs x y s hr => ?_⟩
  · exact write_of_body rfl rfl hr fun u => rfl
  · refine write_of_body rfl rfl hr fun u => ?_
    simp only [setIncidentFloors, List.all_cons, List.all_nil, Bool.and_true, Bool.and_assoc]
  · refine write_of_body rfl rfl hr fun u => ?_
    simp only [setBroadcastRequest, List.all_cons, List.all_nil, Bool.and_true]
  · refine write_of_body rfl rfl hr fun u => ?_
    simp only [setRescueRequest, List.all_cons, List.all_nil, Bool.and_true, Bool.and_assoc]

end Sys2Proof.Machine

/-! SET CARRIER CAP and SET CARRIER REQUEST (R43, R44, R58): a request resumes a suspended entry, with its round in any case. -/

namespace Sys2Proof.Machine

section
variable {s t u : State} {c : Carrier} {q : Nat} {k j : SegId}

/-! ### SET CARRIER CAP -/

theorem setCarrierCap_refused {percent : Byte} (h : 100 < percent.toNat) : setCarrierCap percent s = refuse .badArgument s :=
  if_neg (by omega)

theorem setCarrierCap_accepted {percent : Byte} (h : percent.toNat ≤ 100) : setCarrierCap percent s =
    accept (settle s (roundsWhereChanged s.alloc { s with alloc.capPct := percent.toNat })) := if_pos h

/-! ### One segment of a SET CARRIER REQUEST -/

/-- R43, R58: the entry with its new request. -/
def AllocSeg.requested (c : Carrier) (q : Nat) (a : AllocSeg) : AllocSeg :=
  { a with c := a.c.set c { a.c.get c with request := q, suspended := false } }

/-- R58, R54: the request of a segment asks for a round. -/
def RoundAsked (c : Carrier) (q : Nat) (s : State) (k : SegId) : Prop :=
  ((s.aseg k).c.get c).suspended = true ∨
    wantsOf s.alloc (s.seg k).eff (s.aseg k) ≠ wantsOf s.alloc (s.seg k).eff ((s.aseg k).requested c q)

theorem wantsOf_segs (al : AllocRec) (v : Vector AllocSeg 24) (eff : Nat) (a : AllocSeg) :
    wantsOf { al with segs := v } eff a = wantsOf al eff a := rfl

/-- R58: a suspended entry is resumed, its count of intervals at 0, with an event. -/
def resumeEntry (c : Carrier) (q : Nat) (k : SegId) (s : State) : State :=
  ((s.modAseg k (.requested c q)).modMeter k c.entry fun x => { x with count := 0 }).raise toOC .entryResumed
    (entrySubject k c.entry) (BitVec.ofNat 16 q) 0

theorem requestCarrier_eq (c : Carrier) (q : Nat) (k : SegId) (s : State) : requestCarrier c q k s =
    if ((s.aseg k).c.get c).suspended then runRound k (resumeEntry c q k s)
    else if wantsOf s.alloc (s.seg k).eff (s.aseg k) = wantsOf s.alloc (s.seg k).eff ((s.aseg k).requested c q) then
      s.modAseg k (.requested c q)
    else runRound k (s.modAseg k (.requested c q)) := by
  unfold requestCarrier writeEntry
  have aseg : (s.modAseg k (.requested c q)).aseg k = (s.aseg k).requested c q := by rw [modAseg_aseg, if_pos rfl]
  refine if_congr Iff.rfl rfl ?_
  dsimp only
  have wants : wantsOf (s.modAseg k (.requested c q)).alloc (s.seg k).eff ((s.modAseg k (.requested c q)).aseg k) =
      wantsOf s.alloc (s.seg k).eff ((s.aseg k).requested c q) := by
    rw [aseg]
    rfl
  rw [← wants]
  rfl

theorem runRound_aseg_congr (hs : t.sys = s.sys) (hl : t.loop = s.loop) (ha : t.alloc = s.alloc) (k j : SegId) :
    (runRound k t).aseg j = (runRound k s).aseg j := by
  rw [runRound_aseg, runRound_aseg]
  unfold State.roundResult State.aseg State.seg
  rw [hs, hl, ha]

theorem writes_resumeEntry : Writes [.alloc, .meter, .ports] s (resumeEntry c q k s) :=
  (((writes_alloc _).mono (by decide)).trans ((writes_meter _).mono (by decide))).trans ((writes_raise ..).mono (by decide))

theorem resumeEntry_alloc (c : Carrier) (q : Nat) (k : SegId) (s : State) :
    (resumeEntry c q k s).alloc = (s.modAseg k (.requested c q)).alloc := (writes_raise ..).alloc

theorem resumeEntry_aseg (c : Carrier) (q : Nat) (k j : SegId) (s : State) : (runRound k (resumeEntry c q k s)).aseg j =
    (runRound k (s.modAseg k (.requested c q))).aseg j := by
  have sys : (resumeEntry c q k s).sys = (s.modAseg k (.requested c q)).sys := writes_resumeEntry.sys
  have loop : (resumeEntry c q k s).loop = (s.modAseg k (.requested c q)).loop := writes_resumeEntry.loop
  exact runRound_aseg_congr sys loop (resumeEntry_alloc ..) k j

/-- What a request makes of the entries. -/
theorem requestCarrier_aseg (c : Carrier) (q : Nat) (k j : SegId) (s : State) [Decidable (RoundAsked c q s k)] :
    (requestCarrier c q k s).aseg j =
      if RoundAsked c q s k then (runRound k (s.modAseg k (.requested c q))).aseg j else (s.modAseg k (.requested c q)).aseg j := by
  rw [requestCarrier_eq]
  by_cases suspended : ((s.aseg k).c.get c).suspended = true
  · rw [if_pos suspended, if_pos (.inl suspended), resumeEntry_aseg]
  · rw [if_neg suspended]
    by_cases same : wantsOf s.alloc (s.seg k).eff (s.aseg k) = wantsOf s.alloc (s.seg k).eff ((s.aseg k).requested c q)
    · rw [if_pos same, if_neg fun g => g.elim suspended fun other => other same]
    · rw [if_neg same, if_pos (.inr same)]

theorem requestCarrier_meters (c : Carrier) (q : Nat) (k j : SegId) (s : State) : (requestCarrier c q k s).meters j =
    if k = j ∧ ((s.aseg k).c.get c).suspended = true then
      (s.meters k).set c.entry { (s.meters k).get c.entry with count := 0 }
    else s.meters j := by
  have round (t : State) : (runRound k t).meters j = t.meters j := by
    rw [State.meters, (writes_runRound k).meter]
    rfl
  rw [requestCarrier_eq]
  by_cases suspended : ((s.aseg k).c.get c).suspended = true
  · rw [if_pos suspended, round]
    simp only [suspended, and_true]
    exact modMeters_meters ..
  · rw [if_neg suspended, if_neg (c := k = j ∧ _) fun g => suspended g.2]
    split
    · rfl
    · exact round _

/-! ### The pass -/

theorem sameInputs_requestCarrier (c : Carrier) (q : Nat) (k : SegId) (s : State) : SameInputs s (requestCarrier c q k s) := by
  have written : SameInputs s (s.modAseg k (.requested c q)) := ⟨rfl, rfl, rfl, rfl, rfl⟩
  have resumed : SameInputs s (resumeEntry c q k s) := ⟨rfl, rfl, rfl, rfl, rfl⟩
  rw [requestCarrier_eq]
  split
  · exact resumed.trans (sameInputs_runRound k _)
  · split
    · exact written
    · exact written.trans (sameInputs_runRound k _)

/-- What a request writes of a segment. -/
def requestView (s : State) (k : SegId) : AllocSeg × Six MeterEntry := (s.aseg k, s.meters k)

theorem requestView_other (h : k ≠ j) (s : State) : requestView (requestCarrier c q k s) j = requestView s j := by
  have written : (s.modAseg k (.requested c q)).aseg j = s.aseg j := by rw [modAseg_aseg, if_neg h]
  have aseg : (requestCarrier c q k s).aseg j = s.aseg j := by
    classical
    have round : (runRound k (s.modAseg k (.requested c q))).aseg j = s.aseg j := by
      rw [runRound_aseg, if_neg fun g => h g.2.2, written]
    rw [requestCarrier_aseg, round, written, ite_self]
  have meters : (requestCarrier c q k s).meters j = s.meters j := by
    rw [requestCarrier_meters, if_neg fun g => h g.1]
  rw [requestView, aseg, meters]
  rfl

theorem roundAsked_congr (h : SameInputs s t) (ha : t.aseg k = s.aseg k) : RoundAsked c q t k ↔ RoundAsked c q s k := by
  unfold RoundAsked
  rw [ha, h.seg, h.wants, h.wants]

/-- What a request makes of a segment follows from the segment's own part of the state. -/
theorem SameInputs.requestCarrier_view (h : SameInputs s t) (hv : requestView t k = requestView s k) :
    requestView (requestCarrier c q k t) k = requestView (requestCarrier c q k s) k := by
  classical
  have aseg : t.aseg k = s.aseg k := congrArg Prod.fst hv
  have meters : t.meters k = s.meters k := congrArg Prod.snd hv
  have written : SameInputs (s.modAseg k (.requested c q)) (t.modAseg k (.requested c q)) :=
    ⟨h.sys, h.loop, h.level, h.capPct, h.activity⟩
  have entries : (t.modAseg k (.requested c q)).aseg k = (s.modAseg k (.requested c q)).aseg k := by
    rw [modAseg_aseg, modAseg_aseg, aseg]
  have round : (runRound k (t.modAseg k (.requested c q))).aseg k = (runRound k (s.modAseg k (.requested c q))).aseg k := by
    rw [runRound_aseg, runRound_aseg, written.roundResult entries, entries, written.sys, written.loop]
  have aseg' : (requestCarrier c q k t).aseg k = (requestCarrier c q k s).aseg k := by
    rw [requestCarrier_aseg, requestCarrier_aseg, round, entries, if_congr (roundAsked_congr h aseg) rfl rfl]
  have meters' : (requestCarrier c q k t).meters k = (requestCarrier c q k s).meters k := by
    rw [requestCarrier_meters, requestCarrier_meters, meters, aseg]
  rw [requestView, aseg', meters']
  rfl

/-- The pass over the set: each segment as `requestCarrier` alone would leave it, the others as they were. -/
theorem forSet_request {segs : SegSet} (h : setOk s segs = true) (j : SegId) :
    requestView (forSet segs (requestCarrier c q) s) j =
      if inSet segs j then requestView (requestCarrier c q j s) j else requestView s j := by
  have keeps (k : SegId) (t : State) : SameInputs t (if inSet segs k then requestCarrier c q k t else t) := by
    split
    · exact sameInputs_requestCarrier c q k t
    · exact .refl t
  have n (k : SegId) (t : State) : (if inSet segs k then requestCarrier c q k t else t).loop.n = t.loop.n := by rw [(keeps k t).loop]
  have other (k j : SegId) (t : State) (e : k ≠ j) :
      requestView (if inSet segs k then requestCarrier c q k t else t) j = requestView t j := by
    split
    · exact requestView_other e t
    · rfl
  by_cases inside : j.val < s.loop.n
  · obtain ⟨t, inputs, view, -, result⟩ := forSegs_view (view := requestView) (R := SameInputs) .refl (fun _ _ _ => .trans) keeps n
      other inside
    rw [forSet, result]
    split
    · exact inputs.requestCarrier_view view
    · exact view
  · rw [forSet, forSegs_view_beyond n other (Nat.le_of_not_lt inside), if_neg fun mem => inside (lt_of_setOk h mem)]

end

end Sys2Proof.Machine

/-! SET CARRIER CAP and SET CARRIER REQUEST as commands of port C. -/

namespace Sys2Proof.Machine

section
variable {s t u : State} {c : Carrier} {q : Nat} {k j : SegId} {segs : SegSet}

/-! ### What a request may change beside entries and counts -/

/-- `s` with the allocator's entries and the metering records of `t`. -/
def openEntries (s t : State) : State :=
  { s with alloc := { s.alloc with segs := t.alloc.segs }, meter := { s.meter with recs := t.meter.recs } }

/-- From `s` to `t`, entries and metering records aside, no more changes than an event's end may change. -/
def EntriesOnly (s t : State) : Prop := Undisturbed (openEntries s t) t

theorem EntriesOnly.refl (s : State) : EntriesOnly s s := Undisturbed.refl s

theorem EntriesOnly.trans (h : EntriesOnly s t) (g : EntriesOnly t u) : EntriesOnly s u where
  sys := g.sys.trans h.sys
  store := g.store.trans h.store
  inc := g.inc.trans h.inc
  plant := g.plant.trans h.plant
  wire := g.wire.trans h.wire
  lastMark := g.lastMark.trans h.lastMark
  draws := g.draws.trans h.draws
  pending := g.pending.trans h.pending
  meter := by
    have first : t.meter = { s.meter with recs := t.meter.recs } := h.meter
    have second : u.meter = { t.meter with recs := u.meter.recs } := g.meter
    rw [first] at second
    exact second
  loop := (congrArg (fun l : LoopRec => { l with segs := s.loop.segs }) g.loop :).trans h.loop
  seg k := (g.seg k).trans (h.seg k)
  ramp := g.ramp.trans h.ramp
  unit k := (g.unit k).trans (h.unit k)
  cap := g.cap.trans h.cap
  level := g.level.trans h.level
  aseg _ := rfl
  talk := (congrArg (fun r : TalkTable => { r with chans := s.talk.chans }) g.talk :).trans h.talk
  chan c := (g.chan c).trans (h.chan c)
  port p := (g.port p).trans (h.port p)
  brk := (congrArg (fun r : BreakRec => { r with owners := s.brk.owners }) g.brk :).trans h.brk
  program c := (g.program c).trans (h.program c)
  held := g.held.trans h.held
  rotation := g.rotation.trans h.rotation

theorem EntriesOnly.of_undisturbed (h : Undisturbed s t) : EntriesOnly s t := { h with
  meter := by rw [h.meter]; exact (congrArg (fun m : MeterRec => { s.meter with recs := m.recs }) h.meter).symm
  aseg := fun _ => rfl }

theorem entriesOnly_resumeEntry (c : Carrier) (q : Nat) (k : SegId) (s : State) : EntriesOnly s (resumeEntry c q k s) := by
  have raised := raise_undisturbed ((s.modAseg k (.requested c q)).modMeter k c.entry fun x => { x with count := 0 }) toOC
    .entryResumed (entrySubject k c.entry) (BitVec.ofNat 16 q) 0
  have written : EntriesOnly s ((s.modAseg k (.requested c q)).modMeter k c.entry fun x => { x with count := 0 }) := Undisturbed.refl _
  exact written.trans (.of_undisturbed raised)

theorem entriesOnly_requestCarrier (c : Carrier) (q : Nat) (k : SegId) (s : State) : EntriesOnly s (requestCarrier c q k s) := by
  have written : EntriesOnly s (s.modAseg k (.requested c q)) := Undisturbed.refl _
  rw [requestCarrier_eq]
  split
  · exact (entriesOnly_resumeEntry c q k s).trans (.of_undisturbed (runRound_undisturbed k _))
  · split
    · exact written
    · exact written.trans (.of_undisturbed (runRound_undisturbed k _))

/-- R43: the entries of a set with the new request. -/
theorem wantsChanged_request (k : SegId) : WantsChanged s.alloc (writeSet segs (.requested c q) s) k ↔
    inSet segs k = true ∧ wantsOf s.alloc (s.seg k).eff (s.aseg k) ≠ wantsOf s.alloc (s.seg k).eff ((s.aseg k).requested c q) := by
  have aseg := writeSet_aseg segs (.requested c q) s k
  have wants (a : AllocSeg) : wantsOf (writeSet segs (.requested c q) s).alloc (s.seg k).eff a = wantsOf s.alloc (s.seg k).eff a := by
    simp only [writeSet, wantsOf_segs]
  have seg : (writeSet segs (.requested c q) s).seg k = s.seg k := by simp only [writeSet, State.seg]
  rw [WantsChanged, aseg, seg, wants]
  by_cases inside : inSet segs k = true
  · rw [if_pos inside]
    exact (and_iff_right inside).symm
  · rw [if_neg inside]
    exact ⟨fun g => absurd rfl g, fun g => absurd g.1 inside⟩

/-- R58, R54: the segments in which a request runs a round. -/
def RequestRound (c : Carrier) (q : Nat) (segs : SegSet) (s : State) (k : SegId) : Prop :=
  inSet segs k = true ∧ ((s.aseg k).c.get c).suspended = true ∨ WantsChanged s.alloc (writeSet segs (.requested c q) s) k

theorem requestRound_iff (k : SegId) :
    RequestRound c q segs s k ↔ inSet segs k = true ∧ RoundAsked c q s k := by
  rw [RequestRound, wantsChanged_request, RoundAsked, ← and_or_left]

/-- The pass of a request runs its rounds on the entries as written. -/
theorem forSet_request_rounds (h : setOk s segs = true) :
    RoundsAt (writeSet segs (.requested c q) s) (forSet segs (requestCarrier c q) s) (RequestRound c q segs s) := by
  classical
  intro k
  have view : (forSet segs (requestCarrier c q) s).aseg k =
      if inSet segs k then (requestCarrier c q k s).aseg k else s.aseg k :=
    (congrArg Prod.fst (forSet_request h k)).trans (by split <;> rfl)
  have entries : (writeSet segs (.requested c q) s).aseg k = if inSet segs k then (s.aseg k).requested c q else s.aseg k :=
    writeSet_aseg ..
  have alone : (s.modAseg k (.requested c q)).aseg k = (s.aseg k).requested c q := by rw [modAseg_aseg, if_pos rfl]
  rw [requestRound_iff, view]
  by_cases inside : inSet segs k = true
  · rw [if_pos inside] at entries ⊢
    have inputs : SameInputs (s.modAseg k (.requested c q)) (writeSet segs (.requested c q) s) := ⟨rfl, rfl, rfl, rfl, rfl⟩
    have result := inputs.roundResult (k := k) (entries.trans alone.symm)
    rw [entries, result, requestCarrier_aseg]
    refine ⟨fun ⟨⟨_, asked⟩, run, lt⟩ => ?_, fun out => ?_⟩
    · rw [if_pos asked, runRound_aseg, if_pos ⟨run, lt, rfl⟩, alone]
    · split
      · next asked =>
        rw [runRound_aseg, if_neg fun g => out ⟨⟨inside, asked⟩, g.1, g.2.1⟩, alone]
      · exact alone
  · rw [if_neg inside] at entries ⊢
    exact ⟨fun g => absurd g.1.1 inside, fun _ => entries.symm⟩

theorem forSet_request_meters (h : setOk s segs = true) (k : SegId) (e : Entry) :
    ((forSet segs (requestCarrier c q) s).meters k).get e =
      if inSet segs k = true ∧ ((s.aseg k).c.get c).suspended = true ∧ e = c.entry then { (s.meters k).get e with count := 0 }
      else (s.meters k).get e := by
  have view : (forSet segs (requestCarrier c q) s).meters k =
      if inSet segs k then (requestCarrier c q k s).meters k else s.meters k :=
    (congrArg Prod.snd (forSet_request h k)).trans (by split <;> rfl)
  rw [view]
  by_cases inside : inSet segs k = true
  · rw [if_pos inside, requestCarrier_meters]
    by_cases suspended : ((s.aseg k).c.get c).suspended = true
    · rw [if_pos ⟨rfl, suspended⟩, Six_get_set]
      by_cases entry : e = c.entry
      · rw [if_pos entry.symm, if_pos ⟨inside, suspended, entry⟩, entry]
      · rw [if_neg (Ne.symm entry), if_neg fun g => entry g.2.2]
    · rw [if_neg fun g => suspended g.2, if_neg fun g => suspended g.2.1]
  · rw [if_neg inside, if_neg fun g => inside g.1]

theorem forSet_request_inputs (segs : SegSet) (s : State) : SameInputs s (forSet segs (requestCarrier c q) s) :=
  forSet_rel .refl (fun _ _ _ => .trans) (fun k t => sameInputs_requestCarrier c q k t) segs s

theorem forSet_request_entriesOnly (segs : SegSet) (s : State) : EntriesOnly s (forSet segs (requestCarrier c q) s) :=
  forSet_rel .refl (fun _ _ _ => .trans) (fun k t => entriesOnly_requestCarrier c q k t) segs s

end

end Sys2Proof.Machine

/-! O20. -/

namespace Sys2Proof.Machine

section
variable {s : State} {c : Carrier} {segs : SegSet} {operator : Byte} {q : Half}

theorem operatorOf_eq_none (h : operator.toNat = 0 ∨ 4 < operator.toNat) : operatorOf operator = none := by
  unfold operatorOf
  split
  · omega
  · omega
  · omega
  · omega
  · rfl

theorem operatorOf_eq_some (h : operator.toNat = carrierNumber c) : operatorOf operator = some c := by
  unfold operatorOf
  rw [h]
  cases c <;> rfl

theorem setCarrierRequest_refused (h : operator.toNat = 0 ∨ 4 < operator.toNat ∨ setOk s segs = false ∨ 8000 < q.toNat) :
    setCarrierRequest operator segs q s = refuse .badArgument s := by
  unfold setCarrierRequest
  by_cases named : operator.toNat = 0 ∨ 4 < operator.toNat
  · rw [operatorOf_eq_none named]
  · have bad : ¬ (setOk s segs && powerOk q) = true := by
      rw [Bool.and_eq_true, powerOk_iff]
      rintro ⟨ok, power⟩
      rcases h with h | h | h | h
      · exact named (.inl h)
      · exact named (.inr h)
      · rw [h] at ok
        exact nomatch ok
      · omega
    cases operatorOf operator with
    | none => rfl
    | some c => exact if_neg bad

theorem setCarrierRequest_accepted (hc : operator.toNat = carrierNumber c) (ok : setOk s segs = true) (hq : q.toNat ≤ 8000) :
    setCarrierRequest operator segs q s = accept (settle s (forSet segs (requestCarrier c q.toNat) s)) := by
  unfold setCarrierRequest
  rw [operatorOf_eq_some hc]
  exact if_pos (by rw [ok, powerOk_iff.mpr hq]; rfl)

theorem openEntries_undisturbed {s t w : State} (h : EntriesOnly s t) (hs : openEntries s t = openEntries w t)
    (hm : w.meter = t.meter) (ha : ∀ k, (t.aseg k).settings = (w.aseg k).settings) : Undisturbed w t := by
  rw [EntriesOnly, hs] at h
  exact { h with
    meter := hm.symm
    aseg := ha }

theorem EntriesOnly.settings {s t : State} (h : EntriesOnly s t) : t.meter = { s.meter with recs := t.meter.recs } := h.meter

theorem withGrants_settings (a : AllocSeg) (g : Six Nat) (p : Carrier) :
    ({ a.withGrants g with ptr := p } : AllocSeg).settings = a.settings := rfl

/-- A round leaves the settings of an entry. -/
theorem request_settings {s : State} (h : setOk s segs = true) (n : Nat) (k : SegId) :
    ((forSet segs (requestCarrier c n) s).aseg k).settings = ((writeSet segs (.requested c n) s).aseg k).settings := by
  classical
  obtain ⟨named, others⟩ := forSet_request_rounds (c := c) (q := n) h k
  by_cases round : RequestRound c n segs s k ∧ (writeSet segs (.requested c n) s).sys.part = .run ∧
      k.val < (writeSet segs (.requested c n) s).loop.n
  · rw [named round, withGrants_settings]
  · rw [others round]

end

/-- R43, R58: the state a request leaves, as the block sees it. -/
theorem request_made {v : State} {c : Carrier} {n : Nat} {segs : SegSet} (ok : setOk v segs = true) :
    let t := settle v (forSet segs (requestCarrier c n) v)
    (∀ k e, (t.meters k).get e =
      if inSet segs k = true ∧ ((v.aseg k).c.get c).suspended = true ∧ e = c.entry then { (v.meters k).get e with count := 0 }
      else (v.meters k).get e) ∧
    Undisturbed { writeSet segs (.requested c n) v with meter := { v.meter with recs := t.meter.recs } } t ∧ t.loop = v.loop ∧
    RoundsAt (writeSet segs (.requested c n) v) t (RequestRound c n segs v) := by
  have meters := forSet_request_meters (c := c) (q := n) ok
  have rounds := forSet_request_rounds (c := c) (q := n) ok
  have only := forSet_request_entriesOnly (c := c) (q := n) segs v
  have settings := request_settings (c := c) ok n
  have inputs := forSet_request_inputs (c := c) (q := n) segs v
  generalize forSet segs (requestCarrier c n) v = u at *
  have settled := settle_undisturbed v u
  have writes := writes_settle (s := u) v
  generalize settle v u = t at *
  have aseg (k : SegId) : t.aseg k = u.aseg k := by
    rw [State.aseg, writes.alloc]
    rfl
  refine ⟨fun k e => ?_, ?_, writes.loop.trans inputs.loop, rounds.carry rfl rfl rfl writes.alloc fun _ _ => Iff.rfl⟩
  · rw [State.meters, writes.meter]
    exact meters k e
  · have total : EntriesOnly v t := only.trans (.of_undisturbed settled)
    have kept : t.meter = { v.meter with recs := t.meter.recs } := total.settings
    generalize hw : writeSet segs (.requested c n) v = w at *
    have same : openEntries v t = openEntries { w with meter := { v.meter with recs := t.meter.recs } } t := by
      subst hw
      simp only [openEntries, writeSet]
    exact openEntries_undisturbed total same kept.symm fun k => by rw [aseg]; exact settings k

/-- R43, R58: the accepted SET CARRIER REQUEST. -/
theorem request_answered {i : Instr} {p : Port} {code : Byte} {bytes : List Byte} {body : State → State × Reply} {s : State}
    {c : Carrier} {n : Nat} {segs : SegSet} (hf : commandFields i = some (p, code, bytes))
    (he : exec i s = .next (portCommand i body s)) (hr : Ready i s) (ok : setOk s segs = true)
    (hb : ∀ u, setOk u segs = true → body u = accept (settle u (forSet segs (requestCarrier c n) u))) :
    ∃ t, exec i s = .next t ∧
      (∀ k e, (t.meters k).get e =
        if inSet segs k = true ∧ ((s.aseg k).c.get c).suspended = true ∧ e = c.entry then { (s.meters k).get e with count := 0 }
        else (s.meters k).get e) ∧
      Undisturbed (served i .ok [] { writeSet segs (.requested c n) s with meter := { s.meter with recs := t.meter.recs } }) t ∧
      t.loop = s.loop ∧
      RoundsAt (served i .ok [] (writeSet segs (.requested c n) s)) t (RequestRound c n segs s) := by
  have run := hb (s.modPort p fun r => r.shift (commandFrame code bytes)) ok
  obtain ⟨meters, undisturbed, loop, rounds⟩ := request_made (v := s.modPort p fun r => r.shift (commandFrame code bytes))
    (c := c) (n := n) (segs := segs) ok
  have written : writeSet segs (.requested c n) (s.modPort p fun r => r.shift (commandFrame code bytes)) =
    (writeSet segs (.requested c n) s).modPort p fun r => r.shift (commandFrame code bytes) := (writeSet_modPort ..).symm
  rw [written] at undisturbed rounds
  clear written hb
  generalize writeSet segs (.requested c n) s = w at *
  have answered : Writes [.ports] w (served i .ok [] w) := writes_served ..
  generalize settle (s.modPort p fun r => r.shift (commandFrame code bytes)) _ = t at *
  have frame : Writes [.ports] w (w.modPort p fun r => r.shift (commandFrame code bytes)) := writes_modPort ..
  obtain ⟨done, undisturbed⟩ := served_of_body
    (w := { w with meter := { s.meter with recs := t.meter.recs } }) hf he hr run undisturbed
  refine ⟨_, done, meters, undisturbed, loop, ?_⟩
  exact rounds.carry (answered.sys.trans frame.sys.symm) (answered.loop.trans frame.loop.symm)
    (answered.alloc.trans frame.alloc.symm) rfl fun _ _ => Iff.rfl

/-- R44: the accepted SET CARRIER CAP. -/
theorem exec_setCarrierCap {p : Port} {percent : Byte} {s : State} (hr : Ready (.setCarrierCap p percent) s) (h : percent.toNat ≤ 100) :
    SettingsTaken (.setCarrierCap p percent) s (served (.setCarrierCap p percent) .ok [] { s with alloc.capPct := percent.toNat }) :=
  settingsTaken rfl rfl hr (writes_alloc _) (setCarrierCap_accepted h)

/-- Settles O20. -/
theorem carrierCommands : Obligations.CarrierCommands := by
  unfold Obligations.CarrierCommands
  refine ⟨fun p percent s hr => ⟨fun bad => ?_, fun ok => ?_⟩, fun p operator segs q s hr => ⟨fun bad => ?_, fun c hc ok hq => ?_⟩⟩
  · exact congrArg Host.Outcome.next (portCommand_served rfl hr (setCarrierCap_refused (s := s.modPort p _) bad))
  · obtain ⟨t, done, undisturbed, loop, rounds, -⟩ := exec_setCarrierCap hr ok
    exact ⟨t, done, undisturbed, loop, rounds⟩
  · exact congrArg Host.Outcome.next (portCommand_served rfl hr (setCarrierRequest_refused (s := s.modPort p _) bad))
  · exact request_answered (c := c) rfl rfl hr ok fun u hu => setCarrierRequest_accepted hc hu hq

end Sys2Proof.Machine

/-! The effective limit (R21, R22, R54): SET LIMIT and SET DERATE, and the rounds they cause. -/

namespace Sys2Proof.Machine

section
variable {s t u w x : State} {k j : SegId}

/-! ### The limit -/

theorem limitOf_zero {r : SegRec} {marked : Bool} (derate : Nat)
    (h : r.link = .lost ∨ r.link = .unseen ∨ marked = true ∨ r.commanded ≠ .active) : limitOf r marked derate = 0 := by
  have stopped (o : Observed) (m : marked = true ∨ r.commanded ≠ .active) :
      (marked || r.commanded ≠ .active || o.mode ≠ .active) = true := by
    rcases m with m | m <;> simp [m]
  unfold limitOf
  rcases h with h | h | h
  · rw [h]
  · rw [h]
  · cases r.link with
    | lost => rfl
    | unseen => rfl
    | present => cases r.observed with
      | none => rfl
      | some o => exact if_pos (stopped o h)
    | missing => cases r.observed with
      | none => rfl
      | some o => exact if_pos (stopped o h)

theorem limitOf_observed {r : SegRec} {marked : Bool} {o : Observed} (derate : Nat) (ho : r.observed = some o) :
    (o.mode ≠ .active ∨ o.temp = .hot → limitOf r marked derate = 0) ∧
      (r.link = .present ∨ r.link = .missing → marked = false → r.commanded = .active → o.mode = .active →
        (o.temp = .warm → limitOf r marked derate = r.limit * derate / 100) ∧
        (o.temp = .normal → limitOf r marked derate = r.limit)) := by
  have seen (h : r.link = .present ∨ r.link = .missing) : limitOf r marked derate =
      if marked || r.commanded ≠ .active || o.mode ≠ .active then 0
      else match o.temp with | .hot => 0 | .warm => r.limit * derate / 100 | .normal => r.limit := by
    unfold limitOf
    rw [ho]
    rcases h with h | h <;> rw [h] <;> rfl
  refine ⟨fun off => ?_, fun link hm hc ha => ?_⟩
  · by_cases link : r.link = .present ∨ r.link = .missing
    · rw [seen link]
      rcases off with off | off
      · exact if_pos (by simp [off])
      · rw [off]
        exact ite_self _
    · refine limitOf_zero derate ?_
      cases h : r.link with
      | lost => exact .inl rfl
      | unseen => exact .inr (.inl rfl)
      | present => exact absurd (.inl h) link
      | missing => exact absurd (.inr h) link
  · have runs : ¬ (marked || r.commanded ≠ .active || o.mode ≠ .active) = true := by simp [hm, hc, ha]
    rw [seen link, if_neg runs]
    exact ⟨fun temp => by rw [temp], fun temp => by rw [temp]⟩

/-! ### A recomputation and its round -/

/-- R48: the result of a round on a segment with this limit. -/
def State.roundWith (s : State) (k : SegId) (e : Nat) : Six Nat × Carrier :=
  grantRound e (wantsOf s.alloc e (s.aseg k)) (s.aseg k).ptr

/-- R21: E as a recomputation makes it. -/
def State.newLimit (s : State) (k : SegId) : Nat := limitOf (s.seg k) (s.unit k).marked s.loop.derate

/-- R21: a changed E is handed to the allocator, which runs a round. -/
theorem recomputeLimit_aseg (k j : SegId) (s : State) : (recomputeLimit k s).aseg j =
    if k = j ∧ s.newLimit k ≠ (s.seg k).eff ∧ s.sys.part = .run ∧ k.val < s.loop.n then
      { (s.aseg k).withGrants (s.roundWith k (s.newLimit k)).1 with ptr := (s.roundWith k (s.newLimit k)).2 }
    else s.aseg j := by
  unfold recomputeLimit
  dsimp only
  by_cases same : limitOf (s.seg k) (s.unit k).marked s.loop.derate = (s.seg k).eff
  · rw [if_pos same, if_neg fun g => g.2.1 same]
  · have result : (s.modSeg k fun r => { r with eff := s.newLimit k }).roundResult k = s.roundWith k (s.newLimit k) := by
      have seg : ((s.modSeg k fun r => { r with eff := s.newLimit k }).seg k).eff = s.newLimit k := by
        rw [modSeg_eff_seg, if_pos rfl]
      unfold State.roundResult
      rw [seg]
      rfl
    rw [if_neg same]
    refine (runRound_aseg k j (s.modSeg k fun r => { r with eff := s.newLimit k })).trans ?_
    rw [result]
    by_cases e : k = j
    · simp only [e, true_and, and_true]
      refine if_congr ?_ rfl rfl
      rw [← e]
      exact ⟨fun g => ⟨same, g⟩, fun g => g.2⟩
    · rw [if_neg fun g => e g.2.2, if_neg fun g => e g.1]
      rfl

/-- The rounds of a recomputation, on the inputs of a state with the new limits. -/
theorem roundsAt_of_newLimit {e : SegId → Nat} {P : SegId → Prop} (hs : w.sys = x.sys) (hn : w.loop.n = x.loop.n)
    (ha : w.alloc = x.alloc) (he : ∀ j, (w.seg j).eff = e j)
    (ht : ∀ j, (P j ∧ x.sys.part = .run ∧ j.val < x.loop.n →
        t.aseg j = { (x.aseg j).withGrants (x.roundWith j (e j)).1 with ptr := (x.roundWith j (e j)).2 }) ∧
      (¬ (P j ∧ x.sys.part = .run ∧ j.val < x.loop.n) → t.aseg j = x.aseg j)) : RoundsAt w t P := by
  intro j
  have aseg : w.aseg j = x.aseg j := by
    unfold State.aseg
    rw [ha]
  have result : w.roundResult j = x.roundWith j (e j) := by
    unfold State.roundResult State.roundWith
    rw [aseg, he, ha]
  rw [hs, hn, aseg, result]
  exact ht j

/-- An effective limit is no setting. -/
theorem Undisturbed.of_limits {l : LoopRec} (h : Undisturbed { w with loop := l } t) (hl : { w.loop with segs := l.segs } = l)
    (hs : ∀ k : SegId, (w.seg k).settings = l.segs[k].settings) : Undisturbed w t :=
  { h with
    loop := (congrArg (fun l : LoopRec => { l with segs := w.loop.segs }) (h.loop.trans hl.symm) :)
    seg := fun k => (h.seg k).trans (hs k).symm }

/-! ### SET LIMIT -/

theorem setLimit_refused {seg : Byte} {limit : Half} (h : seg.toNat = 0 ∨ s.loop.n < seg.toNat ∨ 8000 < limit.toNat) :
    setLimit seg limit s = refuse .badArgument s := by
  unfold setLimit
  by_cases out : seg.toNat = 0 ∨ s.loop.n < seg.toNat
  · rw [segOf_eq_none out]
  · have power : ¬ powerOk limit = true := by
      rw [powerOk_iff]
      rcases h with h | h | h
      · exact absurd (.inl h) out
      · exact absurd (.inr h) out
      · omega
    cases segOf s seg with
    | none => rfl
    | some k => exact if_neg power

/-- R22: a segment takes its rated limit. -/
def rated (k : SegId) (limit : Nat) (s : State) : State := s.modSeg k fun r => { r with limit := limit }

theorem setLimit_accepted {seg : Byte} {limit : Half} (hk : seg.toNat = k.val + 1) (hn : k.val < s.loop.n) (hl : limit.toNat ≤ 8000) :
    setLimit seg limit s = accept (settle s (recomputeLimit k (rated k limit.toNat s))) := by
  simp only [setLimit, segOf_eq_some hk hn, powerOk_iff.mpr hl, if_true, rated]

theorem rated_seg (k j : SegId) (limit : Nat) (s : State) :
    (rated k limit s).seg j = if k = j then { s.seg k with limit := limit } else s.seg j := modSeg_seg ..

/-- R22: what a new rated limit makes of the part. -/
theorem rated_made (k : SegId) (limit : Nat) (before s : State) :
    let e := limitOf { s.seg k with limit := limit } (s.unit k).marked s.loop.derate
    let w := s.modSeg k fun r => { r with limit := limit, eff := e }
    let t := settle before (recomputeLimit k (rated k limit s))
    Undisturbed w t ∧ (∀ j, t.seg j = w.seg j) ∧ RoundsAt w t fun j => j = k ∧ e ≠ (s.seg k).eff := by
  intro e w t
  have limit_ : (rated k limit s).newLimit k = e := by
    rw [State.newLimit, rated_seg, if_pos rfl]
    rfl
  have wseg (j : SegId) : w.seg j = if k = j then { s.seg k with limit := limit, eff := e } else s.seg j := modSeg_seg ..
  have rseg (j : SegId) : (recomputeLimit k (rated k limit s)).seg j = w.seg j := by
    rw [recomputeLimit_seg, rated_seg, wseg]
    by_cases same : k = j
    · subst same
      rw [if_pos rfl, if_pos rfl, if_pos rfl, ← limit_, State.newLimit]
    · rw [if_neg same, if_neg same, if_neg same]
  have quiet := (recomputeLimit_undisturbed k (rated k limit s)).trans (settle_undisturbed before _)
  have settled := writes_settle (s := recomputeLimit k (rated k limit s)) before
  refine ⟨quiet.of_limits (w := w) rfl fun j => ?_, fun j => ?_, ?_⟩
  · refine Eq.trans ?_ (congrArg SegRec.settings (rated_seg k j limit s)).symm
    rw [wseg]
    split <;> rfl
  · rw [← rseg, State.seg, settled.loop]
    rfl
  · refine roundsAt_of_newLimit (x := rated k limit s) (e := fun j => (w.seg j).eff) rfl rfl rfl (fun _ => rfl) fun j => ?_
    have aseg : t.aseg j = (recomputeLimit k (rated k limit s)).aseg j := by
      rw [State.aseg, settled.alloc]
      rfl
    have eff : ((rated k limit s).seg k).eff = (s.seg k).eff := by rw [rated_seg, if_pos rfl]
    rw [aseg, recomputeLimit_aseg, limit_, eff]
    refine ⟨fun ⟨⟨same, changed⟩, run, inside⟩ => ?_, fun out => if_neg fun ⟨same, changed, run, inside⟩ => ?_⟩
    · subst same
      have new : (w.seg j).eff = e := by rw [wseg, if_pos rfl]
      rw [if_pos ⟨rfl, changed, run, inside⟩]
      dsimp only
      rw [new]
    · subst same
      exact out ⟨⟨rfl, changed⟩, run, inside⟩

end

end Sys2Proof.Machine

/-! SET DERATE, and O16. -/

namespace Sys2Proof.Machine

section
variable {s t u w x : State} {k j : SegId}

/-- What the limits of the part read, the segment records aside, is the same in two states. -/
structure SameLimits (s t : State) : Prop where
  sys : t.sys = s.sys
  loop : { t.loop with segs := s.loop.segs } = s.loop
  level : t.alloc.level = s.alloc.level
  capPct : t.alloc.capPct = s.alloc.capPct
  activity : t.alloc.activity = s.alloc.activity
  marked : ∀ k, (t.unit k).marked = (s.unit k).marked

theorem SameLimits.refl (s : State) : SameLimits s s := ⟨rfl, rfl, rfl, rfl, rfl, fun _ => rfl⟩

theorem SameLimits.trans (h : SameLimits s t) (g : SameLimits t u) : SameLimits s u :=
  ⟨g.sys.trans h.sys, (congrArg (fun l : LoopRec => { l with segs := s.loop.segs }) g.loop :).trans h.loop, g.level.trans h.level,
    g.capPct.trans h.capPct, g.activity.trans h.activity, fun k => (g.marked k).trans (h.marked k)⟩

theorem SameLimits.n (h : SameLimits s t) : t.loop.n = s.loop.n := (congrArg LoopRec.n h.loop :)

theorem SameLimits.derate (h : SameLimits s t) : t.loop.derate = s.loop.derate := (congrArg LoopRec.derate h.loop :)

theorem SameLimits.newLimit (h : SameLimits s t) (hs : t.seg k = s.seg k) : t.newLimit k = s.newLimit k := by
  unfold State.newLimit
  rw [hs, h.marked, h.derate]

theorem SameLimits.roundWith (h : SameLimits s t) (ha : t.aseg k = s.aseg k) (e : Nat) : t.roundWith k e = s.roundWith k e := by
  unfold State.roundWith
  rw [ha, wantsOf_congr h.level h.capPct h.activity]

theorem recomputeLimit_activity (k : SegId) (s : State) : (recomputeLimit k s).alloc.activity = s.alloc.activity := by
  unfold recomputeLimit
  dsimp only
  split
  · rfl
  · exact runRound_activity ..

theorem sameLimits_recomputeLimit (k : SegId) (s : State) : SameLimits s (recomputeLimit k s) := by
  have quiet := recomputeLimit_undisturbed k s
  exact ⟨quiet.sys, quiet.loop, quiet.level, quiet.cap, recomputeLimit_activity k s, fun j => recomputeLimit_marked k j s⟩

/-- What a recomputation writes of a segment, and what it reads of it. -/
def limitView (s : State) (k : SegId) : SegRec × AllocSeg := (s.seg k, s.aseg k)

theorem recomputeLimit_view_other (k j : SegId) (s : State) (h : k ≠ j) : limitView (recomputeLimit k s) j = limitView s j := by
  rw [limitView, recomputeLimit_seg, recomputeLimit_aseg, if_neg h, if_neg fun g => h g.1]
  rfl

theorem SameLimits.recomputeLimit_view (h : SameLimits s t) (hv : limitView t k = limitView s k) :
    limitView (recomputeLimit k t) k = limitView (recomputeLimit k s) k := by
  have seg : t.seg k = s.seg k := congrArg Prod.fst hv
  have aseg : t.aseg k = s.aseg k := congrArg Prod.snd hv
  have limit : limitOf (t.seg k) (t.unit k).marked t.loop.derate = limitOf (s.seg k) (s.unit k).marked s.loop.derate :=
    h.newLimit seg
  rw [limitView, limitView, recomputeLimit_seg, recomputeLimit_seg, recomputeLimit_aseg, recomputeLimit_aseg, limit, h.newLimit seg,
    seg, aseg, h.roundWith aseg, h.sys, h.n]

/-- A pass of recomputations leaves in each segment what its own would. -/
theorem forSegs_recomputeLimit (s : State) (j : SegId) : limitView (forSegs recomputeLimit s) j =
    if j.val < s.loop.n then limitView (recomputeLimit j s) j else limitView s j := by
  have n (k : SegId) (t : State) : (recomputeLimit k t).loop.n = t.loop.n := (recomputeLimit_undisturbed k t).n
  have other (k j : SegId) (t : State) (e : k ≠ j) := recomputeLimit_view_other k j t e
  split
  · next inside =>
    obtain ⟨t, inputs, view, -, result⟩ := forSegs_view (view := limitView) (R := SameLimits) .refl (fun _ _ _ => .trans)
      sameLimits_recomputeLimit n other inside
    rw [result, inputs.recomputeLimit_view view]
  · next beyond => exact forSegs_view_beyond n other (Nat.le_of_not_lt beyond)

/-! ### SET DERATE -/

theorem setDerate_refused {percent : Byte} (h : percent.toNat < 25 ∨ 100 < percent.toNat) :
    setDerate percent s = refuse .badArgument s := if_neg (by omega)

theorem setDerate_accepted {percent : Byte} (h : 25 ≤ percent.toNat) (h' : percent.toNat ≤ 100) : setDerate percent s =
    accept (settle s (forSegs recomputeLimit { s with loop.derate := percent.toNat })) := if_pos ⟨h, h'⟩

/-- R22: E of each segment after a SET DERATE. -/
def deratedLimit (s : State) (percent : Nat) (j : SegId) : Nat :=
  if j.val < s.loop.n then limitOf (s.seg j) (s.unit j).marked percent else (s.seg j).eff

/-- R22: the derate and the limits that follow from it. -/
def derated (s : State) (percent : Nat) : State :=
  { s with loop := { s.loop with derate := percent, segs := Vector.ofFn fun j => { s.seg j with eff := deratedLimit s percent j } } }

theorem derated_seg (s : State) (percent : Nat) (j : SegId) :
    (derated s percent).seg j = { s.seg j with eff := deratedLimit s percent j } := by
  simp only [derated, State.seg, Fin.getElem_fin, Vector.getElem_ofFn]

theorem derated_sys (s : State) (percent : Nat) : (derated s percent).sys = s.sys := by simp only [derated]

theorem derated_n (s : State) (percent : Nat) : (derated s percent).loop.n = s.loop.n := by simp only [derated]

theorem derated_alloc (s : State) (percent : Nat) : (derated s percent).alloc = s.alloc := by simp only [derated]

/-- The state of a SET DERATE before the limits. -/
def withDerate (s : State) (percent : Nat) : State := { s with loop.derate := percent }

theorem derated_made (percent : Nat) (before s : State) :
    let t := settle before (forSegs recomputeLimit (withDerate s percent))
    Undisturbed (derated s percent) t ∧ (∀ j, t.seg j = { s.seg j with eff := deratedLimit s percent j }) ∧
      RoundsAt (derated s percent) t fun j => deratedLimit s percent j ≠ (s.seg j).eff := by
  intro t
  have pass := forSegs_recomputeLimit (withDerate s percent)
  have quiet := (Undisturbed.forSegs recomputeLimit recomputeLimit_undisturbed (withDerate s percent)).trans
    (settle_undisturbed before _)
  have settled := writes_settle (s := forSegs recomputeLimit (withDerate s percent)) before
  have limit (j : SegId) (h : j.val < s.loop.n) : (withDerate s percent).newLimit j = deratedLimit s percent j :=
    (if_pos h).symm
  have tseg (j : SegId) : t.seg j = { s.seg j with eff := deratedLimit s percent j } := by
    have view : t.seg j = (forSegs recomputeLimit (withDerate s percent)).seg j := by
      rw [State.seg, settled.loop]
      rfl
    refine view.trans ((congrArg Prod.fst (pass j)).trans ?_)
    by_cases inside : j.val < s.loop.n
    · refine (congrArg Prod.fst (if_pos inside)).trans ?_
      refine (recomputeLimit_seg j j _).trans ?_
      rw [if_pos rfl, ← limit j inside]
      rfl
    · refine (congrArg Prod.fst (if_neg inside)).trans ?_
      rw [deratedLimit, if_neg inside]
      rfl
  refine ⟨?_, tseg, ?_⟩
  · have same : { derated s percent with loop := { s.loop with derate := percent } } = withDerate s percent := by
      simp only [derated, withDerate]
    have scalars : { (derated s percent).loop with segs := s.loop.segs } = { s.loop with derate := percent } := by
      simp only [derated]
    have quiet' : Undisturbed { derated s percent with loop := { s.loop with derate := percent } } t := by
      rw [same]
      exact quiet
    refine quiet'.of_limits scalars fun k => ?_
    rw [derated_seg]
    rfl
  · refine roundsAt_of_newLimit (x := (withDerate s percent)) (e := deratedLimit s percent) (derated_sys ..) (derated_n ..)
      (derated_alloc ..) (fun j => by rw [derated_seg]) fun j => ?_
    have aseg : t.aseg j = (forSegs recomputeLimit (withDerate s percent)).aseg j := by
      rw [State.aseg, settled.alloc]
      rfl
    have view := congrArg Prod.snd (pass j)
    rw [aseg]
    by_cases inside : j.val < s.loop.n
    · have own : (forSegs recomputeLimit (withDerate s percent)).aseg j =
        (recomputeLimit j (withDerate s percent)).aseg j := view.trans (congrArg Prod.snd (if_pos inside))
      rw [own, recomputeLimit_aseg, limit j inside]
      refine ⟨fun ⟨changed, run, lt⟩ => if_pos ⟨rfl, changed, run, lt⟩, fun out => if_neg fun ⟨_, changed, run, lt⟩ => ?_⟩
      exact out ⟨changed, run, lt⟩
    · exact ⟨fun g => absurd g.2.2 inside, fun _ => view.trans (congrArg Prod.snd (if_neg inside))⟩

end

/-- R22: the accepted SET LIMIT. -/
theorem limit_answered {i : Instr} {p : Port} {code : Byte} {bytes : List Byte} {body : State → State × Reply} {s : State} {k : SegId}
    {limit : Nat} (hf : commandFields i = some (p, code, bytes)) (he : exec i s = .next (portCommand i body s)) (hr : Ready i s)
    (hn : k.val < s.loop.n)
    (hb : ∀ u, k.val < u.loop.n → body u = accept (settle u (recomputeLimit k (rated k limit u)))) :
    let e := limitOf { s.seg k with limit := limit } (s.unit k).marked s.loop.derate
    let w := served i .ok [] (s.modSeg k fun r => { r with limit := limit, eff := e })
    ∃ t, exec i s = .next t ∧ Undisturbed w t ∧ (∀ j, t.seg j = w.seg j) ∧ RoundsAt w t fun j => j = k ∧ e ≠ (s.seg k).eff := by
  intro e w
  have run := hb (s.modPort p fun r => r.shift (commandFrame code bytes)) hn
  obtain ⟨quiet, segs, rounds⟩ := rated_made k limit (s.modPort p fun r => r.shift (commandFrame code bytes))
    (s.modPort p fun r => r.shift (commandFrame code bytes))
  generalize settle (s.modPort p fun r => r.shift (commandFrame code bytes)) _ = t at *
  have answered : Writes [.ports] (s.modSeg k fun r => { r with limit := limit, eff := e }) w := writes_served ..
  obtain ⟨done, undisturbed⟩ := served_of_body (w := s.modSeg k fun r => { r with limit := limit, eff := e }) hf he hr run quiet
  refine ⟨_, done, undisturbed, fun j => ?_, ?_⟩
  · exact (segs j).trans (congrArg (fun l : LoopRec => l.segs[j]) answered.loop).symm
  · exact rounds.carry answered.sys answered.loop answered.alloc rfl fun _ _ => Iff.rfl

/-- R22: the accepted SET DERATE. -/
theorem derate_answered {i : Instr} {p : Port} {code : Byte} {bytes : List Byte} {body : State → State × Reply} {s : State}
    {percent : Nat} (hf : commandFields i = some (p, code, bytes)) (he : exec i s = .next (portCommand i body s)) (hr : Ready i s)
    (hb : ∀ u, body u = accept (settle u (forSegs recomputeLimit (withDerate u percent)))) :
    let w := served i .ok [] (derated s percent)
    ∃ t, exec i s = .next t ∧ Undisturbed w t ∧ (∀ j, t.seg j = { s.seg j with eff := deratedLimit s percent j }) ∧
      RoundsAt w t fun j => deratedLimit s percent j ≠ (s.seg j).eff := by
  intro w
  have run := hb (s.modPort p fun r => r.shift (commandFrame code bytes))
  obtain ⟨quiet, segs, rounds⟩ := derated_made percent (s.modPort p fun r => r.shift (commandFrame code bytes))
    (s.modPort p fun r => r.shift (commandFrame code bytes))
  have shifted : derated (s.modPort p fun r => r.shift (commandFrame code bytes)) percent =
      (derated s percent).modPort p fun r => r.shift (commandFrame code bytes) := by
    have limits : deratedLimit (s.modPort p fun r => r.shift (commandFrame code bytes)) percent = deratedLimit s percent := rfl
    unfold derated
    rw [limits]
    rfl
  rw [shifted] at quiet rounds
  generalize settle (s.modPort p fun r => r.shift (commandFrame code bytes)) _ = t at *
  have answered : Writes [.ports] (derated s percent) w := writes_served ..
  have frame : Writes [.ports] (derated s percent) ((derated s percent).modPort p fun r => r.shift (commandFrame code bytes)) :=
    writes_modPort ..
  obtain ⟨done, undisturbed⟩ := served_of_body (w := derated s percent) hf he hr run quiet
  refine ⟨_, done, undisturbed, segs, ?_⟩
  exact rounds.carry (answered.sys.trans frame.sys.symm) (answered.loop.trans frame.loop.symm)
    (answered.alloc.trans frame.alloc.symm) rfl fun _ _ => Iff.rfl

/-- Settles O16. -/
theorem limitAndDerate : Obligations.LimitAndDerate := by
  unfold Obligations.LimitAndDerate
  refine ⟨fun r marked derate => ⟨limitOf_zero derate, fun o ho => limitOf_observed derate ho⟩, fun p seg limit s hr =>
    ⟨fun bad => ?_, fun k hk hn hl => ?_⟩, fun p percent s hr => ⟨fun bad => ?_, fun low high => ?_⟩⟩
  · exact congrArg Host.Outcome.next (portCommand_served rfl hr (setLimit_refused (s := s.modPort p _) bad))
  · exact limit_answered rfl rfl hr hn fun u hu => setLimit_accepted hk hu hl
  · exact congrArg Host.Outcome.next (portCommand_served rfl hr (setDerate_refused (s := s.modPort p _) bad))
  · exact derate_answered rfl rfl hr fun u => setDerate_accepted low high

end Sys2Proof.Machine

/-! SET UNIT MODE (R19, R20, R21, R54): the commanded mode, its limit, and the MODE requests of the reconciliation. -/

namespace Sys2Proof.Machine

section
variable {s t u w x y z : State} {k j : SegId}

/-! ### Reconciliation (R20) -/

/-- R20: what a reconciliation makes of a unit. -/
def UnitRec.reconciled (part : PartState) (r : SegRec) (u : UnitRec) : UnitRec :=
  if part = .run then
    match reconcileTarget r with
    | some t => u.requestMode t
    | none => u
  else u

theorem reconcile_unit (k j : SegId) (s : State) :
    (reconcile k s).unit j = if k = j then (s.unit k).reconciled s.sys.part (s.seg k) else s.unit j := by
  have same (e : k = j) : s.unit j = s.unit k := by rw [e]
  unfold reconcile UnitRec.reconciled
  by_cases run : s.sys.part = .run
  · rw [if_pos run, if_pos run]
    cases target : reconcileTarget (s.seg k) with
    | some m => exact modUnit_unit ..
    | none =>
      by_cases e : k = j
      · rw [if_pos e]
        exact same e
      · rw [if_neg e]
  · rw [if_neg run, if_neg run]
    split
    · next e => exact same e
    · rfl

theorem reconcile_rampStep (k : SegId) (s : State) : (reconcile k s).engine.rampStep = s.engine.rampStep := by
  unfold reconcile
  split
  · split <;> rfl
  · rfl

/-- A pass of reconciliations. -/
theorem forSegs_reconcile_unit (s : State) (j : SegId) : (forSegs reconcile s).unit j =
    if j.val < s.loop.n then (s.unit j).reconciled s.sys.part (s.seg j) else s.unit j := by
  have n (k : SegId) (t : State) : (reconcile k t).loop.n = t.loop.n := by rw [(writes_reconcile k).loop]
  have other (k j : SegId) (t : State) (e : k ≠ j) : (reconcile k t).unit j = t.unit j := by rw [reconcile_unit, if_neg e]
  split
  · next inside =>
    obtain ⟨t, writes, view, -, result⟩ := forSegs_view (view := State.unit) (R := Writes [.engine]) .refl
      (fun _ _ _ => .trans) (fun k t => writes_reconcile k) n other inside
    have seg : t.seg j = s.seg j := by
      rw [State.seg, writes.loop]
      rfl
    rw [result, reconcile_unit, if_pos rfl, view, writes.sys, seg]
  · next beyond => exact forSegs_view_beyond (view := State.unit) n other (Nat.le_of_not_lt beyond)

theorem forSegs_reconcile_rampStep (s : State) : (forSegs reconcile s).engine.rampStep = s.engine.rampStep :=
  forSegs_rel (R := fun s t => t.engine.rampStep = s.engine.rampStep) (fun _ => rfl) (fun _ _ _ a b => b.trans a)
    reconcile_rampStep s

/-! ### MODE requests (R24) -/

theorem requestDrain_settings (u : UnitRec) : u.requestDrain.settings = u.settings := by
  unfold UnitRec.requestDrain
  split
  · split
    · exact requestLevels_settings u
    · rfl
  · rfl

/-- The settings of a unit say its MODE slot. -/
theorem modeSlot_of_settings {u v : UnitRec} (h : u.settings = v.settings) : u.modeSlot = v.modeSlot :=
  (congrArg UnitRec.modeSlot h :)

theorem requestMode_modeSlot (u : UnitRec) (m : TargetMode) :
    (u.requestMode m).modeSlot = if u.marked = false ∧ u.hasMode m = false then some m else u.modeSlot := by
  unfold UnitRec.requestMode
  by_cases asked : u.marked = false ∧ u.hasMode m = false
  · rw [if_pos asked, if_neg (by simp [asked])]
    exact modeSlot_of_settings (requestDrain_settings { u with modeSlot := some m })
  · rw [if_neg asked, if_pos]
    cases marked : u.marked with
    | true => rfl
    | false => cases has : u.hasMode m with
      | true => rfl
      | false => exact absurd ⟨marked, has⟩ asked

/-- Of a unit's settings a MODE request writes the MODE slot alone. -/
theorem requestMode_settings (u : UnitRec) (m : TargetMode) :
    (u.requestMode m).settings = { u with modeSlot := (u.requestMode m).modeSlot }.settings := by
  unfold UnitRec.requestMode
  split
  · rfl
  · rw [requestDrain_settings, modeSlot_of_settings (requestDrain_settings _)]

theorem reconciled_settings (part : PartState) (r : SegRec) (u : UnitRec) :
    (u.reconciled part r).settings = { u with modeSlot := (u.reconciled part r).modeSlot }.settings := by
  unfold UnitRec.reconciled
  split
  · split
    · exact requestMode_settings ..
    · rfl
  · rfl

/-- R20: the record asks for its commanded mode. -/
def ModeWanted (r : SegRec) : Prop :=
  r.link = .present ∧ r.acquired = true ∧ ∃ o, r.observed = some o ∧
    o.mode ≠ unitModeOf r.commanded ∧ o.mode ≠ .overheat ∧ heldDormant o = false

theorem reconcileTarget_eq (r : SegRec) [Decidable (ModeWanted r)] :
    reconcileTarget r = if ModeWanted r then some r.commanded else none := by
  unfold reconcileTarget
  cases link : r.link with
  | present =>
    cases observed : r.observed with
    | none => exact (if_neg fun ⟨_, _, o, g, _⟩ => by rw [observed] at g; exact nomatch g).symm
    | some o =>
      dsimp only
      by_cases quiet : (!r.acquired || o.mode = unitModeOf r.commanded || o.mode = .overheat || heldDormant o) = true
      · rw [if_pos quiet]
        refine (if_neg fun ⟨_, acquired, o', g, other, cool, awake⟩ => ?_).symm
        rw [observed] at g
        cases g
        simp [acquired, other, cool, awake] at quiet
      · rw [if_neg quiet]
        simp only [Bool.or_eq_true, Bool.not_eq_true', decide_eq_true_eq, not_or, Bool.not_eq_false, Bool.not_eq_true] at quiet
        obtain ⟨⟨⟨acquired, other⟩, cool⟩, awake⟩ := quiet
        exact (if_pos ⟨link, acquired, o, observed, other, cool, awake⟩).symm
  | _ => exact (if_neg fun ⟨present, _⟩ => by rw [link] at present; exact nomatch present).symm

theorem reconciled_modeSlot (part : PartState) (r : SegRec) (u : UnitRec) [Decidable (ModeWanted r)] :
    (u.reconciled part r).modeSlot = if (part = .run ∧ ModeWanted r) ∧ u.marked = false ∧ u.hasMode r.commanded = false then
      some r.commanded else u.modeSlot := by
  unfold UnitRec.reconciled
  rw [reconcileTarget_eq]
  by_cases run : part = .run
  · rw [if_pos run]
    by_cases wanted : ModeWanted r
    · rw [if_pos wanted]
      simp only [run, wanted, true_and]
      exact requestMode_modeSlot ..
    · rw [if_neg wanted, if_neg fun g => wanted g.1.2]
  · rw [if_neg run, if_neg fun g => run g.1.1]

end

end Sys2Proof.Machine

/-! SET UNIT MODE as a command, and O18. -/

namespace Sys2Proof.Machine

section
variable {s t u w x y z : State} {k j : SegId}

theorem Undisturbed.with_engine {e f : EngineRec} (h : Undisturbed x y) (hr : f.rampStep = e.rampStep)
    (hu : ∀ k : SegId, f.units[k].settings = e.units[k].settings) :
    Undisturbed { x with engine := e } { y with engine := f } :=
  { h with
    ramp := hr
    unit := hu }

theorem Writes.eq_engine (h : Writes [.engine] s t) : t = { s with engine := t.engine } := by
  have sys := h.sys
  have ports := h.ports
  have loop := h.loop
  have alloc := h.alloc
  have meter := h.meter
  have talk := h.talk
  have store := h.store
  have play := h.play
  have brk := h.brk
  have inc := h.inc
  have plant := h.plant
  have wire := h.wire
  have mark : t.lastMark = s.lastMark := h.same .lastMark (by decide)
  have draws : t.draws = s.draws := h.same .draws (by decide)
  have pending : t.pending = s.pending := h.same .pending (by decide)
  cases s
  cases t
  simp only at sys ports loop alloc meter talk store play brk inc plant wire mark draws pending
  subst sys ports loop alloc meter talk store play brk inc plant wire mark draws pending
  rfl

/-- R19: a segment with another commanded mode. -/
def commanded (k : SegId) (m : TargetMode) (s : State) : State := s.modSeg k fun r => { r with commanded := m }

theorem commanded_seg (k j : SegId) (m : TargetMode) (s : State) :
    (commanded k m s).seg j = if k = j then { s.seg k with commanded := m } else s.seg j := modSeg_seg ..

/-- R19, R21: the segment's record with its new mode and limit. -/
def remoded (k : SegId) (m : TargetMode) (s : State) : SegRec :=
  { s.seg k with commanded := m, eff := limitOf { s.seg k with commanded := m } (s.unit k).marked s.loop.derate }

/-- The records after a SET UNIT MODE. -/
def remodedSeg (k : SegId) (m : TargetMode) (s : State) (j : SegId) : SegRec := if j = k then remoded k m s else s.seg j

/-- The state with the segment's new record, and with the MODE slots of `t`. -/
def remodedWith (k : SegId) (m : TargetMode) (s t : State) : State :=
  { s.modSeg k (fun _ => remoded k m s) with
    engine.units := Vector.ofFn fun j => { s.unit j with modeSlot := (t.unit j).modeSlot } }

theorem remoded_seg (k j : SegId) (m : TargetMode) (s : State) :
    (s.modSeg k fun _ => remoded k m s).seg j = remodedSeg k m s j := by
  rw [modSeg_seg, remodedSeg]
  exact if_congr eq_comm rfl rfl

theorem recomputed_seg (k j : SegId) (m : TargetMode) (s : State) :
    (recomputeLimit k (commanded k m s)).seg j = remodedSeg k m s j := by
  rw [recomputeLimit_seg, commanded_seg, remodedSeg]
  by_cases e : k = j
  · subst e
    rw [if_pos rfl, if_pos rfl, if_pos rfl, commanded_seg, if_pos rfl]
    rfl
  · rw [if_neg e, if_neg e, if_neg (Ne.symm e)]

theorem commandMode_writes (k : SegId) (m : TargetMode) (s : State) :
    Writes [.engine] (recomputeLimit k (commanded k m s)) (commandMode k m s) := by
  unfold commandMode
  exact forSegs_reconcile_writes _

/-- R54: the rounds of a new mode. -/
theorem commandMode_rounds (k : SegId) (m : TargetMode) (s : State) :
    RoundsAt (s.modSeg k fun _ => remoded k m s) (commandMode k m s) fun j => j = k ∧ (remoded k m s).eff ≠ (s.seg k).eff := by
  refine roundsAt_of_newLimit (x := commanded k m s) (e := fun j => (remodedSeg k m s j).eff) rfl rfl rfl
    (fun j => by rw [remoded_seg]) fun j => ?_
  have aseg : (commandMode k m s).aseg j = (recomputeLimit k (commanded k m s)).aseg j := by
    rw [State.aseg, (commandMode_writes k m s).alloc]
    rfl
  have limit : (commanded k m s).newLimit k = (remoded k m s).eff := by
    rw [State.newLimit, commanded_seg, if_pos rfl]
    rfl
  have eff : ((commanded k m s).seg k).eff = (s.seg k).eff := by rw [commanded_seg, if_pos rfl]
  rw [aseg, recomputeLimit_aseg, limit, eff]
  refine ⟨fun ⟨⟨same, changed⟩, run, inside⟩ => ?_, fun out => if_neg fun ⟨same, changed, run, inside⟩ => ?_⟩
  · subst same
    rw [if_pos ⟨rfl, changed, run, inside⟩]
    dsimp only
    rw [remodedSeg, if_pos rfl]
  · subst same
    exact out ⟨⟨rfl, changed⟩, run, inside⟩

/-- R20: a MODE is asked for in a segment. -/
def ModeAsked (k : SegId) (m : TargetMode) (s : State) (j : SegId) : Prop :=
  s.sys.part = .run ∧ j.val < s.loop.n ∧ ModeWanted (remodedSeg k m s j)

theorem commandMode_unit (k j : SegId) (m : TargetMode) (s : State) : (commandMode k m s).unit j =
    if j.val < s.loop.n then ((recomputeLimit k (commanded k m s)).unit j).reconciled s.sys.part (remodedSeg k m s j)
    else (recomputeLimit k (commanded k m s)).unit j := by
  have quiet := recomputeLimit_undisturbed k (commanded k m s)
  have pass := forSegs_reconcile_unit (recomputeLimit k (commanded k m s)) j
  rw [quiet.n, quiet.sys, recomputed_seg] at pass
  exact pass

theorem recomputed_settings (k j : SegId) (m : TargetMode) (s : State) :
    ((recomputeLimit k (commanded k m s)).unit j).settings = (s.unit j).settings :=
  (recomputeLimit_undisturbed k (commanded k m s)).unit j

theorem marked_of_settings {u v : UnitRec} (h : u.settings = v.settings) : u.marked = v.marked := (congrArg UnitRec.marked h :)

theorem inflight_of_settings {u v : UnitRec} (h : u.settings = v.settings) : u.inflight = v.inflight := (congrArg UnitRec.inflight h :)

theorem hasMode_of_settings {u v : UnitRec} (h : u.settings = v.settings) (m : TargetMode) : u.hasMode m = v.hasMode m := by
  unfold UnitRec.hasMode
  rw [modeSlot_of_settings h, inflight_of_settings h]

theorem withModeSlot_settings {u v : UnitRec} (h : u.settings = v.settings) (m : Option TargetMode) :
    { u with modeSlot := m }.settings = { v with modeSlot := m }.settings :=
  (congrArg (fun r : UnitRec => { r with modeSlot := m }) h :)

/-- R20: the MODE slots that a changed mode leaves. -/
def ModeSlots (k : SegId) (m : TargetMode) (s t : State) : Prop :=
  ∀ j : SegId,
    (ModeAsked k m s j ∧ (s.unit j).marked = false ∧ (s.unit j).hasMode (remodedSeg k m s j).commanded = false →
      (t.unit j).modeSlot = some (remodedSeg k m s j).commanded) ∧
    (¬ (ModeAsked k m s j ∧ (s.unit j).marked = false ∧ (s.unit j).hasMode (remodedSeg k m s j).commanded = false) →
      (t.unit j).modeSlot = (s.unit j).modeSlot)

/-- R20: the MODE slots of a new mode. -/
theorem commandMode_modeSlot (k : SegId) (m : TargetMode) (s : State) : ModeSlots k m s (commandMode k m s) := by
  classical
  intro j
  have settings := recomputed_settings k j m s
  rw [commandMode_unit]
  by_cases inside : j.val < s.loop.n
  · rw [if_pos inside, reconciled_modeSlot, marked_of_settings settings, hasMode_of_settings settings, modeSlot_of_settings settings]
    have asked : ModeAsked k m s j ↔ s.sys.part = .run ∧ ModeWanted (remodedSeg k m s j) :=
      and_congr_right fun _ => and_iff_right inside
    rw [asked]
    exact ⟨fun g => if_pos g, fun g => if_neg g⟩
  · rw [if_neg inside]
    exact ⟨fun g => absurd g.1.2.1 inside, fun _ => modeSlot_of_settings settings⟩

theorem commandMode_settings (k j : SegId) (m : TargetMode) (s : State) :
    ((commandMode k m s).unit j).settings = { s.unit j with modeSlot := ((commandMode k m s).unit j).modeSlot }.settings := by
  have settings := recomputed_settings k j m s
  rw [commandMode_unit]
  split
  · rw [reconciled_settings]
    exact withModeSlot_settings settings _
  · rw [settings, modeSlot_of_settings settings]

/-- R19: what a new mode makes of the part, MODE slots aside, is no more than the end of an event may make. -/
theorem commandMode_undisturbed (k : SegId) (m : TargetMode) (s : State) :
    Undisturbed (remodedWith k m s (commandMode k m s)) (commandMode k m s) := by
  have quiet := recomputeLimit_undisturbed k (commanded k m s)
  have limits : Undisturbed (s.modSeg k fun _ => remoded k m s) (recomputeLimit k (commanded k m s)) :=
    Undisturbed.of_limits (w := s.modSeg k fun _ => remoded k m s) quiet rfl fun j => by
      refine Eq.trans ?_ (congrArg SegRec.settings (commanded_seg k j m s)).symm
      rw [modSeg_seg]
      split <;> rfl
  have writes := commandMode_writes k m s
  have ramp : (commandMode k m s).engine.rampStep = s.engine.rampStep := by
    unfold commandMode
    rw [forSegs_reconcile_rampStep]
    exact quiet.ramp
  have units (j : SegId) := commandMode_settings k j m s
  have same := writes.eq_engine
  generalize commandMode k m s = z at *
  rw [same]
  refine limits.with_engine ramp fun j => ?_
  simp only [Fin.getElem_fin, Vector.getElem_ofFn]
  exact units j

end

end Sys2Proof.Machine

/-! O18. -/

namespace Sys2Proof.Machine

section
variable {s : State} {k : SegId} {seg mode : Byte} {m m' : TargetMode} {st : Status}

theorem targetOfCode_eq_none {b : Byte} (h : 2 < b.toNat) : targetOfCode b.toNat = none := by
  unfold targetOfCode
  split
  · omega
  · omega
  · omega
  · rfl

theorem setUnitMode_refused (h : seg.toNat = 0 ∨ s.loop.n < seg.toNat ∨ 2 < mode.toNat) :
    setUnitMode seg mode s = refuse .badArgument s := by
  unfold setUnitMode
  by_cases out : seg.toNat = 0 ∨ s.loop.n < seg.toNat
  · rw [segOf_eq_none out]
  · have unnamed : targetOfCode mode.toNat = none := targetOfCode_eq_none (by omega)
    rw [unnamed]
    cases segOf s seg <;> rfl

section
variable (hk : seg.toNat = k.val + 1) (hn : k.val < s.loop.n) (hm : mode = targetCode m)
include hk hn hm

theorem setUnitMode_named : setUnitMode seg mode s =
    if s.loop.level = .incident ∧ m ≠ .active then refuse .incident s
    else if m = .dormant ∧ inSet (liveClaims s) k = true then takeMode k m .standby .converted s
    else takeMode k m m .ok s := by
  have named : targetOfCode mode.toNat = some m := by rw [hm, targetOfCode_targetCode]
  simp only [setUnitMode, segOf_eq_some hk hn, named]

/-- R19: the mode and the status that the table gives. -/
theorem setUnitMode_taken (h : s.loop.level = .normal ∨ m = .active) : setUnitMode seg mode s =
    takeMode k m (if m = .dormant ∧ inSet (liveClaims s) k = true then .standby else m)
      (if m = .dormant ∧ inSet (liveClaims s) k = true then .converted else .ok) s := by
  have open_ : ¬ (s.loop.level = .incident ∧ m ≠ .active) := by
    rintro ⟨level, other⟩
    rcases h with h | h
    · rw [h] at level
      exact nomatch level
    · exact other h
  rw [setUnitMode_named hk hn hm, if_neg open_]
  split <;> rfl

end

theorem takeMode_same (h : (s.seg k).commanded = m ∨ (s.seg k).commanded = m') : takeMode k m m' st s = (s, ⟨st, []⟩) := if_pos h

theorem takeMode_changes (h : (s.seg k).commanded ≠ m) (h' : (s.seg k).commanded ≠ m') :
    takeMode k m m' st s = (settle s (commandMode k m' s), ⟨st, []⟩) := if_neg (not_or.mpr ⟨h, h'⟩)

end

section
variable {i : Instr} {p : Port} {code : Byte} {bytes : List Byte} {body : State → State × Reply} {s : State} {k : SegId}
  {m : TargetMode} {st : Status}

theorem remodedWith_congr (k : SegId) (m : TargetMode) (s : State) {t u : State} (h : t.engine = u.engine) :
    remodedWith k m s t = remodedWith k m s u := by
  unfold remodedWith State.unit
  rw [h]

theorem remodedWith_modPort (k : SegId) (m : TargetMode) (p : Port) (f : PortRec → PortRec) (s t : State) :
    remodedWith k m (s.modPort p f) t = (remodedWith k m s t).modPort p f := rfl

/-- R19: the state that a changed mode leaves, as the block sees it. -/
theorem mode_made (k : SegId) (m : TargetMode) (before s : State) :
    let t := settle before (commandMode k m s)
    Undisturbed (remodedWith k m s t) t ∧ (∀ j, t.seg j = remodedSeg k m s j) ∧ ModeSlots k m s t ∧
      RoundsAt (s.modSeg k fun _ => remoded k m s) t fun j => j = k ∧ (remoded k m s).eff ≠ (s.seg k).eff := by
  intro t
  have settled := writes_settle (s := commandMode k m s) before
  have quiet := (commandMode_undisturbed k m s).trans (settle_undisturbed before _)
  have rounds := commandMode_rounds k m s
  have slots := commandMode_modeSlot k m s
  have seg (j : SegId) : (commandMode k m s).seg j = remodedSeg k m s j := by
    rw [State.seg, (commandMode_writes k m s).loop]
    exact recomputed_seg k j m s
  rw [← remodedWith_congr k m s settled.engine] at quiet
  refine ⟨quiet, fun j => ?_, fun j => ?_, rounds.carry rfl rfl rfl settled.alloc fun _ _ => Iff.rfl⟩
  · rw [← seg, State.seg, settled.loop]
    rfl
  · have unit : t.unit j = (commandMode k m s).unit j := congrArg (fun e : EngineRec => e.units[j]) settled.engine
    rw [unit]
    exact slots j

/-- R19: a changed mode, answered. -/
theorem mode_answered (hf : commandFields i = some (p, code, bytes)) (he : exec i s = .next (portCommand i body s)) (hr : Ready i s)
    (hb : ∀ u, u = (s.modPort p fun q => q.shift (commandFrame code bytes)) → body u = (settle u (commandMode k m u), ⟨st, []⟩)) :
    ∃ t, exec i s = .next t ∧ Undisturbed (served i st [] (remodedWith k m s t)) t ∧ (∀ j, t.seg j = remodedSeg k m s j) ∧
      ModeSlots k m s t ∧
      RoundsAt (s.modSeg k fun _ => remoded k m s) t fun j => j = k ∧ (remoded k m s).eff ≠ (s.seg k).eff := by
  have run := hb _ rfl
  obtain ⟨quiet, segs, slots, rounds⟩ := mode_made k m (s.modPort p fun q => q.shift (commandFrame code bytes))
    (s.modPort p fun q => q.shift (commandFrame code bytes))
  generalize settle (s.modPort p fun q => q.shift (commandFrame code bytes)) _ = t at *
  rw [remodedWith_modPort] at quiet
  obtain ⟨done, undisturbed⟩ := served_of_body (w := remodedWith k m s t) hf he hr run quiet
  exact ⟨_, done, undisturbed, segs, slots, rounds.carry rfl rfl rfl rfl fun _ _ => Iff.rfl⟩

end

theorem eq_ite_of {α : Type} {c : Prop} [Decidable c] {x a b : α} (h : c → x = a) (h' : ¬ c → x = b) : x = if c then a else b := by
  split
  · next holds => exact h holds
  · next fails => exact h' fails

/-- Settles O18. -/
theorem unitModeCommand : Obligations.UnitModeCommand := by
  intro p seg mode s hr
  refine ⟨fun bad => ?_, fun k m hk hn hm => ⟨fun level other => ?_, fun may same => ?_, fun may h h' => ?_⟩⟩
  · exact congrArg Host.Outcome.next (portCommand_served rfl hr (setUnitMode_refused (s := s.modPort p _) bad))
  · refine congrArg Host.Outcome.next (portCommand_served rfl hr ((setUnitMode_named (s := s.modPort p _) hk hn hm).trans ?_))
    exact if_pos ⟨level, other⟩
  · refine congrArg Host.Outcome.next (portCommand_served rfl hr ((setUnitMode_taken (s := s.modPort p _) hk hn hm may).trans ?_))
    exact takeMode_same same
  · obtain ⟨t, done, undisturbed, segs, slots, rounds⟩ := mode_answered rfl rfl hr fun u hu => by
      subst hu
      exact (setUnitMode_taken (s := s.modPort p _) hk hn hm may).trans (takeMode_changes h h')
    exact ⟨t, done, undisturbed, segs, fun j => eq_ite_of (slots j).1 (slots j).2, rounds⟩

end Sys2Proof.Machine

/-! KEY and UNKEY (R90 to R92). -/

namespace Sys2Proof.Machine

theorem chanOf_eq_none {b : Byte} (h : b.toNat = 0 ∨ 2 < b.toNat) : chanOf b = none := by
  unfold chanOf
  split
  · omega
  · omega
  · rfl

theorem chanOf_eq_some {b : Byte} {c : Chan} (h : b.toNat = chanCode c) : chanOf b = some c := by
  unfold chanOf
  cases c <;> simp only [h, chanCode]

theorem modChan_modPort (p : Port) (f : PortRec → PortRec) (c : Chan) (g : TalkRec → TalkRec) (s : State) :
    (s.modPort p f).modChan c g = (s.modChan c g).modPort p f := rfl

/-- The floor, the pending side and the key are settings of a channel. -/
theorem talkReply_of_settings {q r : TalkRec} (h : q.settings = r.settings) : talkReply q = talkReply r := by
  have floor : q.floor = r.floor := (congrArg TalkRec.floor h :)
  have pending : q.pending = r.pending := (congrArg TalkRec.pending h :)
  have key : q.key = r.key := (congrArg TalkRec.key h :)
  simp only [talkReply, floor, pending, key]

/-- R102, R143: what an event of the talk controller ends with. -/
theorem talkEnd_undisturbed (before s : State) : Undisturbed s (settle before (talkFinish before s)) :=
  (talkFinish_undisturbed before s).trans (settle_undisturbed before _)

theorem talkAnswer_of_undisturbed {s t : State} (h : Undisturbed s t) (c : Chan) : talkAnswer c t = talkReply (s.chan c) :=
  talkReply_of_settings (h.chan c)

section
variable {i : Instr} {p : Port} {code : Byte} {bytes : List Byte} {body : State → State × Reply} {s : State}

/-- R90, R92: a command that leaves this record in the channel and answers with it. -/
theorem talk_answered (c : Chan) (r : TalkRec) (hf : commandFields i = some (p, code, bytes))
    (he : exec i s = .next (portCommand i body s)) (hr : Ready i s)
    (hb : ∀ u, u = (s.modPort p fun q => q.shift (commandFrame code bytes)) →
      body u = (settle u (talkFinish u (u.modChan c fun _ => r)),
        ⟨.ok, talkAnswer c (settle u (talkFinish u (u.modChan c fun _ => r)))⟩)) :
    Answers i s .ok (talkReply r) (s.modChan c fun _ => r) := by
  have run := hb _ rfl
  have quiet := talkEnd_undisturbed (s.modPort p fun q => q.shift (commandFrame code bytes))
    ((s.modPort p fun q => q.shift (commandFrame code bytes)).modChan c fun _ => r)
  have answer := talkAnswer_of_undisturbed quiet c
  rw [modChan_chan_same] at answer
  rw [answer] at run
  obtain ⟨done, undisturbed⟩ := served_of_body (w := s.modChan c fun _ => r) hf he hr run (modChan_modPort p _ c _ s ▸ quiet)
  exact ⟨_, done, undisturbed⟩

end

/-! ### KEY -/

section
variable {s : State} {c : Chan} {chan prio : Byte}

theorem keyCommand_refused (h : chan.toNat = 0 ∨ 2 < chan.toNat ∨ 1 < prio.toNat) :
    keyCommand chan prio s = refuse .badArgument s := by
  unfold keyCommand
  by_cases unnamed : chan.toNat = 0 ∨ 2 < chan.toNat
  · rw [chanOf_eq_none unnamed]
  · have unknown : flagOf prio = none := flagOf_eq_none (by omega)
    rw [unknown]
    cases chanOf chan <;> rfl

theorem keyCommand_stuck (hc : chan.toNat = chanCode c) (hp : prio.toNat ≤ 1) (hk : (s.chan c).key = .stuck) :
    keyCommand chan prio s = (s, ⟨.timedOut, talkReply (s.chan c)⟩) := by
  simp only [keyCommand, chanOf_eq_some hc, flagOf_eq_decide (by omega : ¬ 1 < prio.toNat), hk, if_true]
  rfl

theorem keyCommand_plain {r : TalkRec} (hc : chan.toNat = chanCode c) (hk : (s.chan c).key ≠ .stuck)
    (h : floorKey s.sys.uptime (s.chan c) = r) :
    keyCommand chan 0 s = (settle s (talkFinish s (s.modChan c fun _ => r)),
      ⟨.ok, talkAnswer c (settle s (talkFinish s (s.modChan c fun _ => r)))⟩) := by
  have left : keyFloor c s = s.modChan c fun _ => r := (keyFloor_eq c s).trans (modChan_congr h)
  simp only [keyCommand, chanOf_eq_some hc, flagOf_zero, hk, if_false, left, Bool.false_eq_true]

theorem keyCommand_priority {r : TalkRec} (hc : chan.toNat = chanCode c) (hk : (s.chan c).key ≠ .stuck)
    (h : floorPriority s.sys.uptime (carriersUp s c) (s.chan c) = r) :
    keyCommand chan 1 s = (settle s (talkFinish s (s.modChan c fun _ => r)),
      ⟨.ok, talkAnswer c (settle s (talkFinish s (s.modChan c fun _ => r)))⟩) := by
  have left : keyPriority c s = s.modChan c fun _ => r := (keyPriority_eq c s).trans (modChan_congr h)
  simp only [keyCommand, chanOf_eq_some hc, flagOf_one, hk, if_false, if_true, left]

end

section
variable {p : Port} {s : State} {c : Chan} {chan : Byte} {r : TalkRec}

theorem key_plain (hr : Ready (.key p chan 0) s) (hc : chan.toNat = chanCode c) (hk : (s.chan c).key ≠ .stuck)
    (h : floorKey s.sys.uptime (s.chan c) = r) :
    Answers (.key p chan 0) s .ok (talkReply r) (s.modChan c fun _ => r) :=
  talk_answered c r rfl rfl hr fun u hu => by subst hu; exact keyCommand_plain (s := s.modPort p _) hc hk h

theorem key_priority (hr : Ready (.key p chan 1) s) (hc : chan.toNat = chanCode c) (hk : (s.chan c).key ≠ .stuck)
    (h : floorPriority s.sys.uptime (carriersUp s c) (s.chan c) = r) :
    Answers (.key p chan 1) s .ok (talkReply r) (s.modChan c fun _ => r) :=
  talk_answered c r rfl rfl hr fun u hu => by subst hu; exact keyCommand_priority (s := s.modPort p _) hc hk h

end

/-- Settles O29. -/
theorem Settled.keyCommand : Obligations.KeyCommand := by
  unfold Obligations.KeyCommand
  intro p chan prio s hr
  refine ⟨fun bad => ?_, fun c hc hp => ?_⟩
  · exact congrArg Host.Outcome.next (portCommand_served rfl hr (keyCommand_refused (s := s.modPort p _) bad))
  · dsimp only
    refine ⟨fun stuck => ?_, fun free plain => ?_, fun free priority => ?_⟩
    · exact congrArg Host.Outcome.next (portCommand_served rfl hr (keyCommand_stuck (s := s.modPort p _) hc hp stuck))
    · subst plain
      refine ⟨fun floor => ?_, fun floor => ?_, fun floor => ?_, fun floor side => ?_, fun floor side => ?_⟩ <;>
        refine key_plain hr hc free ?_
      · simp only [floorKey, floor]
      · simp only [floorKey, floor]
      · simp only [floorKey, floor]
      · simp only [floorKey, floor, side]
      · unfold floorKey
        rw [floor]
        rcases hs : (s.chan c).hangSide with _ | _ | _
        · rfl
        · rfl
        · exact absurd hs side
    · subst priority
      refine ⟨fun floor => ?_, fun floor pending => ?_, fun floor pending => ?_, fun floor pending => ?_,
        fun floor pending => ?_⟩ <;> refine key_priority hr hc free ?_
      · simp only [floorPriority, floor, true_or, if_true, carriersUp]
      · simp only [floorPriority, floor, pending, or_true, if_true, carriersUp]
      · simp only [floorPriority, floor, pending, reduceCtorEq, or_false, if_false]
      · rcases floor with floor | floor <;> simp only [floorPriority, floor, pending, or_true, if_true, carriersUp]
      · rcases floor with floor | floor <;> simp only [floorPriority, floor, pending, reduceCtorEq, or_false, if_false]

/-! ### UNKEY -/

theorem unkeyCommand_refused {s : State} {chan : Byte} (h : chan.toNat = 0 ∨ 2 < chan.toNat) :
    unkeyCommand chan s = refuse .badArgument s := by simp only [unkeyCommand, chanOf_eq_none h]

theorem unkeyCommand_named {s : State} {c : Chan} {chan : Byte} {r : TalkRec} (hc : chan.toNat = chanCode c)
    (h : floorUnkey s.sys.uptime s.talk.hangMs (bestVote s c) (s.chan c) = r) :
    unkeyCommand chan s = (settle s (talkFinish s (s.modChan c fun _ => r)),
      ⟨.ok, talkAnswer c (settle s (talkFinish s (s.modChan c fun _ => r)))⟩) := by
  have left : unkeyFloor c s = s.modChan c fun _ => r := (unkeyFloor_eq c s).trans (modChan_congr h)
  simp only [unkeyCommand, chanOf_eq_some hc, left]

theorem unkey_answered {p : Port} {s : State} {c : Chan} {chan : Byte} {r : TalkRec} (hr : Ready (.unkey p chan) s)
    (hc : chan.toNat = chanCode c) (h : floorUnkey s.sys.uptime s.talk.hangMs (bestVote s c) (s.chan c) = r) :
    Answers (.unkey p chan) s .ok (talkReply r) (s.modChan c fun _ => r) :=
  talk_answered c r rfl rfl hr fun u hu => by subst hu; exact unkeyCommand_named (s := s.modPort p _) hc h

/-- Settles O30. -/
theorem Settled.unkeyCommand : Obligations.UnkeyCommand := by
  unfold Obligations.UnkeyCommand
  intro p chan s hr
  refine ⟨fun bad => ?_, fun c hc => ?_⟩
  · exact congrArg Host.Outcome.next (portCommand_served rfl hr (unkeyCommand_refused (s := s.modPort p _) bad))
  · dsimp only
    refine ⟨fun key floor => ?_, fun key floor => ?_, fun key => ?_, fun key => ?_⟩ <;> refine unkey_answered hr hc ?_
    · simp only [floorUnkey, key, floor]
    · unfold floorUnkey
      rw [key]
      cases hf : (s.chan c).floor with
      | outbound => exact absurd hf floor
      | idle => rfl
      | inbound => rfl
      | hang => rfl
    · simp only [floorUnkey, key]
    · simp only [floorUnkey, key]

end Sys2Proof.Machine

/-! The timers of the talk channels (R93, R95, R96) and the airtime mark (R75, R76). -/

namespace Sys2Proof.Machine

/-! ### Hang and time-out -/

section
variable {c : Chan} {s : State} {r : TalkRec}

/-- R93. -/
theorem hangExpiry_becomes (h : .hangExpiry c ∈ dueRows s) (hx : floorHangEnd s.sys.uptime (bestVote s c) (s.chan c) = r) :
    Becomes (.hangExpiry c) s (s.modChan c fun _ => r) := by
  have due : hangDue s c = true := (mem_dueRows.mp h).2
  have left : expireHang c s = s.modChan c fun _ => r := (expireHang_eq c s).trans (modChan_congr hx)
  refine ⟨_, ?_, talkEnd_undisturbed s (s.modChan c fun _ => r)⟩
  refine congrArg Host.Outcome.next ((if_neg (Bool.eq_false_iff.mp (held_of_due h))).trans ?_)
  rw [← left]
  exact if_pos due

/-- R95, R96. -/
theorem totExpiry_becomes (h : .totExpiry c ∈ dueRows s) (hx : floorTot s c (s.chan c) = r) :
    Becomes (.totExpiry c) s (s.modChan c fun _ => r) := by
  have due : totDue s c = true := (mem_dueRows.mp h).2
  have left : expireTot c s = s.modChan c fun _ => r := (expireTot_eq c s).trans (modChan_congr hx)
  refine ⟨_, ?_, talkEnd_undisturbed s (s.modChan c fun _ => r)⟩
  refine congrArg Host.Outcome.next ((if_neg (Bool.eq_false_iff.mp (held_of_due h))).trans ?_)
  rw [← left]
  exact if_pos due

theorem floor_of_hangExpiry_due (h : .hangExpiry c ∈ dueRows s) : (s.chan c).floor = .hang := by
  have due : hangDue s c = true := (mem_dueRows.mp h).2
  simp only [hangDue, Bool.and_eq_true, decide_eq_true_eq] at due
  exact due.1

end

/-! ### Airtime -/

/-- From `s` to `t` only the airtime accumulators and the event queues change. -/
structure AirtimeAndEvents (s t : State) : Prop where
  rest : { t with ports := s.ports, meter := { t.meter with airtime := s.meter.airtime } } = s
  port : ∀ p, (t.port p).settings = (s.port p).settings

namespace AirtimeAndEvents

theorem refl (s : State) : AirtimeAndEvents s s := ⟨rfl, fun _ => rfl⟩

theorem trans {s t u : State} (h : AirtimeAndEvents s t) (g : AirtimeAndEvents t u) : AirtimeAndEvents s u where
  rest := by
    have back := congrArg (fun v : State => { v with ports := s.ports, meter := { v.meter with airtime := s.meter.airtime } }) g.rest
    exact back.trans h.rest
  port p := (g.port p).trans (h.port p)

theorem raise (s : State) (d : Tri Bool) (e : EventKind) (x : Byte) (a b : Half) : AirtimeAndEvents s (s.raise d e x a b) :=
  ⟨rfl, (raise_undisturbed s d e x a b).port⟩

theorem talk {s t : State} (h : AirtimeAndEvents s t) : t.talk = s.talk := (congrArg State.talk h.rest :)

theorem chan {s t : State} (h : AirtimeAndEvents s t) (c : Chan) : t.chan c = s.chan c :=
  congrArg (fun r : TalkTable => r.chans.get c) h.talk

theorem sys {s t : State} (h : AirtimeAndEvents s t) : t.sys = s.sys := (congrArg State.sys h.rest :)

/-- R75: the mark is noted with the accumulators. -/
theorem marked {s t : State} (h : AirtimeAndEvents s t) (x : Option Word) :
    OnlyEvents { s with lastMark := x, meter := { s.meter with airtime := t.meter.airtime } } { t with lastMark := x } := by
  refine ⟨?_, h.port⟩
  have back := congrArg (fun v : State => { v with lastMark := x, meter := { v.meter with airtime := t.meter.airtime } }) h.rest
  exact back

end AirtimeAndEvents

/-- R75: the accumulator of a channel at a mark. -/
def airtimeAfter (floor : FloorState) (a : AirtimeAcc) : AirtimeAcc := if floor = .idle then a else a.gain.1

theorem gainAirtime_frame (s : State) (c : Chan) : AirtimeAndEvents s (gainAirtime s c) := by
  unfold gainAirtime
  dsimp only
  have written (a : AirtimeAcc) :
      AirtimeAndEvents s { s with meter := { s.meter with airtime := s.meter.airtime.set c a } } := ⟨rfl, fun _ => rfl⟩
  split
  · exact .refl s
  · split
    · exact (written _).trans (.raise ..)
    · exact written _

theorem gainAirtime_get (s : State) (c d : Chan) : (gainAirtime s c).meter.airtime.get d =
    if c = d then airtimeAfter (s.chan c).floor (s.meter.airtime.get c) else s.meter.airtime.get d := by
  unfold gainAirtime airtimeAfter
  by_cases idle : (s.chan c).floor = .idle
  · simp only [idle, if_true]
    split
    · next same => rw [← same]
    · rfl
  · simp only [idle, if_false]
    split <;> exact Pair_get_set ..

theorem airtimeAfter_value (floor : FloorState) (a : AirtimeAcc) :
    (airtimeAfter floor a).value = a.value + (if floor = .idle then 0 else 1) := by
  unfold airtimeAfter AirtimeAcc.gain
  split
  · exact (BitVec.add_zero _).symm
  · split <;> rfl

theorem airtimeAfter_wrapped (floor : FloorState) (a : AirtimeAcc) :
    (airtimeAfter floor a).wrapped = (a.wrapped || decide (floor ≠ .idle) && decide (a.value = 0xffffffff#32)) := by
  unfold airtimeAfter AirtimeAcc.gain
  by_cases idle : floor = .idle
  · simp [idle]
  · by_cases last : a.value = 0xffffffff#32
    · simp [idle, last]
    · have more : a.value.toNat + 1 < 2 ^ 32 := by bv_omega
      rw [if_neg idle, if_pos more]
      simp [idle, last]

/-- Settles O32. -/
theorem talkTimersRun : Obligations.TalkTimersRun := by
  unfold Obligations.TalkTimersRun
  refine ⟨fun c s => ?_, fun s mark => ?_⟩
  · dsimp only
    refine ⟨fun hang => ?_, fun tot => ?_⟩
    · have floor := floor_of_hangExpiry_due hang
      refine ⟨fun pending => ?_, fun pending => ?_, fun pending => ?_⟩ <;> refine hangExpiry_becomes hang ?_
      · simp only [floorHangEnd, floor, pending]
      · simp only [floorHangEnd, floor, pending]
      · simp only [floorHangEnd, floor, pending]
    · refine ⟨fun floor pending => ?_, fun floor pending => ?_, fun floor => ?_⟩ <;> refine totExpiry_becomes tot ?_
      · simp only [floorTot, floor, pending, if_true, barEligible]
      · simp only [floorTot, floor, pending, if_false, barEligible]
      · simp only [floorTot, floor]
  · have due : markDue s = true := (mem_dueRows.mp mark).2
    have first := gainAirtime_frame s .t1
    have frame := first.trans (gainAirtime_frame _ .t2)
    have done : exec .airtimeMark s =
        .next { gainAirtime (gainAirtime s .t1) .t2 with lastMark := some s.sys.uptime } :=
      congrArg Host.Outcome.next ((if_neg (Bool.eq_false_iff.mp (held_of_due mark))).trans (if_pos due))
    have get (c : Chan) : (gainAirtime (gainAirtime s .t1) .t2).meter.airtime.get c =
        airtimeAfter (s.chan c).floor (s.meter.airtime.get c) := by
      cases c with
      | t1 => rw [gainAirtime_get, if_neg (by decide), gainAirtime_get, if_pos rfl]
      | t2 => rw [gainAirtime_get, if_pos rfl, first.chan, gainAirtime_get, if_neg (by decide)]
    refine ⟨_, done, frame.marked _, fun c => ⟨?_, ?_⟩⟩
    · exact (congrArg AirtimeAcc.value (get c)).trans (airtimeAfter_value ..)
    · exact (congrArg AirtimeAcc.wrapped (get c)).trans (airtimeAfter_wrapped ..)

end Sys2Proof.Machine

/-! Eligibility, the vote and uplink notices (R18, R80, R82, R83, R88, R89, R97). -/

namespace Sys2Proof.Machine

/-! ### The eligible set -/

theorem setOf_eq_zero_iff {f : SegId → Bool} : setOf f = 0 ↔ ∀ k, f k = false := by
  constructor
  · intro empty k
    rw [← inSet_setOf f k, empty]
    exact BitVec.getLsbD_zero
  · intro none_in
    have same : f = fun _ => false := funext none_in
    rw [same]
    decide

theorem mem_eligibleSet (s : State) (c : Chan) (k : SegId) : inSet (eligibleSet s c) k = true ↔
    k.val < s.loop.n ∧ (s.seg k).link = .present ∧ inSet (s.chan c).coverage k = true ∧ ((s.upl k).get c).carrier = true ∧
    3 ≤ ((s.upl k).get c).quality.toNat ∧ inSet (s.chan c).barred k = false := by
  rw [eligibleSet, inSet_setOf]
  simp only [isEligible, Bool.and_eq_true, decide_eq_true_eq, Bool.not_eq_true', and_assoc]

/-! ### The vote -/

/-- R83: among the candidates, one of the highest quality, the lowest number among equals. -/
def Outvotes (q : SegId → Nat) (among : List SegId) (v : SegId) : Prop :=
  v ∈ among ∧ ∀ k ∈ among, q k ≤ q v ∧ (q k = q v → v ≤ k)

/-- Ascending candidates, compared one after the other, leave the best of them. -/
theorem foldl_betterVote (s : State) (c : Chan) (l : List SegId) (b : SegId) (sorted : (b :: l).Pairwise (· < ·)) :
    ∃ v, l.foldl (betterVote s c) (some b) = some v ∧ Outvotes (qualityAt s c) (b :: l) v := by
  induction l generalizing b with
  | nil => exact ⟨b, rfl, by simp [Outvotes]⟩
  | cons a l ih =>
    obtain ⟨below, rest⟩ := List.pairwise_cons.mp sorted
    have first : b < a := below a List.mem_cons_self
    rw [List.foldl_cons]
    by_cases better : qualityAt s c b < qualityAt s c a
    · obtain ⟨v, found, inside, best⟩ := ih a rest
      rw [betterVote, if_pos better]
      refine ⟨v, found, List.mem_cons_of_mem _ inside, List.forall_mem_cons.mpr ⟨?_, best⟩⟩
      have most := (best a List.mem_cons_self).1
      exact ⟨by omega, fun same => by omega⟩
    · have without : (b :: l).Pairwise (· < ·) :=
        List.pairwise_cons.mpr ⟨fun x hx => below x (List.mem_cons_of_mem _ hx), (List.pairwise_cons.mp rest).2⟩
      obtain ⟨v, found, inside, best⟩ := ih b without
      rw [betterVote, if_neg better]
      obtain ⟨ofFirst, ofRest⟩ := List.forall_mem_cons.mp best
      refine ⟨v, found, ?_, List.forall_mem_cons.mpr ⟨ofFirst, List.forall_mem_cons.mpr ⟨⟨?_, fun same => ?_⟩, ofRest⟩⟩⟩
      · exact List.mem_cons.mpr ((List.mem_cons.mp inside).imp_right (List.mem_cons_of_mem _))
      · exact Nat.le_trans (Nat.le_of_not_lt better) ofFirst.1
      · exact Fin.le_trans (ofFirst.2 (by omega)) (Fin.le_of_lt first)

/-- The candidates, ascending. -/
def candidatesOf (s : State) (c : Chan) : List SegId := (List.finRange 24).filter (isEligible s c)

theorem mem_candidatesOf {s : State} {c : Chan} {k : SegId} : k ∈ candidatesOf s c ↔ inSet (eligibleSet s c) k = true := by
  rw [candidatesOf, eligibleSet, inSet_setOf, List.mem_filter]
  exact and_iff_right (List.mem_finRange k)

theorem candidatesOf_sorted (s : State) (c : Chan) : (candidatesOf s c).Pairwise (· < ·) :=
  List.Pairwise.filter _ (List.pairwise_lt_finRange 24)

theorem candidatesOf_eq_nil_iff {s : State} {c : Chan} : candidatesOf s c = [] ↔ eligibleSet s c = 0 := by
  rw [candidatesOf, List.filter_eq_nil_iff, eligibleSet, setOf_eq_zero_iff]
  simp only [List.mem_finRange, forall_const, Bool.not_eq_true]

theorem bestVote_outvotes {s : State} {c : Chan} :
    (eligibleSet s c = 0 ∧ bestVote s c = none) ∨
      (eligibleSet s c ≠ 0 ∧ ∃ v, bestVote s c = some v ∧ Outvotes (qualityAt s c) (candidatesOf s c) v) := by
  have run : bestVote s c = (candidatesOf s c).foldl (betterVote s c) none := rfl
  have sorted := candidatesOf_sorted s c
  have empty := candidatesOf_eq_nil_iff (s := s) (c := c)
  cases hl : candidatesOf s c with
  | nil =>
    rw [hl] at run
    exact .inl ⟨empty.mp hl, run⟩
  | cons b l =>
    rw [hl] at run sorted
    obtain ⟨v, found, best⟩ := foldl_betterVote s c l b sorted
    refine .inr ⟨fun h => ?_, v, run.trans found, best⟩
    rw [empty.mpr h] at hl
    exact nomatch hl

/-- R83: where the voted segment stays. -/
theorem revote_kept_iff {s : State} {c : Chan} {v : SegId} :
    (isEligible s c v && (List.finRange 24).all fun k => !isEligible s c k || decide (qualityAt s c k < qualityAt s c v + 2)) = true ↔
      inSet (eligibleSet s c) v = true ∧ ∀ k, inSet (eligibleSet s c) k = true → qualityAt s c k < qualityAt s c v + 2 := by
  simp only [eligibleSet, inSet_setOf, Bool.and_eq_true, List.all_eq_true, List.mem_finRange, forall_const, Bool.or_eq_true,
    Bool.not_eq_true', decide_eq_true_eq, ← Bool.not_eq_true, imp_iff_not_or]

theorem revote_of_voted {s : State} {c : Chan} {v : SegId} (h : (s.chan c).voted = some v) : revote s c =
    if isEligible s c v && (List.finRange 24).all fun k => !isEligible s c k || decide (qualityAt s c k < qualityAt s c v + 2)
    then some v else bestVote s c := by
  simp only [revote, h]

/-! ### A notice -/

/-- R18: the record a notice names. -/
theorem noticeSegment_named {s : State} {serial : Word} {k : SegId} (h : noticeSegment s serial = some k) :
    k.val < s.loop.n ∧ (s.seg k).link = .present ∧ (s.seg k).serial = some serial := by
  have found := List.find?_some h
  simp only [Bool.and_eq_true, decide_eq_true_eq, and_assoc] at found
  exact found

/-- R97: the segments that the written record releases. -/
def releasedBy (s : State) (k : SegId) (c : Chan) (u : UplinkRec) : SegSet :=
  if ((s.upl k).get c).carrier && !u.carrier then setOf fun j => j = k else 0

theorem releases_none (r : TalkRec) : { r with barred := r.barred &&& ~~~(0 : SegSet) } = r := by
  have all : ~~~(0 : SegSet) = BitVec.allOnes 24 := by decide
  have same : r.barred &&& ~~~(0 : SegSet) = r.barred := by rw [all, BitVec.and_allOnes]
  rw [same]

theorem writeUplink_eq (k : SegId) (c : Chan) (u : UplinkRec) (s : State) : writeUplink k c u s =
    ({ s with talk.uplink := vupd s.talk.uplink k fun p => p.set c u } : State).modChan c
      fun r => { r with barred := r.barred &&& ~~~(releasedBy s k c u) } := by
  unfold writeUplink releasedBy
  dsimp only
  cases ((s.upl k).get c).carrier && !u.carrier with
  | true => rfl
  | false =>
    exact (modChan_of_fixed (releases_none _)).symm

/-- R80, R97: the tables with the notice's record and sequence number. -/
def noticed (k : SegId) (f : NoticeFrame) (s : State) : State :=
  ({ s with talk.uplink := vupd s.talk.uplink k fun u => u.set f.chan f.uplink,
            talk.seq := vupd s.talk.seq k fun _ => some f.seq } : State).modChan f.chan
    fun r => { r with barred := r.barred &&& ~~~(releasedBy s k f.chan f.uplink) }

theorem takeNotice_seen {k : SegId} {f : NoticeFrame} {s : State} (h : s.talk.seq[k] = some f.seq) : takeNotice k f s = s :=
  if_pos h

theorem takeNotice_taken {k : SegId} {f : NoticeFrame} {s : State} (h : s.talk.seq[k] ≠ some f.seq) :
    takeNotice k f s = settle s (talkFinish s (reactFloor f.chan (noticed k f s))) := by
  have written : writeUplink k f.chan f.uplink (setSeq k (some f.seq) s) = noticed k f s := writeUplink_eq ..
  rw [takeNotice, if_neg h, written]

section
variable {x : Side} {frame : List Byte} {s : State} (free : s.sys.held = false)
include free

theorem exec_uplinkNotice : exec (.uplinkNotice x frame) s = .next (uplinkNotice frame s) :=
  congrArg Host.Outcome.next (if_neg (Bool.eq_false_iff.mp free))

theorem exec_uplinkNotice_unread (h : decodeNotice frame = none) : exec (.uplinkNotice x frame) s = .next s := by
  rw [exec_uplinkNotice free, uplinkNotice, h]

theorem exec_uplinkNotice_unknown {f : NoticeFrame} (h : decodeNotice frame = some f) (hn : noticeSegment s f.serial = none) :
    exec (.uplinkNotice x frame) s = .next s := by
  simp only [exec_uplinkNotice free, uplinkNotice, h, hn]

theorem exec_uplinkNotice_named {f : NoticeFrame} {k : SegId} (h : decodeNotice frame = some f)
    (hk : noticeSegment s f.serial = some k) : exec (.uplinkNotice x frame) s = .next (takeNotice k f s) := by
  simp only [exec_uplinkNotice free, uplinkNotice, h, hk]

end

/-- Settles O31. -/
theorem noticeTaken : Obligations.NoticeTaken := by
  unfold Obligations.NoticeTaken
  refine ⟨mem_eligibleSet, fun s c => ?_, fun s c v hv => ⟨fun stays => ?_, fun leaves => ?_⟩, fun x frame s free => ⟨?_, ?_⟩⟩
  · rcases bestVote_outvotes (s := s) (c := c) with ⟨empty, none⟩ | ⟨some_in, v, best, inside, outvotes⟩
    · refine ⟨iff_of_true none empty, fun v hv => ?_⟩
      rw [none] at hv
      exact nomatch hv
    · rw [best]
      refine ⟨iff_of_false (nomatch ·) some_in, fun w hw => ?_⟩
      cases hw
      exact ⟨mem_candidatesOf.mp inside, fun k hk => outvotes k (mem_candidatesOf.mpr hk)⟩
  · exact (revote_of_voted hv).trans (if_pos (revote_kept_iff.mpr stays))
  · exact (revote_of_voted hv).trans (if_neg fun kept => leaves (revote_kept_iff.mp kept))
  · rintro (unread | ⟨f, read, unknown⟩)
    · exact exec_uplinkNotice_unread free unread
    · exact exec_uplinkNotice_unknown free read unknown
  · intro f k read named
    refine ⟨noticeSegment_named named, fun seen => ?_, fun unseen => ?_⟩
    · rw [exec_uplinkNotice_named free read named, takeNotice_seen seen]
    · dsimp only
      refine ⟨_, exec_uplinkNotice_named free read named, ?_⟩
      rw [takeNotice_taken unseen, reactFloor_eq]
      exact talkEnd_undisturbed s ((noticed k f s).modChan f.chan _)

end Sys2Proof.Machine

/-! SET TALK TIMERS and SET COVERAGE (R84, R94, R98, R99). -/

namespace Sys2Proof.Machine

/-! ### Time-out -/

theorem totDue_congr {s t : State} {c : Chan} (now : t.sys.uptime = s.sys.uptime)
    (limit : limitInForce t.talk = limitInForce s.talk) (start : (t.chan c).totStart = (s.chan c).totStart) :
    totDue t c = totDue s c := by
  simp only [totDue, now, limit, start]

theorem totDue_of_unstarted {s : State} {c : Chan} (h : (s.chan c).totStart = none) : totDue s c = false := by
  simp only [totDue, h]

/-- A time-out limit is never 0 (R98). -/
def LimitPositive (s : State) : Prop := ∀ l, limitInForce s.talk = some l → 0 < l

theorem totDue_of_justStarted {s : State} {c : Chan} (limit : LimitPositive s) (h : (s.chan c).totStart = some s.sys.uptime) :
    totDue s c = false := by
  simp only [totDue, h]
  cases hl : limitInForce s.talk with
  | none => rfl
  | some l =>
    have positive := limit l hl
    have none_passed : elapsed s.sys.uptime s.sys.uptime = 0 := by simp [elapsed]
    simp only [none_passed, decide_eq_false_iff_not]
    omega

/-- R95, R96: an expiry leaves the TOT of its channel stopped or just started. -/
theorem floorTot_totStart {s : State} {c : Chan} {r : TalkRec} (h : r.floor = .inbound ∨ r.floor = .outbound) :
    (floorTot s c r).totStart = none ∨ (floorTot s c r).totStart = some s.sys.uptime := by
  rcases h with h | h
  · simp only [floorTot, h]
    split
    · exact .inr rfl
    · exact .inl rfl
  · simp only [floorTot, h, floorEnd]
    split
    · exact .inr rfl
    · exact .inl rfl

/-- R94: the TOT runs only while a side has the floor. -/
def TotRuns (s : State) (c : Chan) : Prop :=
  (s.chan c).totStart.isSome = true → (s.chan c).floor = .inbound ∨ (s.chan c).floor = .outbound

theorem totStart_of_due {s : State} {c : Chan} (h : totDue s c = true) : (s.chan c).totStart.isSome = true := by
  cases start : (s.chan c).totStart with
  | none => rw [totDue_of_unstarted start] at h; exact nomatch h
  | some w => rfl

/-- R94: the expiry of a channel that is due has occurred. -/
def expireDue (c : Chan) (s : State) : State := if totDue s c then expireTot c s else s

theorem expireTot_chan (c d : Chan) (s : State) : (expireTot c s).chan d = if c = d then floorTot s c (s.chan c) else s.chan d := by
  rw [expireTot_eq, modChan_chan]

theorem expireDue_sys (c : Chan) (s : State) : (expireDue c s).sys = s.sys := by
  unfold expireDue
  split
  · rw [expireTot_eq]; rfl
  · rfl

theorem expireDue_limit (c : Chan) (s : State) : limitInForce (expireDue c s).talk = limitInForce s.talk := by
  unfold expireDue
  split
  · rw [expireTot_eq]; rfl
  · rfl

theorem expireDue_other {c d : Chan} (h : c ≠ d) (s : State) : (expireDue c s).chan d = s.chan d := by
  unfold expireDue
  split
  · rw [expireTot_chan, if_neg h]
  · rfl

theorem totDue_expireDue {c : Chan} {s : State} (limit : LimitPositive s) (runs : TotRuns s c) :
    totDue (expireDue c s) c = false := by
  unfold expireDue
  split
  · next due =>
    have chan : (expireTot c s).chan c = floorTot s c (s.chan c) := by rw [expireTot_chan, if_pos rfl]
    have sys : (expireTot c s).sys = s.sys := by rw [expireTot_eq]; rfl
    have force : limitInForce (expireTot c s).talk = limitInForce s.talk := by rw [expireTot_eq]; rfl
    rcases floorTot_totStart (s := s) (c := c) (runs (totStart_of_due due)) with stopped | started
    · exact totDue_of_unstarted (by rw [chan]; exact stopped)
    · refine totDue_of_justStarted (fun l hl => limit l (force ▸ hl)) ?_
      rw [chan, sys]
      exact started
  · next idle => exact Bool.eq_false_iff.mpr idle

/-- R94: after both channels' expiries none is due. -/
theorem retime_none_due {old : Option Nat} {s : State} (limit : LimitPositive s) (runs : ∀ c, TotRuns s c)
    (changed : limitInForce s.talk ≠ old) (c : Chan) : totDue (retime old s) c = false := by
  have both : retime old s = expireDue .t2 (expireDue .t1 s) := if_neg changed
  rw [both]
  have first := totDue_expireDue limit (runs .t1)
  cases c with
  | t1 =>
    refine (totDue_congr ?_ (expireDue_limit ..) ?_).trans first
    · rw [expireDue_sys]
    · rw [expireDue_other (by decide)]
  | t2 =>
    refine totDue_expireDue (fun l hl => limit l (expireDue_limit .t1 s ▸ hl)) ?_
    unfold TotRuns
    rw [expireDue_other (by decide)]
    exact runs .t2

/-- R94: with the limit as it was, or with no expiry passed, nothing occurs. -/
theorem retime_still {old : Option Nat} {s : State} (h : limitInForce s.talk = old ∨ totDue s .t1 = false ∧ totDue s .t2 = false) :
    retime old s = s := by
  by_cases same : limitInForce s.talk = old
  · exact if_pos same
  · obtain ⟨first, second⟩ := h.resolve_left same
    refine (if_neg same).trans ?_
    dsimp only
    rw [first, if_neg Bool.false_ne_true, second]
    exact if_neg Bool.false_ne_true

/-! ### SET TALK TIMERS -/

/-- R98: the timers as the command sets them. -/
def timersSet (hang tot itot : Half) (s : State) : State :=
  { s with talk.hangMs := hang.toNat, talk.totS := tot.toNat, talk.itotS := itot.toNat }

section
variable {p : Port} {hang tot itot : Half} {s : State}

theorem setTalkTimers_refused
    (h : 5000 < hang.toNat ∨ hang.toNat % 100 ≠ 0 ∨ tot.toNat < 10 ∨ 600 < tot.toNat ∨ 600 < itot.toNat) :
    setTalkTimers hang tot itot s = refuse .badArgument s := by
  refine if_neg fun taken => ?_
  simp only [talkTimersOk, Bool.and_eq_true, decide_eq_true_eq] at taken
  omega

theorem setTalkTimers_accepted (h : hang.toNat ≤ 5000 ∧ hang.toNat % 100 = 0 ∧ 10 ≤ tot.toNat ∧ tot.toNat ≤ 600 ∧ itot.toNat ≤ 600) :
    setTalkTimers hang tot itot s =
      (settle s (talkFinish s (retime (limitInForce s.talk) (timersSet hang tot itot s))), ⟨.ok, []⟩) := by
  refine if_pos ?_
  simp only [talkTimersOk, Bool.and_eq_true, decide_eq_true_eq]
  omega

theorem timersSet_limitPositive (h : 10 ≤ tot.toNat) : LimitPositive (timersSet hang tot itot s) := by
  intro l hl
  unfold limitInForce timersSet at hl
  dsimp only at hl
  split at hl
  · cases hl
    omega
  · split at hl
    · exact nomatch hl
    · cases hl
      omega

end

theorem expireDue_timers (c : Chan) (s : State) : (expireDue c s).talk.hangMs = s.talk.hangMs ∧
    (expireDue c s).talk.totS = s.talk.totS ∧ (expireDue c s).talk.itotS = s.talk.itotS := by
  unfold expireDue
  split
  · rw [expireTot_eq]
    exact ⟨rfl, rfl, rfl⟩
  · exact ⟨rfl, rfl, rfl⟩

theorem retime_timers (old : Option Nat) (s : State) : (retime old s).talk.hangMs = s.talk.hangMs ∧
    (retime old s).talk.totS = s.talk.totS ∧ (retime old s).talk.itotS = s.talk.itotS := by
  by_cases same : limitInForce s.talk = old
  · rw [retime_still (.inl same)]
    exact ⟨rfl, rfl, rfl⟩
  · have both : retime old s = expireDue .t2 (expireDue .t1 s) := if_neg same
    obtain ⟨hang, tot, itot⟩ := expireDue_timers .t1 s
    obtain ⟨hang', tot', itot'⟩ := expireDue_timers .t2 (expireDue .t1 s)
    rw [both]
    exact ⟨hang'.trans hang, tot'.trans tot, itot'.trans itot⟩

theorem Undisturbed.timers {s t : State} (h : Undisturbed s t) : t.talk.hangMs = s.talk.hangMs ∧
    t.talk.totS = s.talk.totS ∧ t.talk.itotS = s.talk.itotS :=
  ⟨(congrArg TalkTable.hangMs h.talk :), (congrArg TalkTable.totS h.talk :), (congrArg TalkTable.itotS h.talk :)⟩

/-- R94: what the grant rounds and owners of an event's end leave due. -/
theorem Undisturbed.totDue {s t : State} (h : Undisturbed s t) (c : Chan) : totDue t c = totDue s c := by
  refine totDue_congr (by rw [h.sys]) ?_ (congrArg TalkRec.totStart (h.chan c) :)
  exact (congrArg limitInForce h.talk :)

section
variable {p : Port} {hang tot itot : Half} {s : State}

/-- R98, R94: SET TALK TIMERS taken. -/
theorem exec_setTalkTimers (hr : Ready (.setTalkTimers p hang tot itot) s)
    (h : hang.toNat ≤ 5000 ∧ hang.toNat % 100 = 0 ∧ 10 ≤ tot.toNat ∧ tot.toNat ≤ 600 ∧ itot.toNat ≤ 600) :
    ∃ t, exec (.setTalkTimers p hang tot itot) s = .next t ∧ (t.port p).holding = ⟨.ok, 0x22, []⟩ ∧
      t.talk.hangMs = hang.toNat ∧ t.talk.totS = tot.toNat ∧ t.talk.itotS = itot.toNat ∧
      ((∀ c, TotRuns s c) → limitInForce (timersSet hang tot itot s).talk ≠ limitInForce s.talk → ∀ c, totDue t c = false) := by
  have general (u : State) (hu : u.talk = s.talk) : ∃ t, setTalkTimers hang tot itot u = (t, ⟨.ok, []⟩) ∧
      t.talk.hangMs = hang.toNat ∧ t.talk.totS = tot.toNat ∧ t.talk.itotS = itot.toNat ∧
      ((∀ c, TotRuns s c) → limitInForce (timersSet hang tot itot s).talk ≠ limitInForce s.talk → ∀ c, totDue t c = false) := by
    have same (c : Chan) : u.chan c = s.chan c := congrArg (fun r : TalkTable => r.chans.get c) hu
    have limit : limitInForce (timersSet hang tot itot u).talk = limitInForce (timersSet hang tot itot s).talk := by
      unfold timersSet
      rw [hu]
    obtain ⟨hang', tot', itot'⟩ := retime_timers (limitInForce u.talk) (timersSet hang tot itot u)
    have quiet := talkEnd_undisturbed u (retime (limitInForce u.talk) (timersSet hang tot itot u))
    obtain ⟨hang'', tot'', itot''⟩ := quiet.timers
    refine ⟨_, setTalkTimers_accepted h, hang''.trans hang', tot''.trans tot', itot''.trans itot', fun runs changed c => ?_⟩
    rw [quiet.totDue]
    refine retime_none_due (timersSet_limitPositive h.2.2.1) (fun d => ?_) (by rw [limit, hu]; exact changed) c
    have run := runs d
    rw [TotRuns, ← same d] at run
    exact run
  obtain ⟨t, run, settings⟩ := general (s.modPort p fun q => q.shift _) rfl
  exact ⟨_, exec_of_body rfl rfl hr run, hold_holding .., settings⟩

/-- R98, R94: SET TALK TIMERS where no expiry occurs. -/
theorem setTalkTimers_answers (hr : Ready (.setTalkTimers p hang tot itot) s)
    (h : hang.toNat ≤ 5000 ∧ hang.toNat % 100 = 0 ∧ 10 ≤ tot.toNat ∧ tot.toNat ≤ 600 ∧ itot.toNat ≤ 600)
    (still : limitInForce (timersSet hang tot itot s).talk = limitInForce s.talk ∨
      totDue (timersSet hang tot itot s) .t1 = false ∧ totDue (timersSet hang tot itot s) .t2 = false) :
    Answers (.setTalkTimers p hang tot itot) s .ok [] (timersSet hang tot itot s) := by
  have run (bytes : List Byte) := setTalkTimers_accepted (s := s.modPort p fun q => q.shift bytes) h
  have unmoved (bytes : List Byte) :
      retime (limitInForce (s.modPort p fun q => q.shift bytes).talk) (timersSet hang tot itot (s.modPort p fun q => q.shift bytes)) =
        timersSet hang tot itot (s.modPort p fun q => q.shift bytes) := retime_still still
  simp only [unmoved] at run
  obtain ⟨done, undisturbed⟩ := served_of_body (w := timersSet hang tot itot s) rfl rfl hr (run _) (talkEnd_undisturbed _ _)
  exact ⟨_, done, undisturbed⟩

end

/-! ### SET COVERAGE -/

/-- R99: the covered channel, its floor having reacted. -/
def covered (c : Chan) (segs : SegSet) (s : State) : State := reactFloor c (s.modChan c fun r => { r with coverage := segs })

theorem covered_coverage (c : Chan) (segs : SegSet) (s : State) : ((covered c segs s).chan c).coverage = segs := by
  rw [covered, reactFloor_eq, modChan_chan_same]
  refine (floorTable_frame ..).1.trans ?_
  rw [modChan_chan_same]

section
variable {p : Port} {chan : Byte} {segs : SegSet} {s : State} {c : Chan}

theorem setCoverage_refused (h : chan.toNat = 0 ∨ 2 < chan.toNat ∨ setOk s segs = false) :
    setCoverage chan segs s = refuse .badArgument s := by
  unfold setCoverage
  by_cases unnamed : chan.toNat = 0 ∨ 2 < chan.toNat
  · rw [chanOf_eq_none unnamed]
  · have beyond : setOk s segs = false := by
      rcases h with h | h | h
      · exact absurd (.inl h) unnamed
      · exact absurd (.inr h) unnamed
      · exact h
    simp only [beyond, Bool.false_eq_true, if_false]
    cases chanOf chan <;> rfl

theorem setCoverage_accepted (hc : chan.toNat = chanCode c) (hs : setOk s segs = true) :
    setCoverage chan segs s = (settle s (talkFinish s (refreshRelay (covered c segs s))), ⟨.ok, []⟩) := by
  simp only [setCoverage, chanOf_eq_some hc, hs, if_true]
  rfl

/-- R84: at the end of the event the relay sets are right. -/
theorem talkEnd_relaysRight (before s : State) : RelaysRight (settle before (talkFinish before (refreshRelay s))) :=
  kept_settle (x := .relays) nofun before (kept_talkFinish (x := .relays) before (refreshRelay_right s))

theorem setCoverage_made (hc : chan.toNat = chanCode c) (hs : setOk s segs = true) :
    ∃ t, setCoverage chan segs s = (t, ⟨.ok, []⟩) ∧ Undisturbed (covered c segs s) t ∧
      ∀ k, inSet (t.chan c).relay k = true ↔ inSet segs k = true ∧ 0 < (t.aseg k).rs.grant := by
  have quiet := (refreshRelay_undisturbed (covered c segs s)).trans (talkEnd_undisturbed s _)
  have right := talkEnd_relaysRight s (covered c segs s) c
  have run := setCoverage_accepted hc hs
  generalize settle s (talkFinish s (refreshRelay (covered c segs s))) = t at *
  have kept : (t.chan c).coverage = ((covered c segs s).chan c).coverage := (congrArg TalkRec.coverage (quiet.chan c) :)
  rw [covered_coverage] at kept
  rw [kept] at right
  exact ⟨t, run, quiet, right⟩

theorem covered_modPort (f : PortRec → PortRec) :
    covered c segs (s.modPort p f) = (covered c segs s).modPort p f := by
  rw [covered, reactFloor_eq, covered, reactFloor_eq]
  rfl

end

/-- Settles O28. -/
theorem talkSettings : Obligations.TalkSettings := by
  unfold Obligations.TalkSettings
  refine ⟨fun p hang tot itot s hr => ⟨fun bad => ?_, fun hang₁ hang₂ tot₁ tot₂ itot₁ => ?_⟩,
    fun p chan segs s hr => ⟨fun bad => ?_, fun c hc hs => ?_⟩⟩
  · exact congrArg Host.Outcome.next (portCommand_served rfl hr (setTalkTimers_refused (s := s.modPort p _) bad))
  · have ok : _ ∧ _ ∧ _ ∧ _ ∧ _ := ⟨hang₁, hang₂, tot₁, tot₂, itot₁⟩
    refine ⟨?_, setTalkTimers_answers hr ok⟩
    obtain ⟨t, done, holding, hang', tot', itot', none_due⟩ := exec_setTalkTimers hr ok
    exact ⟨t, done, holding, hang', tot', itot', fun runs changed => ⟨none_due runs changed .t1, none_due runs changed .t2⟩⟩
  · exact congrArg Host.Outcome.next (portCommand_served rfl hr (setCoverage_refused (s := s.modPort p _) bad))
  · intro w
    obtain ⟨t, run, quiet, relay⟩ := setCoverage_made (s := s.modPort p fun q => q.shift _) hc hs
    rw [covered_modPort] at quiet
    obtain ⟨done, undisturbed⟩ := served_of_body (w := covered c segs s) rfl rfl hr run quiet
    refine ⟨_, done, ?_, relay⟩
    rw [covered, reactFloor_eq] at undisturbed
    exact undisturbed

end Sys2Proof.Machine

/-! The comparisons of the level monitor (R64 to R69, R72): what they make of one entry, as a function of its record. -/

namespace Sys2Proof.Machine

/-! ### One entry -/

/-- R57: whether an entry is suspended; a carrier entry alone can be. -/
def AllocSeg.suspendedAt (a : AllocSeg) (e : Entry) : Option Bool := e.carrier?.map fun c => (a.c.get c).suspended

/-- R72: the record with its count, and whether a suspension is asked for. -/
def MeterEntry.counted (x : MeterEntry) (limit : Nat) (suspended : Option Bool) : MeterEntry × Bool :=
  match suspended with
  | none => (x, false)
  | some b => ({ x with count := (countAfter b limit x.count x.isOver).1 }, (countAfter b limit x.count x.isOver).2)

/-- R65 to R69, R72: the record of an entry after a round with measured levels, and whether a suspension is asked for. -/
def comparison (q : MeterPolicy) (applied : Option (Six Nat)) (suspended : Option Bool) (e : Entry) (x : MeterEntry) :
    MeterEntry × Bool :=
  match applied with
  | none => (x, false)
  | some v =>
    if 0 < x.settle then ({ x with settle := x.settle - 1 }, false)
    else
      match x.compared q.n with
      | none => (x, false)
      | some m => (x.evaluate m (v.get e) q.tol).counted q.persist suspended

/-- R65 to R69, R72: the comparison of an entry of `s`. -/
def compared (k : SegId) (s : State) (e : Entry) : MeterEntry × Bool :=
  comparison s.meter.policy (s.unit k).applied ((s.aseg k).suspendedAt e) e ((s.meters k).get e)

/-! ### What it does to the state -/

theorem modMeter_get (s : State) (k j : SegId) (e d : Entry) (f : MeterEntry → MeterEntry) :
    ((s.modMeter k e f).meters j).get d = if k = j ∧ e = d then f ((s.meters k).get e) else (s.meters j).get d := by
  rw [State.modMeter, modMeters_meters]
  by_cases here : k = j
  · subst here
    rw [if_pos rfl, Six_get_set]
    simp only [true_and]
  · rw [if_neg here, if_neg fun h => here h.1]

theorem suspendEntry_suspended (k j : SegId) (c d : Carrier) (s : State) :
    (((suspendEntry k c s).aseg j).c.get d).suspended = (((s.aseg j).c.get d).suspended || decide (k = j ∧ c = d)) := by
  have kept (t : State) : (((runRound k t).aseg j).c.get d).suspended = ((t.aseg j).c.get d).suspended := by
    rw [runRound_aseg]
    split
    · next here =>
      rw [here.2.2]
      cases d <;> rfl
    · rfl
  unfold suspendEntry
  split
  · next already =>
    by_cases here : k = j ∧ c = d
    · rw [← here.1, ← here.2, already, Bool.true_or]
    · rw [decide_eq_false here, Bool.or_false]
  · next fresh =>
    refine (kept _).trans ?_
    have written : ((s.modAseg k fun a => { a with c := a.c.set c { a.c.get c with suspended := true } }).aseg j) =
        if k = j then { s.aseg k with c := (s.aseg k).c.set c { (s.aseg k).c.get c with suspended := true } } else s.aseg j :=
      modAseg_aseg ..
    refine (congrArg (fun a : AllocSeg => (a.c.get d).suspended) written).trans ?_
    by_cases here : k = j
    · subst here
      rw [if_pos rfl, Four_get_set]
      by_cases same : c = d
      · rw [if_pos same, decide_eq_true ⟨rfl, same⟩, Bool.or_true]
      · rw [if_neg same, decide_eq_false fun h => same h.2, Bool.or_false]
    · rw [if_neg here, decide_eq_false fun h => here h.1, Bool.or_false]

section
variable {s : State} {k j : SegId} {e d : Entry} {c : Carrier}

theorem persist_get : ((persist k e s).meters j).get d =
    if k = j ∧ e = d then (((s.meters k).get e).counted s.meter.policy.persist ((s.aseg k).suspendedAt e)).1
    else (s.meters j).get d := by
  unfold persist
  cases hc : e.carrier? with
  | none =>
    simp only [AllocSeg.suspendedAt, hc, Option.map_none, MeterEntry.counted]
    split
    · next here => rw [here.1, here.2]
    · rfl
  | some c =>
    simp only [AllocSeg.suspendedAt, hc, Option.map_some, MeterEntry.counted]
    have after (b : Bool) (t : State) : (if b then suspendEntry k c t else t).meter = t.meter := by
      split
      · exact (writes_suspendEntry k c).meter
      · rfl
    have same (b : Bool) (t : State) : ((if b then suspendEntry k c t else t).meters j).get d = (t.meters j).get d := by
      rw [State.meters, after]
      rfl
    rw [same, modMeter_get]

theorem persist_suspended : (((persist k e s).aseg j).c.get c).suspended = (((s.aseg j).c.get c).suspended ||
    (decide (k = j ∧ e = c.entry) &&
      (((s.meters k).get e).counted s.meter.policy.persist ((s.aseg k).suspendedAt e)).2)) := by
  unfold persist
  cases hc : e.carrier? with
  | none =>
    simp only [AllocSeg.suspendedAt, hc, Option.map_none, MeterEntry.counted, Bool.and_false, Bool.or_false]
  | some d =>
    simp only [AllocSeg.suspendedAt, hc, Option.map_some, MeterEntry.counted]
    have named : e = c.entry ↔ d = c := by
      cases e <;> cases hc <;> cases c <;> decide
    generalize hx : countAfter ((s.aseg k).c.get d).suspended s.meter.policy.persist ((s.meters k).get e).count
      ((s.meters k).get e).isOver = r
    cases hr : r.2 with
    | true => simp only [if_true, suspendEntry_suspended, Bool.and_true, named]; rfl
    | false => simp only [Bool.false_eq_true, if_false, Bool.and_false, Bool.or_false]; rfl

theorem raiseAlerts_policy (x y : MeterEntry) (m p : Nat) : (raiseAlerts k e x y m p s).meter = s.meter := by
  unfold raiseAlerts raiseAlert
  dsimp only
  split <;> split <;> rfl

theorem raiseAlerts_alloc (x y : MeterEntry) (m p : Nat) : (raiseAlerts k e x y m p s).alloc = s.alloc := by
  unfold raiseAlerts raiseAlert
  dsimp only
  split <;> split <;> rfl

theorem if_self_get {r : MeterEntry} (h : r = (s.meters k).get e) :
    (s.meters j).get d = if k = j ∧ e = d then r else (s.meters j).get d := by
  split
  · next here => rw [h, here.1, here.2]
  · rfl

theorem compareEntry_unknown (h : (s.unit k).applied = none) : compareEntry k s e = s := by simp only [compareEntry, h]

theorem compareEntry_holdoff {v : Six Nat} (h : (s.unit k).applied = some v) (hs : 0 < ((s.meters k).get e).settle) :
    compareEntry k s e = s.modMeter k e fun x => { x with settle := x.settle - 1 } := by
  simp only [compareEntry, h, hs, if_true]

theorem compareEntry_absent {v : Six Nat} (h : (s.unit k).applied = some v) (hs : ¬ 0 < ((s.meters k).get e).settle)
    (hm : ((s.meters k).get e).compared s.meter.policy.n = none) : compareEntry k s e = s := by
  simp only [compareEntry, h, hs, if_false, hm]

theorem compareEntry_evaluated {v : Six Nat} {m : Nat} (h : (s.unit k).applied = some v) (hs : ¬ 0 < ((s.meters k).get e).settle)
    (hm : ((s.meters k).get e).compared s.meter.policy.n = some m) : compareEntry k s e =
      persist k e (raiseAlerts k e ((s.meters k).get e) (((s.meters k).get e).evaluate m (v.get e) s.meter.policy.tol) m (v.get e)
        (s.modMeter k e fun _ => ((s.meters k).get e).evaluate m (v.get e) s.meter.policy.tol)) := by
  simp only [compareEntry, h, hs, if_false, hm]

/-- R72: the count after the flags `y` are written, with the events of that. -/
theorem evaluated_get {t : State} (y : MeterEntry) (hm : t.meter = (s.modMeter k e fun _ => y).meter) (ha : t.alloc = s.alloc) :
    ((persist k e t).meters j).get d =
      if k = j ∧ e = d then (y.counted s.meter.policy.persist ((s.aseg k).suspendedAt e)).1 else (s.meters j).get d := by
  have policy : t.meter.policy = s.meter.policy := by rw [hm]; rfl
  have aseg : t.aseg k = s.aseg k := congrArg (fun a : AllocRec => a.segs[k]) ha
  have get (i : SegId) (x : Entry) : (t.meters i).get x = if k = i ∧ e = x then y else (s.meters i).get x := by
    have same : t.meters i = (s.modMeter k e fun _ => y).meters i := congrArg (fun a : MeterRec => a.recs[i]) hm
    rw [same, modMeter_get]
  rw [persist_get, policy, aseg, get k e, get j d, if_pos (⟨rfl, rfl⟩ : k = k ∧ e = e)]
  exact ite_congr rfl (fun _ => rfl) fun other => if_neg other

theorem evaluated_suspended {t : State} (y : MeterEntry) (hm : t.meter = (s.modMeter k e fun _ => y).meter) (ha : t.alloc = s.alloc) :
    (((persist k e t).aseg j).c.get c).suspended = (((s.aseg j).c.get c).suspended ||
      (decide (k = j ∧ e = c.entry) && (y.counted s.meter.policy.persist ((s.aseg k).suspendedAt e)).2)) := by
  have policy : t.meter.policy = s.meter.policy := by rw [hm]; rfl
  have aseg (i : SegId) : t.aseg i = s.aseg i := congrArg (fun a : AllocRec => a.segs[i]) ha
  have get : (t.meters k).get e = y := by
    have same : t.meters k = (s.modMeter k e fun _ => y).meters k := congrArg (fun a : MeterRec => a.recs[k]) hm
    rw [same, modMeter_get, if_pos ⟨rfl, rfl⟩]
  rw [persist_suspended, policy, aseg, aseg, get]

theorem compareEntry_get : ((compareEntry k s e).meters j).get d =
    if k = j ∧ e = d then (compared k s e).1 else (s.meters j).get d := by
  unfold compared comparison
  cases ha : (s.unit k).applied with
  | none =>
    rw [compareEntry_unknown ha]
    exact if_self_get rfl
  | some v =>
    dsimp only
    by_cases hs : 0 < ((s.meters k).get e).settle
    · rw [compareEntry_holdoff ha hs, if_pos hs, modMeter_get]
    · rw [if_neg hs]
      cases hm : ((s.meters k).get e).compared s.meter.policy.n with
      | none =>
        rw [compareEntry_absent ha hs hm]
        exact if_self_get rfl
      | some m =>
        rw [compareEntry_evaluated ha hs hm]
        exact evaluated_get _ (raiseAlerts_policy ..) (raiseAlerts_alloc ..)

theorem compareEntry_suspended : (((compareEntry k s e).aseg j).c.get c).suspended =
    (((s.aseg j).c.get c).suspended || (decide (k = j ∧ e = c.entry) && (compared k s e).2)) := by
  unfold compared comparison
  cases ha : (s.unit k).applied with
  | none => rw [compareEntry_unknown ha, Bool.and_false, Bool.or_false]
  | some v =>
    dsimp only
    by_cases hs : 0 < ((s.meters k).get e).settle
    · rw [compareEntry_holdoff ha hs, if_pos hs, Bool.and_false, Bool.or_false]
      rfl
    · rw [if_neg hs]
      cases hm : ((s.meters k).get e).compared s.meter.policy.n with
      | none => rw [compareEntry_absent ha hs hm, Bool.and_false, Bool.or_false]
      | some m =>
        rw [compareEntry_evaluated ha hs hm]
        exact evaluated_suspended _ (raiseAlerts_policy ..) (raiseAlerts_alloc ..)

theorem compareEntry_compared (k : SegId) (e : Entry) (s : State) : ((compareEntry k s e).meters k).get e = (compared k s e).1 := by
  rw [compareEntry_get, if_pos ⟨rfl, rfl⟩]

end

/-! ### An evaluated round -/

section
variable {s : State} {k : SegId} {e : Entry} {v : Six Nat} {m : Nat} {x : MeterEntry}

theorem compared_holdoff (ha : (s.unit k).applied = some v) (hs : 0 < ((s.meters k).get e).settle) :
    (compared k s e).1 = { (s.meters k).get e with settle := ((s.meters k).get e).settle - 1 } := by
  simp only [compared, comparison, ha, hs, if_true]

theorem compared_evaluated (ha : (s.unit k).applied = some v) (hs : ((s.meters k).get e).settle = 0)
    (hm : ((s.meters k).get e).compared s.meter.policy.n = some m) : compared k s e =
      (((s.meters k).get e).evaluate m (v.get e) s.meter.policy.tol).counted s.meter.policy.persist
        ((s.aseg k).suspendedAt e) := by
  simp only [compared, comparison, ha, hs, Nat.lt_irrefl, if_false, hm]

/-- R67: M, by the compare basis. -/
theorem compared_of_basis {n : Nat} (hr : x.basis = .raw → x.raw = some m) (ha : x.basis = .averaged → averaged n x.history = some m) :
    x.compared n = some m := by
  unfold MeterEntry.compared
  cases hb : x.basis with
  | raw => exact hr hb
  | averaged => exact ha hb

theorem overCondition_iff {p tol : Nat} : overCondition m p tol = true ↔ p + p * tol / 100 + 5 < m := decide_eq_true_iff

theorem underCondition_iff {p tol : Nat} : underCondition m p tol = true ↔ 20 ≤ p ∧ m < p - p * tol / 100 := by
  unfold underCondition
  rw [Bool.and_eq_true, decide_eq_true_iff, decide_eq_true_iff]
  exact Iff.rfl

/-- R72: the count says nothing of condition and flags. -/
theorem counted_frame (x : MeterEntry) (limit : Nat) (b : Option Bool) : (x.counted limit b).1.isOver = x.isOver ∧
    (x.counted limit b).1.isUnder = x.isUnder ∧ (x.counted limit b).1.overFlag = x.overFlag ∧
    (x.counted limit b).1.underFlag = x.underFlag := by
  cases b <;> exact ⟨rfl, rfl, rfl, rfl⟩

theorem suspendedAt_entry (a : AllocSeg) (c : Carrier) : a.suspendedAt c.entry = some (a.c.get c).suspended := by
  cases c <;> rfl

end

/-- R64: the latest values of a history, read from its end. -/
theorem averaged_of_values (n : Nat) {h : List Nat} (hne : h ≠ []) :
    averaged n h = some ((h.reverse.take (min n h.length)).sum / min n h.length) := by
  have filled : h.isEmpty = false := by cases h <;> trivial
  rw [averaged, filled, if_neg Bool.false_ne_true, List.take_reverse, List.sum_reverse]

section
variable {b : Bool} {limit count : Nat} {isOver : Bool}

theorem countAfter_none (h : b = true ∨ limit = 0 ∨ isOver = false) : countAfter b limit count isOver = (0, false) := by
  rcases h with rfl | rfl | rfl
  · rfl
  · simp only [countAfter, decide_true, Bool.or_true, if_true]
  · exact ite_self _

theorem countAfter_below (hl : 0 < limit) (h : count + 1 < limit) : countAfter false limit count true = (count + 1, false) := by
  have bounded : decide (limit = 0) = false := decide_eq_false (by omega)
  simp only [countAfter, bounded, Bool.or_false, Bool.false_eq_true, if_false, if_true, if_neg (Nat.not_le.mpr h)]

theorem countAfter_reached (hl : 0 < limit) (h : limit ≤ count + 1) : countAfter false limit count true = (0, true) := by
  have bounded : decide (limit = 0) = false := decide_eq_false (by omega)
  simp only [countAfter, bounded, Bool.or_false, Bool.false_eq_true, if_false, if_true, if_pos h]

end

/-- Settles O22. -/
theorem levelComparisons : Obligations.LevelComparisons := by
  unfold Obligations.LevelComparisons
  refine ⟨fun n => rfl, fun n h hne => averaged_of_values n hne, by decide, by decide, fun k e s v applied => ?_⟩
  dsimp only
  rw [compareEntry_compared]
  refine ⟨compared_holdoff applied, fun m settled raw average => ?_⟩
  have run := compared_evaluated applied settled (compared_of_basis raw average)
  rw [run]
  generalize hx : (s.meters k).get e = x at *
  obtain ⟨isOver, isUnder, overFlag, underFlag⟩ := counted_frame (x.evaluate m (v.get e) s.meter.policy.tol)
    s.meter.policy.persist ((s.aseg k).suspendedAt e)
  rw [isOver, isUnder, overFlag, underFlag]
  refine ⟨overCondition_iff, underCondition_iff, fun mode => ?_, fun mode => ?_, fun c hc => ?_⟩
  · simp only [MeterEntry.evaluate, mode, flagAfter]
    exact ⟨overCondition_iff, underCondition_iff⟩
  · simp only [MeterEntry.evaluate, mode, flagAfter, Bool.or_eq_true]
    exact ⟨or_congr_right overCondition_iff, or_congr_right underCondition_iff⟩
  · subst hc
    rw [compareEntry_suspended, run, suspendedAt_entry]
    have isOver' : (x.evaluate m (v.get c.entry) s.meter.policy.tol).isOver = true ↔
      v.get c.entry + v.get c.entry * s.meter.policy.tol / 100 + 5 < m := overCondition_iff
    have count : (x.evaluate m (v.get c.entry) s.meter.policy.tol).count = x.count := rfl
    rw [← isOver']
    simp only [MeterEntry.counted, count, decide_true, Bool.true_and, and_self]
    refine ⟨fun quiet => ?_, fun was limit high below => ?_, fun was limit high reached => ?_⟩
    · rw [countAfter_none (quiet.imp_right (.imp_right Bool.eq_false_iff.mpr))]
      exact ⟨rfl, Bool.or_false _⟩
    · rw [was, high, countAfter_below limit below]
      exact ⟨rfl, rfl⟩
    · rw [was, high, countAfter_reached limit reached]
      exact ⟨rfl, rfl⟩

end Sys2Proof.Machine

/-! What a round has seen (R11, R12). -/

namespace Sys2Proof.Machine

/-- R11, R12: a sighting by what is seen, its fold and what else makes a mismatch; `x` is the reach of a seen position. -/
def sightingWith (n : Nat) (l r : SurveyOutcome) (seen : SegId → Option SurveyEntry) (fold : Fold) (bad : Bool)
    (x : SegId → Reach) : Sighting :=
  { seen := seen, reach := fun k => if (seen k).isSome then x k else .none, fold := fold,
    mismatch := decide (0 < n) && (bad || countTooHigh n l r) }

/-- R11: entry `i` of the left survey is position i. -/
def fromLeft (n : Nat) (es : List SurveyEntry) (k : SegId) : Option SurveyEntry := if k.val < n then es[k.val]? else none

/-- R11: entry `j` of the right survey is position N − j + 1. -/
def fromRight (n : Nat) (es : List SurveyEntry) (k : SegId) : Option SurveyEntry := if k.val < n then es[n - 1 - k.val]? else none

/-- R12: the positions of a folded loop. -/
def fromBoth (n : Nat) (l r : SurveyOutcome) (k : SegId) : Option SurveyEntry :=
  if k.val < foldA n l then fromLeft n l.back k else fromRight n r.back k

section
variable {n : Nat} {l r : SurveyOutcome} {es : List SurveyEntry} {k : SegId}

theorem sighting_leftCrossed : sighting n (.crossed es) r =
    sightingWith n (.crossed es) r (fromLeft n es) .whole (crossedMismatch n (.crossed es) || crossedMismatch n r) fun _ => .both := rfl

theorem sighting_rightCrossed (h : ∀ es', l ≠ .crossed es') : sighting n l (.crossed es) =
    sightingWith n l (.crossed es) (fromRight n es) .whole (crossedMismatch n (.crossed es)) fun _ => .both := by
  cases l with
  | crossed es' => exact absurd rfl (h es')
  | returned => rfl
  | timedOut => rfl
  | notSent => rfl

theorem sighting_folded (hl : ∀ es, l ≠ .crossed es) (hr : ∀ es, r ≠ .crossed es) : sighting n l r =
    sightingWith n l r (fromBoth n l r)
      (.folded (foldA n l) (if foldB n r ≤ foldA n l then foldA n l + 1 else foldB n r)) (decide (foldB n r ≤ foldA n l))
      (fun k => if k.val < foldA n l then .left else .right) := by
  have left : l.crossed? = none := by
    cases l with
    | crossed es => exact absurd rfl (hl es)
    | _ => rfl
  have right : r.crossed? = none := by
    cases r with
    | crossed es => exact absurd rfl (hr es)
    | _ => rfl
  unfold sighting
  rw [left, right]
  rfl

theorem sightingWith_unseen {seen : SegId → Option SurveyEntry} {fold : Fold} {bad : Bool} {x : SegId → Reach}
    (h : seen k = none) : (sightingWith n l r seen fold bad x).reach k = .none := by
  simp only [sightingWith, h, Option.isSome_none, Bool.false_eq_true, if_false]

theorem sightingWith_reach {seen : SegId → Option SurveyEntry} {fold : Fold} {bad : Bool} {x : SegId → Reach}
    (h : (seen k).isSome = true) : (sightingWith n l r seen fold bad x).reach k = x k := if_pos h

theorem fromLeft_inside (h : k.val < n) : fromLeft n es k = es[k.val]? := if_pos h

theorem fromRight_inside (h : k.val < n) : fromRight n es k = es[n - 1 - k.val]? := if_pos h

theorem fromLeft_beyond (h : n ≤ k.val) : fromLeft n es k = none := if_neg (Nat.not_lt.mpr h)

theorem fromRight_beyond (h : n ≤ k.val) : fromRight n es k = none := if_neg (Nat.not_lt.mpr h)

theorem fromBoth_beyond (h : n ≤ k.val) : fromBoth n l r k = none := by
  unfold fromBoth
  rw [fromLeft_beyond h, fromRight_beyond h]
  exact ite_self _

/-! ### Mismatch -/

/-- R11: a survey that came back with more entries than there are positions. -/
def TooMany (n : Nat) (x : SurveyOutcome) : Prop := ∃ es, x = .returned es ∧ n < es.length

/-- R11: a crossed survey with a count different from N. -/
def CrossedOff (n : Nat) (x : SurveyOutcome) : Prop := ∃ es, x = .crossed es ∧ es.length ≠ n

theorem tooMany_iff (x : SurveyOutcome) : n < x.back.length ↔ TooMany n x := by
  cases x with
  | returned es => exact ⟨fun h => ⟨es, rfl, h⟩, fun ⟨_, rfl, h⟩ => h⟩
  | crossed => exact iff_of_false (Nat.not_lt_zero n) fun ⟨_, h, _⟩ => nomatch h
  | timedOut => exact iff_of_false (Nat.not_lt_zero n) fun ⟨_, h, _⟩ => nomatch h
  | notSent => exact iff_of_false (Nat.not_lt_zero n) fun ⟨_, h, _⟩ => nomatch h

theorem crossedMismatch_iff (x : SurveyOutcome) : crossedMismatch n x = true ↔ CrossedOff n x := by
  cases x with
  | crossed es => exact decide_eq_true_iff.trans ⟨fun h => ⟨es, rfl, h⟩, fun ⟨_, rfl, h⟩ => h⟩
  | returned => exact iff_of_false Bool.false_ne_true fun ⟨_, h, _⟩ => nomatch h
  | timedOut => exact iff_of_false Bool.false_ne_true fun ⟨_, h, _⟩ => nomatch h
  | notSent => exact iff_of_false Bool.false_ne_true fun ⟨_, h, _⟩ => nomatch h

theorem countTooHigh_iff : countTooHigh n l r = true ↔ TooMany n l ∨ TooMany n r := by
  rw [countTooHigh, Bool.or_eq_true, decide_eq_true_iff, decide_eq_true_iff, tooMany_iff, tooMany_iff]

theorem mismatch_iff {seen : SegId → Option SurveyEntry} {fold : Fold} {bad : Bool} {x : SegId → Reach} :
    (sightingWith n l r seen fold bad x).mismatch = true ↔ 0 < n ∧ (bad = true ∨ TooMany n l ∨ TooMany n r) := by
  rw [sightingWith, Bool.and_eq_true, decide_eq_true_iff, Bool.or_eq_true, countTooHigh_iff]

theorem not_tooMany_crossed : ¬ TooMany n (.crossed es) := fun ⟨_, h, _⟩ => nomatch h

/-- R11, R12: beyond the positions nothing is seen, and what is not seen is not reached. -/
theorem sighting_unseen (n : Nat) (l r : SurveyOutcome) : (∀ k, (sighting n l r).seen k = none → (sighting n l r).reach k = .none) ∧
    ∀ k : SegId, n ≤ k.val → (sighting n l r).seen k = none := by
  by_cases hl : ∃ es, l = .crossed es
  · obtain ⟨es, rfl⟩ := hl
    exact ⟨fun k => sightingWith_unseen, fun k => fromLeft_beyond⟩
  · rw [not_exists] at hl
    by_cases hr : ∃ es, r = .crossed es
    · obtain ⟨es, rfl⟩ := hr
      rw [sighting_rightCrossed hl]
      exact ⟨fun k => sightingWith_unseen, fun k => fromRight_beyond⟩
    · rw [not_exists] at hr
      rw [sighting_folded hl hr]
      exact ⟨fun k => sightingWith_unseen, fun k => fromBoth_beyond⟩

theorem fromBoth_left (h : k.val < min l.back.length n) :
    fromBoth n l r k = l.back[k.val]? ∧ (fromBoth n l r k).isSome = true := by
  have inside : k.val < n := Nat.lt_of_lt_of_le h (Nat.min_le_right ..)
  have given : k.val < l.back.length := Nat.lt_of_lt_of_le h (Nat.min_le_left ..)
  have same : fromBoth n l r k = l.back[k.val]? := (if_pos h).trans (fromLeft_inside inside)
  refine ⟨same, ?_⟩
  rw [same, List.getElem?_eq_getElem given]
  rfl

end

/-- Settles O41. -/
theorem sightings : Obligations.Sightings := by
  unfold Obligations.Sightings
  intro n l r _
  dsimp only
  obtain ⟨unreached, beyond⟩ := sighting_unseen n l r
  refine ⟨unreached, beyond, ?_, ?_, fun hl hr => ?_⟩
  · rintro es rfl
    rw [sighting_leftCrossed]
    refine ⟨rfl, fun k => fromLeft_inside, fun k => sightingWith_reach, mismatch_iff.trans (and_congr_right fun _ => ?_)⟩
    rw [Bool.or_eq_true, crossedMismatch_iff, crossedMismatch_iff, or_assoc, or_iff_right not_tooMany_crossed]
    exact Iff.rfl
  · rintro es rfl hl
    rw [sighting_rightCrossed hl]
    refine ⟨rfl, fun k => fromRight_inside, fun k => sightingWith_reach, mismatch_iff.trans (and_congr_right fun _ => ?_)⟩
    rw [crossedMismatch_iff, or_iff_left (b := TooMany n (.crossed es)) not_tooMany_crossed]
    exact Iff.rfl
  · rw [sighting_folded hl hr]
    refine ⟨rfl, fun k hk => ?_, fun k far near => ?_, mismatch_iff.trans (and_congr_right fun _ => ?_)⟩
    · obtain ⟨same, seen⟩ := fromBoth_left hk
      exact ⟨same, (sightingWith_reach seen).trans (if_pos hk)⟩
    · refine ⟨(if_neg (Nat.not_lt.mpr far)).trans (fromRight_inside near), fun seen => ?_⟩
      exact (sightingWith_reach seen).trans (if_neg (Nat.not_lt.mpr far))
    · rw [decide_eq_true_iff, or_comm, or_assoc]
      exact Iff.rfl

end Sys2Proof.Machine

/-! DIRECTIVE_ISSUE (R26 to R28, R33). -/

namespace Sys2Proof.Machine

/-! ### Unit records -/

theorem modUnit_modUnit (s : State) (k : SegId) (f g : UnitRec → UnitRec) :
    (s.modUnit k f).modUnit k g = s.modUnit k fun u => g (f u) :=
  congrArg (fun v => { s with engine := { s.engine with units := v } }) (vupd_vupd s.engine.units k f g)

theorem modUnit_congr {s : State} {k : SegId} {f g : UnitRec → UnitRec} (h : f (s.unit k) = g (s.unit k)) :
    s.modUnit k f = s.modUnit k g :=
  congrArg (fun v => { s with engine := { s.engine with units := v } }) (vupd_congr s.engine.units k h)

theorem modUnit_unit_same (s : State) (k : SegId) (f : UnitRec → UnitRec) : (s.modUnit k f).unit k = f (s.unit k) := by
  rw [modUnit_unit, if_pos rfl]

/-! ### What is sent -/

/-- R28: a frame to unit k leaves a loop port, and its unit record is changed. -/
def sending (k : SegId) (f : UnitRec → UnitRec) (side : Side) (body : DirectiveBody) (s : State) : State :=
  { s.modUnit k f with wire := s.wire ++ [directiveOut s k side body] }

section
variable {s : State} {k : SegId} {f g : UnitRec → UnitRec} {side : Side} {body : DirectiveBody} {d : Directive}

theorem sending_modUnit : sending k g side body (s.modUnit k f) = sending k (fun u => g (f u)) side body s :=
  congrArg (fun t : State => { t with wire := s.wire ++ [directiveOut s k side body] }) (modUnit_modUnit s k f g)

theorem sending_congr (h : f (s.unit k) = g (s.unit k)) : sending k f side body s = sending k g side body s :=
  congrArg (fun t : State => { t with wire := s.wire ++ [directiveOut s k side body] }) (modUnit_congr h)

theorem sendDirective_eq : sendDirective k side body s = { s with wire := s.wire ++ [directiveOut s k side body] } := by
  cases side <;> rfl

/-- R29: a reply window of 10 ms from now on, and the quiet time to its close. -/
def windowed (now : Word) (d : Directive) (step : DStep) (u : UnitRec) : UnitRec :=
  { u with inflight := some { d with step := step, window := some (now + 10), waitUntil := none, paused := none },
           quiet := some (now + 10) }

theorem openWindow_send {step : DStep} (h : (s.unit k).inflight = some d) :
    openWindow k step (sendDirective k side body s) = sending k (fun u => windowed s.sys.uptime d step u) side body s := by
  rw [sendDirective_eq]
  refine (modUnit_modUnit _ k _ _).trans ?_
  have change : (fun u : UnitRec => { u with
      inflight := u.inflight.map fun d => { d with step := step, window := some (s.sys.uptime + 10), waitUntil := none, paused := none },
      quiet := some (s.sys.uptime + 10) }) (s.unit k) = windowed s.sys.uptime d step (s.unit k) := by
    simp only [h, Option.map_some, windowed]
  exact sending_congr change

theorem sendRouse1_eq (h : (s.unit k).inflight = some d) : sendRouse1 k d s =
    sending k (fun u => { u with inflight := some { d with step := .rouseWait, window := none, waitUntil := some (s.sys.uptime + 10),
                                                           awake := false } }) d.side .rouse s := by
  rw [sendRouse1, sendDirective_eq]
  refine sending_congr (f := fun u : UnitRec => { u with
      inflight := u.inflight.map fun d => { d with step := .rouseWait, window := none, waitUntil := some (s.sys.uptime + 10),
                                                   awake := false } }) ?_
  simp only [h, Option.map_some]

/-- R29, R33: attempt `n` of a directive, on this side, before its first frame. -/
def Directive.begun (d : Directive) (n : Nat) (side : Side) : Directive :=
  { d with attempt := n, side := side, paused := none, window := none, waitUntil := none, awake := false }

/-- R29: the directive with the attempt under way. -/
theorem startAttempt_eq {n : Nat} : startAttempt k d n side s =
    if d.rouse then sendRouse1 k (d.begun n side) (s.modUnit k fun u => { u with inflight := some (d.begun n side) })
    else sendMain k (d.begun n side) (s.modUnit k fun u => { u with inflight := some (d.begun n side) }) := rfl

theorem begun_inflight {n : Nat} :
    ((s.modUnit k fun u => { u with inflight := some (d.begun n side) }).unit k).inflight = some (d.begun n side) := by
  rw [modUnit_unit_same]

theorem startAttempt_main {n : Nat} (h : d.rouse = false) : startAttempt k d n side s =
    sending k (fun u => windowed s.sys.uptime (d.begun n side) .main u) side d.content.body s := by
  rw [startAttempt_eq, h, if_neg Bool.false_ne_true]
  exact (openWindow_send begun_inflight).trans sending_modUnit

theorem startAttempt_rouse {n : Nat} (h : d.rouse = true) : startAttempt k d n side s =
    sending k (fun u => { u with inflight := some { d.begun n side with
      step := .rouseWait, waitUntil := some (s.sys.uptime + 10) } }) side .rouse s := by
  rw [startAttempt_eq, h, if_pos rfl]
  exact (sendRouse1_eq begun_inflight).trans sending_modUnit

/-! ### The issue order -/

/-- R26: what a launched directive is, before its first frame. -/
def launched (content : Content) (rouse : Bool) (side : Side) : Directive :=
  { content := content, rouse := rouse, step := .main, attempt := 1, side := side, paused := none, window := none,
    waitUntil := none, awake := false, reason := .noReply }

theorem launch_main {content : Content} : launch k content false s =
    sending k (fun u => windowed s.sys.uptime (launched content false (preferredSide s.loop.n k (s.seg k).reach)) .main u)
      (preferredSide s.loop.n k (s.seg k).reach) content.body s :=
  startAttempt_main (d := launched content false (preferredSide s.loop.n k (s.seg k).reach)) rfl

theorem launch_rouse {content : Content} : launch k content true s =
    sending k (fun u => { u with inflight := some { launched content true (preferredSide s.loop.n k (s.seg k).reach) with
        step := .rouseWait, waitUntil := some (s.sys.uptime + 10) } })
      (preferredSide s.loop.n k (s.seg k).reach) .rouse s :=
  startAttempt_rouse (d := launched content true (preferredSide s.loop.n k (s.seg k).reach)) rfl

/-- R26: a MODE may go. -/
def MayGo (r : SegRec) (u : UnitRec) (m : TargetMode) : Prop :=
  modeHeldBack r = false ∧ (m = .active ∨ u.applied = some (.all 0))

theorem issueChoice_zeroReset {r : SegRec} {u : UnitRec} (h : u.levelsSlot = .zeroReset) : issueChoice r u = .zeroReset := by
  simp only [issueChoice, h]

theorem issueChoice_mode {r : SegRec} {u : UnitRec} {m : TargetMode} (hz : u.levelsSlot ≠ .zeroReset) (hm : u.modeSlot = some m)
    (h : MayGo r u m) : issueChoice r u = .mode m := by
  obtain ⟨free, ready⟩ := h
  have down : (isDown m && decide (u.applied ≠ some zeroLevels)) = false := by
    rcases ready with rfl | zero
    · rfl
    · have none_left : u.applied = some zeroLevels := zero
      rw [none_left]
      exact Bool.and_false _
  cases hs : u.levelsSlot with
  | zeroReset => exact absurd hs hz
  | levels => simp only [issueChoice, hs, hm, free, down, Bool.false_eq_true, if_false]
  | empty => simp only [issueChoice, hs, hm, free, down, Bool.false_eq_true, if_false]

theorem levelsChoice_levels {u : UnitRec} {v : Six Nat} (hl : u.levelsSlot = .levels) (hv : u.applied = some v) :
    levelsChoice u = .levels v := by simp only [levelsChoice, hl, hv]

theorem issueChoice_levels {r : SegRec} {u : UnitRec} {v : Six Nat} (hl : u.levelsSlot = .levels) (hv : u.applied = some v)
    (h : ∀ m, u.modeSlot = some m → ¬ MayGo r u m) : issueChoice r u = .levels v := by
  have choice := levelsChoice_levels hl hv
  cases hm : u.modeSlot with
  | none => simp only [issueChoice, hl, hm, choice]
  | some m =>
    simp only [issueChoice, hl, hm, choice]
    by_cases held : modeHeldBack r = true
    · rw [if_pos held]
    · rw [if_neg held]
      refine if_pos ?_
      by_contra goes
      refine h m hm ⟨Bool.eq_false_iff.mpr held, ?_⟩
      rw [Bool.and_eq_true, not_and_or, decide_eq_true_iff, ne_eq, Classical.not_not, isDown_iff, ne_eq, Classical.not_not] at goes
      exact goes

theorem exec_directiveIssue (held : s.sys.held = false) (run : s.sys.part = .run) (present : (s.seg k).link = .present)
    (free : (s.unit k).inflight = none) (quiet : quietPassed s.sys.uptime (s.unit k) = true) :
    exec (.directiveIssue k) s = .next (issue k s) := by
  refine congrArg Host.Outcome.next (if_pos ?_)
  simp only [canIssue, held, run, present, free, quiet, decide_true, Option.isNone_none, Bool.not_false, Bool.and_self]

end

/-- Settles O42. -/
theorem directiveIssued : Obligations.DirectiveIssued := by
  unfold Obligations.DirectiveIssued
  intro k s held run present free quiet
  dsimp only
  rw [exec_directiveIssue held run present free quiet]
  refine ⟨fun zero awake => ?_, fun zero asleep => ?_, fun m notZero slot may => ⟨fun awake => ?_, fun asleep => ?_⟩,
    fun v slot applied none_goes => ⟨composeLevels s.engine.rampStep v (s.aseg k).grants, fun e => ?_, fun same => ?_, fun other => ?_⟩⟩
  · refine congrArg Host.Outcome.next ?_
    simp only [issue, issueChoice_zeroReset zero, awake, Bool.false_eq_true, if_false]
    exact launch_main.trans (sending_modUnit.trans (sending_congr rfl))
  · refine congrArg Host.Outcome.next ?_
    simp only [issue, issueChoice_zeroReset zero, asleep, if_true]
    rfl
  · refine congrArg Host.Outcome.next ?_
    simp only [issue, issueChoice_mode notZero slot may, awake]
    exact launch_main.trans (sending_modUnit.trans (sending_congr rfl))
  · refine congrArg Host.Outcome.next ?_
    simp only [issue, issueChoice_mode notZero slot may, asleep]
    exact launch_rouse.trans (sending_modUnit.trans (sending_congr rfl))
  · exact Six_get_build ..
  · refine congrArg Host.Outcome.next ?_
    simp only [issue, issueChoice_levels slot applied none_goes, same, if_true]
  · refine congrArg Host.Outcome.next ?_
    simp only [issue, issueChoice_levels slot applied none_goes, other, if_false]
    exact launch_main.trans (sending_modUnit.trans (sending_congr rfl))

end Sys2Proof.Machine

/-! Attempts of a directive (R29, R33, R34): what starts, pauses or fails one, and what that leaves. -/

namespace Sys2Proof.Machine

theorem settle_same {s t : State} (h : SameSelector s t) : settle s t = t := if_pos h.inputs.symm

theorem SameSelector.setApplied {s : State} {k : SegId} {new : Option (Six Nat)} : SameSelector s (s.setApplied k new) :=
  ⟨rfl, rfl, rfl, rfl⟩

theorem SameSelector.sending {s : State} {k : SegId} {f : UnitRec → UnitRec} {side : Side} {body : DirectiveBody} :
    SameSelector s (sending k f side body s) := ⟨rfl, rfl, rfl, rfl⟩

theorem setApplied_unit (s : State) (k : SegId) (new : Option (Six Nat)) :
    (s.setApplied k new).unit k = { s.unit k with applied := new } := modUnit_unit_same s k _

/-- The applied levels and the directive in flight are written in either order. -/
theorem endDirective_setApplied (k : SegId) (new : Option (Six Nat)) (s : State) :
    endDirective k (s.setApplied k new) = (endDirective k s).setApplied k new := by
  have old : ((endDirective k s).unit k).applied = (s.unit k).applied := by
    rw [endDirective, modUnit_unit_same]
  have first : (s.modUnit k fun u => { u with applied := new }).modUnit k (fun u => { u with inflight := none }) =
      (s.modUnit k fun u => { u with inflight := none }).modUnit k fun u => { u with applied := new } := by
    rw [modUnit_modUnit, modUnit_modUnit]
  unfold State.setApplied
  dsimp only
  rw [old]
  exact congrArg (fun t : State => t.modMeters k fun v => Six.build fun e =>
    (v.get e).appliedChange s.meter.policy.settle ((s.unit k).applied.map fun w => w.get e) (new.map fun w => w.get e)) first

section
variable {s : State} {k : SegId} {d : Directive} {n : Nat} {side : Side}

/-! ### An attempt -/

/-- R29, R33: from `s` to `t` attempt `n` of the directive is sent on this side. -/
structure Started (k : SegId) (d : Directive) (n : Nat) (side : Side) (s t : State) : Prop where
  same : SameSelector s t
  wire : t.wire = s.wire ++ [directiveOut s k side (if d.rouse then .rouse else d.content.body)]
  applied : (t.unit k).applied = (s.unit k).applied
  flight : ∃ d', (t.unit k).inflight = some d' ∧ d'.content = d.content ∧ d'.rouse = d.rouse ∧ d'.attempt = n ∧ d'.side = side ∧
    d'.paused = none ∧ d'.step = (if d.rouse then .rouseWait else .main) ∧ d'.reason = d.reason ∧
    (d.rouse = true → d'.window = none)

theorem sending_unit {f : UnitRec → UnitRec} {body : DirectiveBody} : (sending k f side body s).unit k = f (s.unit k) :=
  modUnit_unit_same s k f

theorem startAttempt_started : Started k d n side s (startAttempt k d n side s) := by
  cases rouse : d.rouse with
  | true =>
    rw [startAttempt_rouse rouse]
    refine ⟨.sending, ?_, ?_, ?_⟩
    · rw [rouse]
      rfl
    · rw [sending_unit]
    · rw [sending_unit, rouse]
      exact ⟨_, rfl, rfl, rouse, rfl, rfl, rfl, rfl, rfl, fun _ => rfl⟩
  | false =>
    rw [startAttempt_main rouse]
    refine ⟨.sending, ?_, ?_, ?_⟩
    · rw [rouse]
      rfl
    · rw [sending_unit]
      rfl
    · rw [sending_unit, rouse]
      exact ⟨_, rfl, rfl, rouse, rfl, rfl, rfl, rfl, rfl, fun h => nomatch h⟩

theorem dueAttempt_present (h : (s.seg k).link = .present) : dueAttempt k d n side s = startAttempt k d n side s := if_pos h

theorem dueAttempt_absent (h : (s.seg k).link ≠ .present) : dueAttempt k d n side s = pauseDirective k d n s := if_neg h

theorem pauseDirective_unit : (pauseDirective k d n s).unit k =
    { s.unit k with inflight := some { d with paused := some n, window := none, waitUntil := none } } := modUnit_unit_same s k _

/-! ### The end of an attempt -/

/-- R29: the directive at the end of its attempt. -/
def Directive.over (d : Directive) (r : FailReason) : Directive := { d with reason := r, window := none, waitUntil := none }

variable {r : FailReason}

theorem nextAttempt_probe (hp : d.content = .probe) : nextAttempt k d r s = endDirective k s := if_pos hp

theorem nextAttempt_first (hp : d.content ≠ .probe) (h : d.attempt = 1) : nextAttempt k d r s =
    dueAttempt k (d.over r) 2 (if reachIncludes (s.seg k).reach d.side then d.side else preferredSide s.loop.n k (s.seg k).reach) s := by
  have side : attemptSide s.loop.n k (s.seg k).reach 2 d.side =
      if reachIncludes (s.seg k).reach d.side then d.side else preferredSide s.loop.n k (s.seg k).reach := by
    simp only [attemptSide, if_false, true_and, Nat.reduceEqDiff]
  rw [← side]
  exact (if_neg hp).trans (if_pos h)

theorem nextAttempt_second (hp : d.content ≠ .probe) (h : d.attempt = 2)
    (hr : (s.seg k).link ≠ .present ∨ (s.seg k).reach = .both) :
    nextAttempt k d r s = dueAttempt k (d.over r) 3 d.side.other s := by
  have notFirst : d.attempt ≠ 1 := by omega
  exact (if_neg hp).trans ((if_neg notFirst).trans (if_pos ⟨h, hr⟩))

theorem nextAttempt_last (hp : d.content ≠ .probe)
    (h : d.attempt = 3 ∨ d.attempt = 2 ∧ (s.seg k).link = .present ∧ (s.seg k).reach ≠ .both) :
    nextAttempt k d r s = failDirective k (d.over r) r s := by
  have notFirst : d.attempt ≠ 1 := by omega
  have noMore : ¬ (d.attempt = 2 ∧ ((s.seg k).link ≠ .present ∨ (s.seg k).reach = .both)) := by
    rintro ⟨second, more⟩
    rcases h with h | ⟨-, present, reach⟩
    · omega
    · exact more.elim (fun away => away present) reach
  exact (if_neg hp).trans ((if_neg notFirst).trans (if_neg noMore))

/-- R34: DIRECTIVE_FAILED is raised, and the directive dropped with its slots. -/
def failedFor (k : SegId) (d : Directive) (reason : Nat) (s : State) : State :=
  (s.raise toO .directiveFailed (segByte k)
    (hiLo (BitVec.ofNat 8 (contentCode d.content)) (BitVec.ofNat 8 ((if d.rouse then 128 else 0) + reason)))
    ((((s.seg k).serial).getD 0).extractLsb' 0 16)).modUnit k fun u =>
      { u with inflight := none, levelsSlot := .empty, modeSlot := none }

theorem failDirective_answered (hp : d.content ≠ .probe) (hr : r ≠ .noReply) :
    failDirective k d r s = failedFor k d (reasonCode r) s := (if_neg hp).trans (if_neg hr)

theorem SameSelector.failedFor {reason : Nat} : SameSelector s (failedFor k d reason s) :=
  (SameSelector.raise ..).trans (.modUnit k _)

end

end Sys2Proof.Machine

/-! DIRECTIVE_REPLY (R28 to R34). -/

namespace Sys2Proof.Machine

section
variable {x : Side} {frame : List Byte} {s t w : State} {k : SegId} {d : Directive} {f : ReplyFrame}

theorem exec_directiveReply (free : s.sys.held = false) :
    exec (.directiveReply x frame) s = .next (settle s (directiveReply frame s)) :=
  congrArg Host.Outcome.next (if_neg (Bool.eq_false_iff.mp free))

theorem exec_directiveReply_untaken (free : s.sys.held = false)
    (h : decodeReply frame = none ∨ ∃ f, decodeReply frame = some f ∧ replySegment s f.serial = none) :
    exec (.directiveReply x frame) s = .next s := by
  have same : directiveReply frame s = s := by
    rcases h with unread | ⟨f, read, unknown⟩
    · simp only [directiveReply, unread]
    · simp only [directiveReply, read, unknown]
  rw [exec_directiveReply free, same, settle_self]

/-- R29: the reply has a directive in flight that takes it. -/
structure Answered (frame : List Byte) (f : ReplyFrame) (k : SegId) (d : Directive) (s : State) : Prop where
  free : s.sys.held = false
  read : decodeReply frame = some f
  named : replySegment s f.serial = some k
  flight : (s.unit k).inflight = some d

namespace Answered

theorem exec (h : Answered frame f k d s) :
    Machine.exec (.directiveReply x frame) s = .next (settle s (takeReply k d f.outcome s)) := by
  have taken : directiveReply frame s = takeReply k d f.outcome s := by
    simp only [directiveReply, h.read, h.named, h.flight]
  rw [exec_directiveReply h.free, taken]

/-- A reply that leaves the selector's inputs alone ends the event with what it has made. -/
theorem exec_same (h : Answered frame f k d s) (ht : takeReply k d f.outcome s = t) (same : SameSelector s t) :
    Machine.exec (.directiveReply x frame) s = .next t := by
  rw [h.exec, ht, settle_same same]

theorem exec_ignored (h : Answered frame f k d s) (ht : takeReply k d f.outcome s = s) :
    Machine.exec (.directiveReply x frame) s = .next s := h.exec_same ht (.refl s)

theorem becomes (h : Answered frame f k d s) (quiet : Undisturbed w (takeReply k d f.outcome s)) :
    Becomes (.directiveReply x frame) s w := ⟨_, h.exec, quiet.trans (settle_undisturbed s _)⟩

end Answered

/-! ### ACK -/

/-- R30: what follows an ACK to a directive that is no PROBE writes the LEVELS slot alone. -/
theorem takeAck_undisturbed {m : UnitMode} (hp : d.content ≠ .probe) :
    Undisturbed (ackStored k d.content m (endDirective k s)) (takeAck k d m s) := by
  rw [takeAck_eq]
  generalize ackStored k d.content m (endDirective k s) = t
  refine Undisturbed.trans ?_ (modUnit_undisturbed _ k _ requestDrain_settings)
  unfold ackFollowed
  split
  · next probe => exact absurd probe hp
  · split
    · exact modUnit_undisturbed t k _ requestLevels_settings
    · exact .refl t
  · exact .refl t

theorem clearMark_undisturbed : Undisturbed (s.modUnit k fun u => { u with marked := false }) (clearMark k s) :=
  recomputeLimit_undisturbed k _

/-- R35: an ACK to a PROBE clears the mark. -/
theorem takeAck_probe {m : UnitMode} (hp : d.content = .probe) :
    Undisturbed (((endDirective k s).setApplied k (some zeroLevels)).modUnit k fun u => { u with marked := false }) (takeAck k d m s) := by
  rw [takeAck_eq, hp]
  exact clearMark_undisturbed.trans (modUnit_undisturbed _ k _ requestDrain_settings)

/-! ### ASLEEP -/

section
variable (hz : d.content ≠ .zeroReset) (hp : d.content ≠ .probe)
include hp

/-- R32: the directive ends. -/
theorem takeAsleep_ends (h : d.content = .zeroReset ∨ d.content = .mode .dormant ∨ (s.seg k).commanded = .dormant ∨
    supplyLowRecorded (s.seg k) = true) : takeAsleep k d s = endDirective k (s.setApplied k (some zeroLevels)) := by
  have commanded : ((s.setApplied k (some zeroLevels)).seg k).commanded = (s.seg k).commanded := rfl
  have supply : supplyLowRecorded ((s.setApplied k (some zeroLevels)).seg k) = supplyLowRecorded (s.seg k) := rfl
  unfold takeAsleep
  dsimp only
  rw [commanded, supply]
  split
  · rfl
  · next probe => exact absurd probe hp
  · next c zero _ =>
    by_cases down : d.content = .mode .dormant
    · rw [if_pos down]
    · rw [if_neg down]
      by_cases dormant : (s.seg k).commanded = .dormant
      · rw [if_pos dormant]
      · rw [if_neg dormant]
        rcases h with h | h | h | h
        · exact absurd h zero
        · exact absurd h down
        · exact absurd h dormant
        · rw [if_pos h]

include hz

variable (hd : d.content ≠ .mode .dormant) (hc : (s.seg k).commanded ≠ .dormant) (hl : supplyLowRecorded (s.seg k) = false)
include hd hc hl

/-- R32: the directive goes on, as a rouse sequence. -/
theorem takeAsleep_goesOn : takeAsleep k d s =
    if d.rouse then nextAttempt k d .asleep (s.setApplied k (some zeroLevels))
    else dueAttempt k d.convert 1 (preferredSide s.loop.n k (s.seg k).reach) (s.setApplied k (some zeroLevels)) := by
  have commanded : ((s.setApplied k (some zeroLevels)).seg k).commanded ≠ .dormant := hc
  have supply : supplyLowRecorded ((s.setApplied k (some zeroLevels)).seg k) ≠ true := Bool.eq_false_iff.mp hl
  unfold takeAsleep
  dsimp only
  split
  · next zero => exact absurd zero hz
  · next probe => exact absurd probe hp
  · rw [if_neg hd, if_neg commanded, if_neg supply]
    rfl

end

theorem takeAsleep_probe (hp : d.content = .probe) :
    takeAsleep k d s = clearMark k (endDirective k (s.setApplied k (some zeroLevels))) := by simp only [takeAsleep, hp]

/-! ### The rows of the table -/

theorem takeReply_ack {m : UnitMode} (h : d.step = .main) : takeReply k d (.ack m) s = takeAck k d m s := by
  simp only [takeReply, h]

theorem takeReply_asleep (h : d.step = .main ∨ d.step = .rouse2) : takeReply k d .asleep s = takeAsleep k d s := by
  rcases h with h | h <;> simp only [takeReply, h]

theorem takeReply_rating (h : d.step = .main ∨ d.step = .rouse2) : takeReply k d .rating s = takeRating k d s := by
  rcases h with h | h <;> simp only [takeReply, h]

theorem takeReply_wrongUnit : takeReply k d .wrongUnit s = takeWrongUnit k s := by
  cases h : d.step <;> simp only [takeReply, h]

theorem takeReply_rouse1 {o : ReplyOutcome} (h : d.step = .rouse1) (ho : o ≠ .wrongUnit) : takeReply k d o s = s := by
  cases o with
  | wrongUnit => exact absurd rfl ho
  | ack => simp only [takeReply, h]
  | rating => simp only [takeReply, h]
  | supplyLow => simp only [takeReply, h]
  | asleep => simp only [takeReply, h]

theorem takeReply_supplyLow (h : d.rouse = true ∨ d.step ≠ .main) (h₁ : d.step ≠ .rouse1) :
    takeReply k d .supplyLow s = failDirective k d .supplyLow s := by
  cases hs : d.step with
  | main =>
    have rouse : d.rouse = true := h.resolve_right fun other => other hs
    simp only [takeReply, hs, rouse, if_true]
  | rouse1 => exact absurd hs h₁
  | rouseWait => simp only [takeReply, hs]
  | rouse2 => simp only [takeReply, hs]

theorem takeReply_supplyLow_main (hr : d.rouse = false) (hs : d.step = .main) : takeReply k d .supplyLow s = s := by
  simp only [takeReply, hs, hr, Bool.false_eq_true, if_false]

theorem takeReply_rouseWait {o : ReplyOutcome} (hs : d.step = .rouseWait) (ho : o = .rating ∨ o = .asleep) : takeReply k d o s = s := by
  rcases ho with rfl | rfl <;> simp only [takeReply, hs]

theorem takeReply_rouse2 {m : UnitMode} (hs : d.step = .rouse2) : takeReply k d (.ack m) s = dueStep k d (sendMain k d) s := by
  simp only [takeReply, hs]

theorem takeRating_probe (hp : d.content = .probe) : takeRating k d s = s := if_pos hp

theorem takeReply_rating_probe (hp : d.content = .probe) : takeReply k d .rating s = s := by
  cases hs : d.step with
  | main => rw [takeReply_rating (.inl hs), takeRating_probe hp]
  | rouse1 => exact takeReply_rouse1 hs nofun
  | rouseWait => exact takeReply_rouseWait hs (.inl rfl)
  | rouse2 => rw [takeReply_rating (.inr hs), takeRating_probe hp]

/-! ### What an ACK and a NAK ASLEEP leave -/

theorem ackStored_some {c : Content} {m : UnitMode} {v : Six Nat} (h : ackLevels c m = some v) :
    ackStored k c m s = s.setApplied k (some v) := by simp only [ackStored, h]

theorem dueStep_present {send : State → State} (h : (s.seg k).link = .present) : dueStep k d send s = send s := if_pos h

theorem dueStep_absent {send : State → State} (h : (s.seg k).link ≠ .present) :
    dueStep k d send s = pauseDirective k d (d.paused.getD d.attempt) s := if_neg h

theorem sendMain_eq (h : (s.unit k).inflight = some d) :
    sendMain k d s = sending k (fun u => windowed s.sys.uptime d .main u) d.side d.content.body s := openWindow_send h

theorem sendRouse2_eq (h : (s.unit k).inflight = some d) :
    sendRouse2 k d s = sending k (fun u => windowed s.sys.uptime d .rouse2 u) d.side .rouse s := openWindow_send h

theorem SameSelector.pauseDirective {n : Nat} : SameSelector s (pauseDirective k d n s) := .modUnit k _

end

section
variable {x : Side} {frame : List Byte} {s : State} {k : SegId} {d : Directive} {f : ReplyFrame} {n : Nat} {side : Side}

/-- R29, R32: a reply that starts an attempt of a rouse sequence after the applied levels are 0. -/
theorem Answered.started (h : Answered frame f k d s) {e : Directive} (rouse : e.rouse = true)
    (ht : takeReply k d f.outcome s = startAttempt k e n side (s.setApplied k (some zeroLevels))) :
    ∃ t d', Machine.exec (.directiveReply x frame) s = .next t ∧ (t.unit k).inflight = some d' ∧ d'.content = e.content ∧ d'.rouse = true ∧
      d'.attempt = n ∧ d'.side = side ∧ d'.paused = none ∧ d'.step = .rouseWait ∧ d'.reason = e.reason ∧ d'.window = none ∧
      (t.unit k).applied = some (.all 0) ∧ t.wire = s.wire ++ [directiveOut s k side .rouse] := by
  obtain ⟨same, wire, applied, d', flight, content, rouse', attempt, side', paused, step, reason, window⟩ :=
    startAttempt_started (s := s.setApplied k (some zeroLevels)) (k := k) (d := e) (n := n) (side := side)
  rw [rouse, if_pos rfl] at wire step
  rw [rouse] at rouse'
  rw [setApplied_unit] at applied
  exact ⟨_, d', h.exec_same ht (SameSelector.setApplied.trans same), flight, content, rouse', attempt, side', paused, step, reason,
    window rouse, applied, wire⟩

/-- R29: a reply that pauses the directive after the applied levels are 0. -/
theorem Answered.paused (h : Answered frame f k d s) {e : Directive}
    (ht : takeReply k d f.outcome s = pauseDirective k e n (s.setApplied k (some zeroLevels))) :
    ∃ t, Machine.exec (.directiveReply x frame) s = .next t ∧
      (t.unit k).inflight = some { e with paused := some n, window := none, waitUntil := none } ∧
      (t.unit k).applied = some (.all 0) ∧ t.wire = s.wire := by
  have unit : (pauseDirective k e n (s.setApplied k (some zeroLevels))).unit k = _ := pauseDirective_unit
  rw [setApplied_unit] at unit
  exact ⟨_, h.exec_same ht (SameSelector.setApplied.trans .pauseDirective), congrArg UnitRec.inflight unit,
    congrArg UnitRec.applied unit, rfl⟩

end

/-- Settles O43. -/
theorem repliesTaken : Obligations.RepliesTaken := by
  unfold Obligations.RepliesTaken
  intro x frame s free
  refine ⟨exec_directiveReply_untaken free, fun f k d read named flight => ?_⟩
  have a : Answered frame f k d s := ⟨free, read, named, flight⟩
  dsimp only
  refine ⟨fun m step ack => ?_, fun wrong => ?_, fun rating step notProbe => ?_, fun low sent notFirst notProbe => ?_,
    fun low rouse step => ?_, fun o step => ?_, fun o step => ?_, fun rating probe => ?_, fun asleep step => ?_, fun m ack step => ?_,
    fun m ack step away => ?_, fun m ack step present => ?_⟩
  · have row : takeReply k d f.outcome s = takeAck k d m s := by rw [ack, takeReply_ack step]
    have becomes {c : Content} {w : State} (hc : d.content = c) (hp : c ≠ .probe) (hw : ackStored k c m (endDirective k s) = w) :
        Becomes (.directiveReply x frame) s w := by
      refine a.becomes ?_
      rw [row, ← hw, ← hc]
      exact takeAck_undisturbed (hc ▸ hp)
    refine ⟨fun v levels up => ?_, fun v levels over_ => ?_, fun zero => ?_, fun probe => ?_, fun t mode active => ?_,
      fun t mode other => ?_⟩
    · rcases up with rfl | rfl <;> exact becomes levels nofun rfl
    · subst over_
      exact becomes levels nofun rfl
    · exact becomes zero nofun (ackStored_some (by cases m <;> rfl))
    · refine a.becomes ?_
      rw [row]
      exact takeAck_probe probe
    · subst active
      exact becomes mode nofun rfl
    · refine becomes mode nofun (ackStored_some ?_)
      cases m with
      | active => exact absurd rfl other
      | standby => rfl
      | dormant => rfl
      | overheat => rfl
  · have row : takeReply k d f.outcome s = takeWrongUnit k s := by rw [wrong, takeReply_wrongUnit]
    refine ⟨takeWrongUnit k s, a.exec_same row ⟨rfl, rfl, rfl, rfl⟩, ?_, .refl _⟩
    exact modUnit_unit_same s k UnitRec.drop
  · refine a.exec_same ?_ (.failedFor (k := k) (d := d) (reason := 1))
    rw [rating, takeReply_rating step]
    exact (if_neg notProbe).trans (failDirective_answered notProbe nofun)
  · refine a.exec_same ?_ (.failedFor (k := k) (d := d) (reason := 2))
    rw [low, takeReply_supplyLow sent notFirst]
    exact failDirective_answered notProbe nofun
  · exact a.exec_ignored (by rw [low, takeReply_supplyLow_main rouse step])
  · exact a.exec_ignored (takeReply_rouseWait step o)
  · exact a.exec_ignored (takeReply_rouse1 step o)
  · exact a.exec_ignored (by rw [rating, takeReply_rating_probe probe])
  · have row : takeReply k d f.outcome s = takeAsleep k d s := by rw [asleep, takeReply_asleep step]
    have ends (hp : d.content ≠ .probe) (h : d.content = .zeroReset ∨ d.content = .mode .dormant ∨ (s.seg k).commanded = .dormant ∨
        supplyLowRecorded (s.seg k) = true) :
        Becomes (.directiveReply x frame) s ((endDirective k s).setApplied k (some zeroLevels)) := by
      refine a.becomes ?_
      rw [row, takeAsleep_ends hp h, endDirective_setApplied]
      exact .refl _
    refine ⟨fun final => ?_, fun probe => ?_, fun hp unwilling => ?_, fun hz hp hd commanded supply rouse => ?_,
      fun hz hp hd commanded supply rouse => ⟨fun first present => ?_, fun second present both => ?_, fun more away => ?_,
        fun last => ?_⟩⟩
    · rcases final with zero | down
      · exact ends (zero ▸ nofun) (.inl zero)
      · exact ends (down ▸ nofun) (.inr (.inl down))
    · refine a.becomes ?_
      rw [row, takeAsleep_probe probe, endDirective_setApplied]
      exact clearMark_undisturbed
    · exact ends hp (.inr (.inr unwilling))
    · have goes := takeAsleep_goesOn hz hp hd commanded supply
      rw [rouse, if_neg Bool.false_ne_true, ← row] at goes
      by_cases present : (s.seg k).link = .present
      · obtain ⟨t, d', done, flight', content, rouse', attempt, side, paused, step', -, window, applied, wire⟩ :=
          a.started (e := d.convert) (x := x) rfl (goes.trans (dueAttempt_present present))
        exact ⟨t, d', done, flight', content, rouse', attempt, window, applied, fun _ => ⟨step', paused, side, wire⟩,
          fun away => absurd present away⟩
      · obtain ⟨t, done, flight', applied, wire⟩ := a.paused (x := x) (goes.trans (dueAttempt_absent present))
        exact ⟨t, _, done, flight', rfl, rfl, rfl, rfl, applied, fun now => absurd now present, fun _ => ⟨rfl, rfl, wire⟩⟩
    · have goes := takeAsleep_goesOn hz hp hd commanded supply
      rw [rouse, if_pos rfl, ← row, nextAttempt_first hp first] at goes
      obtain ⟨t, d', done, flight', content, rouse', attempt, side, paused, step', reason, -, applied, wire⟩ :=
        a.started (e := d.over .asleep) (x := x) rouse (goes.trans (dueAttempt_present present))
      exact ⟨t, d', done, flight', content, rouse', attempt, side, paused, step', reason, applied, wire⟩
    · have goes := takeAsleep_goesOn hz hp hd commanded supply
      rw [rouse, if_pos rfl, ← row, nextAttempt_second (s := s.setApplied k (some zeroLevels)) hp second (.inr both)] at goes
      obtain ⟨t, d', done, flight', content, rouse', attempt, side, paused, step', reason, -, applied, wire⟩ :=
        a.started (e := d.over .asleep) (x := x) rouse (goes.trans (dueAttempt_present present))
      exact ⟨t, d', done, flight', content, rouse', attempt, side, paused, step', reason, applied, wire⟩
    · have goes := takeAsleep_goesOn hz hp hd commanded supply
      rw [rouse, if_pos rfl, ← row] at goes
      rcases more with first | second
      · rw [nextAttempt_first hp first] at goes
        obtain ⟨t, done, flight', applied, wire⟩ := a.paused (x := x) (goes.trans (dueAttempt_absent away))
        exact ⟨t, _, done, flight', rfl, rouse, rfl, by rw [first], rfl, applied, wire⟩
      · rw [nextAttempt_second (s := s.setApplied k (some zeroLevels)) hp second (.inl away)] at goes
        obtain ⟨t, done, flight', applied, wire⟩ := a.paused (x := x) (goes.trans (dueAttempt_absent away))
        exact ⟨t, _, done, flight', rfl, rouse, rfl, by rw [second], rfl, applied, wire⟩
    · have goes := takeAsleep_goesOn hz hp hd commanded supply
      rw [rouse, if_pos rfl, ← row, nextAttempt_last (s := s.setApplied k (some zeroLevels)) hp last] at goes
      exact a.exec_same (goes.trans (failDirective_answered hp nofun)) (SameSelector.setApplied.trans .failedFor)
  · refine a.exec_same (t := modFlight k (fun d => { d with awake := true }) s) ?_ (.modUnit k _) |>.trans ?_
    · rw [ack]
      simp only [takeReply, step]
    · refine congrArg Host.Outcome.next (modUnit_congr ?_)
      simp only [flight, Option.map_some]
  · refine a.exec_same ?_ (.pauseDirective (k := k) (d := d) (n := d.paused.getD d.attempt))
    rw [ack, takeReply_rouse2 step]
    exact dueStep_absent away
  · refine a.exec_same ?_ (.sending (k := k) (f := fun u => windowed s.sys.uptime d .main u) (side := d.side) (body := d.content.body))
    rw [ack, takeReply_rouse2 step]
    exact (dueStep_present present).trans (sendMain_eq flight)

end Sys2Proof.Machine

/-! REPLY_TIMEOUT and ROUSE_WAIT_EXPIRY (R28, R29, R33, R34, R35). -/

namespace Sys2Proof.Machine

/-- R21, R25: the unit record after a recomputation of E. -/
theorem recomputeLimit_unit (k j : SegId) (s : State) : (recomputeLimit k s).unit j =
    if k = j ∧ s.newLimit k ≠ (s.seg k).eff ∧ s.sys.part = .run ∧ k.val < s.loop.n then
      (s.unit k).takeGrants (s.seg k) (s.roundWith k (s.newLimit k)).1
    else s.unit j := by
  unfold recomputeLimit
  dsimp only
  by_cases same : limitOf (s.seg k) (s.unit k).marked s.loop.derate = (s.seg k).eff
  · rw [if_pos same, if_neg fun g => g.2.1 same]
  · have result : (s.modSeg k fun r => { r with eff := s.newLimit k }).roundResult k = s.roundWith k (s.newLimit k) := by
      have seg : ((s.modSeg k fun r => { r with eff := s.newLimit k }).seg k).eff = s.newLimit k := by
        rw [modSeg_eff_seg, if_pos rfl]
      rw [State.roundResult, seg]
      rfl
    have seg : (s.modSeg k fun r => { r with eff := s.newLimit k }).seg k = { s.seg k with eff := s.newLimit k } := by
      rw [modSeg_seg, if_pos rfl]
    rw [if_neg same]
    refine (runRound_unit k j _).trans ?_
    refine ite_congr (propext ⟨fun ⟨run, inside, here⟩ => ⟨here, same, run, inside⟩, fun ⟨here, _, run, inside⟩ => ⟨run, inside, here⟩⟩)
      (fun _ => ?_) fun _ => rfl
    refine (congrArg₂ (fun r g => (s.unit k).takeGrants r g) seg (congrArg Prod.fst result)).trans ?_
    rfl

theorem takeGrants_marked {u : UnitRec} (r : SegRec) (g : Six Nat) (h : u.marked = true) : u.takeGrants r g = u := by
  unfold UnitRec.takeGrants UnitRec.requestLevels
  rw [h, if_pos rfl]
  exact ite_self _

section
variable {s t : State} {k : SegId} {d : Directive} {n : Nat} {side : Side}

/-- R35: a marked unit has the limit 0, and nothing is queued for it. -/
theorem recomputeLimit_of_marked (h : (s.unit k).marked = true) :
    (recomputeLimit k s).unit k = s.unit k ∧ ((recomputeLimit k s).seg k).eff = 0 := by
  constructor
  · rw [recomputeLimit_unit, takeGrants_marked _ _ h]
    exact ite_self _
  · rw [recomputeLimit_seg, if_pos rfl]
    exact limitOf_zero _ (.inr (.inr (.inl h)))

/-- R34, R35: the directive and its slots are dropped, and the unit is marked. -/
def dropMarked (u : UnitRec) : UnitRec :=
  { u with inflight := none, levelsSlot := .empty, modeSlot := none, marked := true, quiet := none }

/-- R34, R35: no reply came to the last attempt. -/
theorem failDirective_noReply (hp : d.content ≠ .probe) :
    Undisturbed (s.modUnit k dropMarked) (failDirective k d .noReply (s.modUnit k fun u => { u with quiet := none })) ∧
    ((failDirective k d .noReply (s.modUnit k fun u => { u with quiet := none })).unit k).levelsSlot = .empty ∧
    ((failDirective k d .noReply (s.modUnit k fun u => { u with quiet := none })).seg k).eff = 0 := by
  have made : failDirective k d .noReply (s.modUnit k fun u => { u with quiet := none }) =
      recomputeLimit k (raiseFailed k d .noReply (s.modUnit k dropMarked)) := by
    have unit : ((s.modUnit k fun u => { u with quiet := none }).modUnit k UnitRec.drop).modUnit k (fun u => { u with marked := true }) =
        s.modUnit k dropMarked := by rw [modUnit_modUnit, modUnit_modUnit]; rfl
    refine (if_neg hp).trans ((if_pos rfl).trans ?_)
    refine congrArg (recomputeLimit k) ?_
    rw [← unit]
    rfl
  have unit : (raiseFailed k d .noReply (s.modUnit k dropMarked)).unit k = dropMarked (s.unit k) := modUnit_unit_same s k dropMarked
  obtain ⟨kept, limit⟩ := recomputeLimit_of_marked (s := raiseFailed k d .noReply (s.modUnit k dropMarked)) (k := k) (by rw [unit]; rfl)
  rw [made]
  refine ⟨(raise_undisturbed ..).trans (recomputeLimit_undisturbed ..), ?_, limit⟩
  rw [kept, unit]
  rfl

/-! ### A closed window -/

theorem replyTimeout_eq (h : .replyTimeout k ∈ dueRows s) (flight : (s.unit k).inflight = some d) :
    exec (.replyTimeout k) s = .next (settle s (nextAttempt k d .noReply (s.modUnit k fun u => { u with quiet := none }))) := by
  have closed : windowClosed s.sys.uptime (s.unit k) = true := (mem_dueRows.mp h).2
  refine congrArg Host.Outcome.next ((if_neg (Bool.eq_false_iff.mp (held_of_due h))).trans ?_)
  simp only [replyTimeout, flight, closed, if_true]

theorem replyTimeout_same (h : .replyTimeout k ∈ dueRows s) (flight : (s.unit k).inflight = some d)
    (ht : nextAttempt k d .noReply (s.modUnit k fun u => { u with quiet := none }) = t) (same : SameSelector s t) :
    exec (.replyTimeout k) s = .next t := by
  rw [replyTimeout_eq h flight, ht, settle_same same]

/-- R29: an attempt is sent after the quiet time. -/
theorem replyTimeout_started (h : .replyTimeout k ∈ dueRows s) (flight : (s.unit k).inflight = some d)
    (ht : nextAttempt k d .noReply (s.modUnit k fun u => { u with quiet := none }) =
      startAttempt k (d.over .noReply) n side (s.modUnit k fun u => { u with quiet := none })) :
    ∃ t d', exec (.replyTimeout k) s = .next t ∧ (t.unit k).inflight = some d' ∧ d'.content = d.content ∧ d'.rouse = d.rouse ∧
      d'.attempt = n ∧ d'.side = side ∧ d'.paused = none ∧ d'.step = (if d.rouse then .rouseWait else .main) ∧
      t.wire = s.wire ++ [directiveOut s k side (if d.rouse then .rouse else d.content.body)] := by
  obtain ⟨same, wire, -, d', flight', content, rouse, attempt, side', paused, step, -, -⟩ :=
    startAttempt_started (s := s.modUnit k fun u => { u with quiet := none }) (k := k) (d := d.over .noReply) (n := n) (side := side)
  exact ⟨_, d', replyTimeout_same h flight ht ((SameSelector.modUnit k _).trans same), flight', content, rouse, attempt, side', paused,
    step, wire⟩

/-- R29: the directive pauses. -/
theorem replyTimeout_paused (h : .replyTimeout k ∈ dueRows s) (flight : (s.unit k).inflight = some d)
    (ht : nextAttempt k d .noReply (s.modUnit k fun u => { u with quiet := none }) =
      pauseDirective k (d.over .noReply) n (s.modUnit k fun u => { u with quiet := none })) :
    ∃ t d', exec (.replyTimeout k) s = .next t ∧ (t.unit k).inflight = some d' ∧ d'.content = d.content ∧
      d'.attempt = d.attempt ∧ d'.paused = some n ∧ d'.window = none ∧ t.wire = s.wire := by
  refine ⟨_, _, replyTimeout_same h flight ht ((SameSelector.modUnit k _).trans .pauseDirective),
    congrArg UnitRec.inflight pauseDirective_unit, rfl, rfl, rfl, rfl, rfl⟩

/-! ### The end of a rouse wait -/

theorem rouseWaitExpiry_eq (h : .rouseWaitExpiry k ∈ dueRows s) (flight : (s.unit k).inflight = some d) :
    exec (.rouseWaitExpiry k) s = .next (dueStep k d (if d.awake then sendMain k d else sendRouse2 k d) s) := by
  have ended : waitEnded s.sys.uptime (s.unit k) = true := (mem_dueRows.mp h).2
  refine congrArg Host.Outcome.next ((if_neg (Bool.eq_false_iff.mp (held_of_due h))).trans ?_)
  simp only [rouseWaitExpiry, flight, ended, if_true]

end

/-- Settles O44. -/
theorem timeoutsAndWaits : Obligations.TimeoutsAndWaits := by
  unfold Obligations.TimeoutsAndWaits
  refine ⟨fun k s d due flight => ?_, fun k s d due flight => ?_⟩
  · dsimp only
    refine ⟨fun probe => ?_, fun hp first present => ?_, fun hp second present both => ?_, fun hp more away => ?_, fun hp last => ?_⟩
    · refine replyTimeout_same due flight ((nextAttempt_probe probe).trans ?_) (.modUnit k _)
      exact modUnit_modUnit ..
    · exact replyTimeout_started due flight ((nextAttempt_first hp first).trans (dueAttempt_present present))
    · exact replyTimeout_started due flight ((nextAttempt_second (s := s.modUnit k fun u => { u with quiet := none }) hp second (.inr both)).trans (dueAttempt_present present))
    · rcases more with first | second
      · rw [first]
        have paused := replyTimeout_paused due flight ((nextAttempt_first hp first).trans (dueAttempt_absent away))
        rw [first] at paused
        exact paused
      · have paused := replyTimeout_paused due flight ((nextAttempt_second (s := s.modUnit k fun u => { u with quiet := none }) hp second (.inl away)).trans (dueAttempt_absent away))
        rw [second] at paused ⊢
        exact paused
    · have made := nextAttempt_last (s := s.modUnit k fun u => { u with quiet := none }) (r := .noReply) hp last
      obtain ⟨quiet, slot, limit⟩ := failDirective_noReply (s := s) (k := k) (d := d.over .noReply) hp
      have done := replyTimeout_eq due flight
      rw [made] at done
      have settled := writes_settle (s := failDirective k (d.over .noReply) .noReply (s.modUnit k fun u => { u with quiet := none })) s
      have ends := settle_undisturbed s (failDirective k (d.over .noReply) .noReply (s.modUnit k fun u => { u with quiet := none }))
      generalize failDirective k (d.over .noReply) .noReply (s.modUnit k fun u => { u with quiet := none }) = v at *
      refine ⟨_, done, quiet.trans ends, ?_, ?_⟩
      · exact (congrArg (fun e : EngineRec => e.units[k].levelsSlot) settled.engine).trans slot
      · exact (congrArg (fun l : LoopRec => l.segs[k].eff) settled.loop).trans limit
  · dsimp only
    rw [rouseWaitExpiry_eq due flight]
    refine ⟨fun present => ?_, fun away => congrArg Host.Outcome.next (dueStep_absent away)⟩
    rw [dueStep_present present]
    refine ⟨fun awake => congrArg Host.Outcome.next ?_, fun asleep => congrArg Host.Outcome.next ?_⟩
    · exact (congrFun (if_pos awake) s).trans (sendMain_eq flight)
    · exact (congrFun (if_neg (Bool.eq_false_iff.mp asleep)) s).trans (sendRouse2_eq flight)

end Sys2Proof.Machine

/-! SET SEGMENT COUNT (R14, R36, R63, R81, R97). -/

namespace Sys2Proof.Machine

/-! ### In SETUP the allocator runs no round -/

section
variable {s : State}

theorem runRound_setup (h : s.sys.part = .setup) (k : SegId) : runRound k s = s :=
  if_neg fun ⟨run, _⟩ => nomatch h.symm.trans run

theorem forSegs_runRound_setup (h : s.sys.part = .setup) : forSegs runRound s = s := by
  unfold forSegs
  induction List.finRange 24 with
  | nil => rfl
  | cons k l ih => rw [List.foldl_cons, runRound_setup h k, ite_self, ih]

theorem tellActivity_setup (h : s.sys.part = .setup) : tellActivity s = { s with alloc.activity := talkActive s } := by
  unfold tellActivity
  split
  · next same => rw [same]
  · exact forSegs_runRound_setup (s := { s with alloc.activity := talkActive s }) h

/-- R102: the events of an event of the talk controller. -/
def talkEvents (before s : State) : State := raiseTalkIfChanged before .t2 (raiseTalkIfChanged before .t1 s)

theorem writes_talkEvents (before : State) : Writes [.ports] s (talkEvents before s) :=
  (writes_raiseTalkIfChanged before .t1).trans (writes_raiseTalkIfChanged before .t2)

theorem talkFinish_setup (h : s.sys.part = .setup) (before : State) :
    talkFinish before s = { talkEvents before s with alloc.activity := talkActive (talkEvents before s) } := by
  exact tellActivity_setup ((congrArg (·.part) (writes_talkEvents before).sys).trans h)

end

/-! ### What is queued -/

/-- Every event of `t` that is new since `s` is of a kind in `kinds`. -/
def NewEvents (kinds : EventKind → Prop) (s t : State) : Prop :=
  ∀ q, ∀ r ∈ (t.port q).queue, r ∉ (s.port q).queue → kinds r.kind

section
variable {s t u : State} {kinds : EventKind → Prop}

theorem NewEvents.of_queue (h : ∀ q, (t.port q).queue = (s.port q).queue) : NewEvents kinds s t :=
  fun q r new old => absurd (h q ▸ new) old

theorem NewEvents.trans (h : NewEvents kinds s t) (g : NewEvents kinds t u) : NewEvents kinds s u := by
  intro q r new old
  by_cases before : r ∈ (t.port q).queue
  · exact h q r before old
  · exact g q r new before

theorem newEvents_raise {d : Tri Bool} {e : EventKind} {x : Byte} {a b : Half} (h : kinds e) : NewEvents kinds s (s.raise d e x a b) := by
  intro q r new old
  rw [raise_port] at new
  unfold PortRec.enqueue at new
  split at new
  · split at new
    · rcases List.mem_append.mp new with old' | last
      · exact absurd old' old
      · rw [List.mem_singleton.mp last]
        exact h
    · exact absurd new old
  · exact absurd new old

theorem newEvents_talkEvents (h : kinds .talkState) (before : State) : NewEvents kinds s (talkEvents before s) := by
  have one (c : Chan) (t : State) : NewEvents kinds t (raiseTalkIfChanged before c t) := by
    unfold raiseTalkIfChanged
    split
    · exact .of_queue fun _ => rfl
    · exact newEvents_raise h
  exact (one .t1 s).trans (one .t2 _)

end

/-! ### Every segment once -/

section
variable {α : Type} {view : State → SegId → α} {f : State → SegId → State}

/-- Where `f` makes of a segment's part a function of that part, over all 24 segments. -/
theorem foldl_view_of_map {g : α → α} (hg : ∀ t k j, view (f t k) j = if k = j then g (view t k) else view t j) (s : State) (j : SegId) :
    view ((List.finRange 24).foldl f s) j = g (view s j) := by
  have skipped (l : List SegId) (hj : j ∉ l) (s : State) : view (l.foldl f s) j = view s j := by
    induction l generalizing s with
    | nil => rfl
    | cons k l ih =>
      obtain ⟨hk, hl⟩ := not_or.mp fun m => hj (List.mem_cons.mpr m)
      rw [List.foldl_cons, ih hl, hg, if_neg (Ne.symm hk)]
  have mem := List.mem_finRange j
  have nodup := List.nodup_finRange 24
  generalize List.finRange 24 = l at mem nodup
  induction l generalizing s with
  | nil => exact absurd mem List.not_mem_nil
  | cons k l ih =>
    obtain ⟨hk, hl⟩ := List.nodup_cons.mp nodup
    rw [List.foldl_cons]
    by_cases e : k = j
    · subst e
      rw [skipped l hk, hg, if_pos rfl]
    · rw [ih _ ((List.mem_cons.mp mem).resolve_left (Ne.symm e)) hl, hg, if_neg e]

end

/-! ### The new count -/

section
variable {s : State} {n : Nat}

/-- R14: N, with every segment record as it was at reset but for limit and commanded mode. -/
def recounted (n : Nat) (s : State) : State :=
  { s with loop.n := n, loop.surveys := .all .none, loop.fold := .whole, loop.mismatch := false,
           loop.segs := vall s.loop.segs fun r => { r.forget with eff := 0 } }

/-- R36, R63: applied levels unknown, raw levels absent and histories empty. -/
def unmeasured (s : State) : State :=
  (List.finRange 24).foldl (fun t k => t.modMeters k fun v => v.map MeterEntry.forget)
    ((List.finRange 24).foldl (fun t k => t.setApplied k none) s)

/-- R81, R97: uplink records cleared, and no segment barred. -/
def unheard (s : State) : State :=
  { s with talk.uplink := .replicate 24 (.all .cleared), talk.seq := .replicate 24 none,
           talk.chans := s.talk.chans.map fun c => { c with barred := 0 } }

theorem writes_unmeasured : Writes [.engine, .meter] s (unmeasured s) := by
  refine Writes.trans (t := (List.finRange 24).foldl (fun t k => t.setApplied k none) s) (.foldl (fun t k => ?_) _ _) ?_
  · exact ((writes_engine _).mono (by decide)).trans ((writes_meter _).mono (by decide))
  · exact (Writes.foldl (fun t k => writes_meter _) _ _).mono (by decide)

theorem unmeasured_unit (k : SegId) : (unmeasured s).unit k = { s.unit k with applied := none } := by
  have second (t : State) : ((List.finRange 24).foldl (fun t k => t.modMeters k fun v => v.map MeterEntry.forget) t).engine = t.engine :=
    (Writes.foldl (l := [.meter]) (fun t k => writes_meter _) _ t).engine
  have first := foldl_view_of_map (view := State.unit) (f := fun t k => t.setApplied k none) (g := fun u => { u with applied := none })
    (fun t k j => modUnit_unit ..) s k
  exact (congrArg (fun e : EngineRec => e.units[k]) (second _)).trans first

theorem unmeasured_meters (k : SegId) (e : Entry) :
    (((unmeasured s).meters k).get e).raw = none ∧ (((unmeasured s).meters k).get e).history = [] := by
  have last := foldl_view_of_map (view := State.meters) (f := fun t k => t.modMeters k fun v => v.map MeterEntry.forget)
    (g := fun v => v.map MeterEntry.forget) (fun t k j => modMeters_meters ..)
    ((List.finRange 24).foldl (fun t k => t.setApplied k none) s) k
  have get (v : Six MeterEntry) : (v.map MeterEntry.forget).get e = (v.get e).forget := by cases e <;> rfl
  have entry := (congrArg (fun v : Six MeterEntry => v.get e) last).trans (get _)
  exact ⟨congrArg MeterEntry.raw entry, congrArg MeterEntry.history entry⟩

theorem unheard_upl (k : SegId) : (unheard s).upl k = .all .cleared := Vector.getElem_replicate ..

theorem unheard_seq (k : SegId) : (unheard s).talk.seq[k] = none := Vector.getElem_replicate ..

theorem unheard_chan (c : Chan) : (unheard s).chan c = { s.chan c with barred := 0 } := by cases c <;> rfl

/-! ### The floors without an uplink -/

/-- No uplink record has a carrier. -/
def NoCarrier (s : State) : Prop := ∀ k, s.upl k = .all .cleared

theorem eligibleSet_of_noCarrier (h : NoCarrier s) (c : Chan) : eligibleSet s c = 0 := by
  refine setOf_eq_zero_iff.mpr fun k => Bool.eq_false_iff.mpr fun eligible => ?_
  have carrier : ((s.upl k).get c).carrier = true := by
    have members : inSet (eligibleSet s c) k = true := (inSet_setOf ..).trans eligible
    exact ((mem_eligibleSet s c k).mp members).2.2.2.1
  rw [h k] at carrier
  cases c <;> exact nomatch carrier

/-- R88, R89: without a claim no channel is INBOUND. -/
theorem floorTable_unclaimed (now : Word) (hangMs : Nat) (vote kept : Option SegId) (r : TalkRec) :
    (floorTable now hangMs false vote kept r).floor ≠ .inbound := by
  unfold floorTable
  cases hf : r.floor with
  | idle => rw [hf]; exact nofun
  | inbound =>
    dsimp only
    split
    · exact nofun
    · unfold floorHang
      dsimp only
      split <;> exact nofun
  | outbound => exact nofun
  | hang =>
    dsimp only
    split
    · exact nofun
    · rw [if_neg Bool.false_ne_true, hf]
      exact nofun

theorem reactFloor_unclaimed (h : NoCarrier s) (c : Chan) : ((reactFloor c s).chan c).floor ≠ .inbound := by
  rw [reactFloor_eq, modChan_chan_same, eligibleSet_of_noCarrier h, decide_eq_false (not_not_intro rfl)]
  exact floorTable_unclaimed _ _ _ _ _

theorem reactFloor_frame (c d : Chan) : ((reactFloor c s).chan d).barred = (s.chan d).barred ∧
    ((reactFloor c s).chan d).coverage = (s.chan d).coverage := by
  rw [reactFloor_eq, modChan_chan]
  split
  · next e =>
    subst e
    obtain ⟨coverage, -, -, barred⟩ := floorTable_frame s.sys.uptime s.talk.hangMs (eligibleSet s c ≠ 0) (bestVote s c) (revote s c)
      (s.chan c)
    exact ⟨barred, coverage⟩
  · exact ⟨rfl, rfl⟩

theorem reactFloor_upl (c : Chan) (k : SegId) : (reactFloor c s).upl k = s.upl k := by
  rw [reactFloor_eq]
  rfl

theorem reactFloor_seq (c : Chan) (k : SegId) : (reactFloor c s).talk.seq[k] = s.talk.seq[k] := by
  rw [reactFloor_eq]
  rfl

theorem reactFloor_other {c d : Chan} (h : c ≠ d) : (reactFloor c s).chan d = s.chan d := by
  rw [reactFloor_eq, modChan_chan, if_neg h]

theorem reactBoth_unclaimed (h : NoCarrier s) (c : Chan) : ((reactBoth s).chan c).floor ≠ .inbound := by
  cases c with
  | t1 =>
    rw [reactBoth, reactFloor_other (by decide)]
    exact reactFloor_unclaimed h .t1
  | t2 => exact reactFloor_unclaimed (fun k => (reactFloor_upl .t1 k).trans (h k)) .t2

theorem reactBoth_frame (c : Chan) : ((reactBoth s).chan c).barred = (s.chan c).barred ∧
    ((reactBoth s).chan c).coverage = (s.chan c).coverage := by
  obtain ⟨barred, coverage⟩ := reactFloor_frame (s := s) .t1 c
  obtain ⟨barred', coverage'⟩ := reactFloor_frame (s := reactFloor .t1 s) .t2 c
  exact ⟨barred'.trans barred, coverage'.trans coverage⟩

end

/-! ### The command -/

theorem part_of_ready {p : Port} {count : Byte} {s : State} (hr : Ready (.setSegmentCount p count) s) : s.sys.part = .setup := by
  obtain ⟨-, -, admitted⟩ := hr
  change admissionFailure forOSetup p (s.port p).lapsed s.sys.part = none at admitted
  cases part : s.sys.part with
  | setup => rfl
  | run =>
    rw [part] at admitted
    generalize (s.port p).lapsed = lapsed at admitted
    revert admitted
    cases p <;> cases lapsed <;> decide

theorem setSegmentCount_refused {count : Byte} {s : State} (h : count.toNat = 0 ∨ 24 < count.toNat) :
    setSegmentCount count s = refuse .badArgument s := if_neg (by omega)

theorem setSegmentCount_accepted {count : Byte} {s : State} (h : 1 ≤ count.toNat ∧ count.toNat ≤ 24) :
    setSegmentCount count s = (talkFinish s (reactBoth (newCount count.toNat s)), ⟨.ok, []⟩) := if_pos h

/-- R14: the state that an accepted count leaves, as the block sees it. -/
structure Recounted (n : Nat) (s t : State) : Prop where
  loop : t.loop = (recounted n s).loop
  unit : ∀ k, t.unit k = { s.unit k with applied := none }
  events : NewEvents (· ≠ .loopFold) s t
  uplink : ∀ k, t.upl k = .all .cleared ∧ t.talk.seq[k] = none
  chan : ∀ c, (t.chan c).barred = 0 ∧ (t.chan c).coverage = (s.chan c).coverage ∧ (t.chan c).floor ≠ .inbound
  meters : ∀ k e, ((t.meters k).get e).raw = none ∧ ((t.meters k).get e).history = []
  rest : t.sys = s.sys ∧ t.store = s.store ∧ t.play = s.play ∧ t.brk = s.brk ∧ t.inc = s.inc ∧ t.plant = s.plant
  alloc : { t.alloc with activity := s.alloc.activity } = s.alloc
  port : ∀ q, (t.port q).settings = (s.port q).settings

theorem newCount_chan (n : Nat) (s : State) (c : Chan) : (newCount n s).chan c = { s.chan c with barred := 0 } := by
  refine (unheard_chan c).trans ?_
  exact congrArg (fun r : TalkTable => { r.chans.get c with barred := 0 }) (writes_unmeasured (s := recounted n s)).talk

theorem newCount_noCarrier (n : Nat) (s : State) : NoCarrier (newCount n s) := unheard_upl (s := unmeasured (recounted n s))

theorem writes_newCount (n : Nat) (s : State) : Writes [.engine, .meter, .talk] (recounted n s) (reactBoth (newCount n s)) :=
  ((writes_unmeasured.mono (by decide)).trans ((writes_talk _).mono (by decide))).trans (writes_reactBoth.mono (by decide))

/-- R14, R81: the floors have reacted to the cleared records. -/
theorem newCount_recounted (n : Nat) (s : State) : Recounted n s (reactBoth (newCount n s)) := by
  have frame := writes_newCount n s
  have silent := newCount_noCarrier n s
  have reacted := writes_reactBoth (s := newCount n s)
  have ports : (reactBoth (newCount n s)).ports = s.ports := frame.ports
  refine ⟨frame.loop, fun k => ?_, .of_queue fun q => ?_, fun k => ⟨?_, ?_⟩, fun c => ?_, fun k => ?_,
    ⟨frame.sys, frame.store, frame.play, frame.brk, frame.inc, frame.plant⟩, ?_, fun q => ?_⟩
  · exact (congrArg (fun e : EngineRec => e.units[k]) reacted.engine).trans (unmeasured_unit (s := recounted n s) k)
  · rw [State.port, ports]
    rfl
  · rw [reactBoth, reactFloor_upl, reactFloor_upl]
    exact silent k
  · rw [reactBoth, reactFloor_seq, reactFloor_seq]
    exact unheard_seq k
  · obtain ⟨barred, coverage⟩ := reactBoth_frame (s := newCount n s) c
    rw [newCount_chan] at barred coverage
    exact ⟨barred, coverage, reactBoth_unclaimed silent c⟩
  · have meters : (reactBoth (newCount n s)).meters k = (unmeasured (recounted n s)).meters k :=
      congrArg (fun m : MeterRec => m.recs[k]) reacted.meter
    rw [meters]
    exact unmeasured_meters k
  · have alloc : (reactBoth (newCount n s)).alloc = s.alloc := frame.alloc
    rw [alloc]
  · rw [State.port, ports]
    rfl

/-- R102, R100: in SETUP the end of the event raises events and notes rescue activity. -/
theorem Recounted.talkFinish {n : Nat} {s v : State} (h : Recounted n s v) (setup : s.sys.part = .setup) (before : State) :
    Recounted n s (talkFinish before v) := by
  obtain ⟨loop, unit, events, uplink, chan, meters, rest, alloc, port⟩ := h
  have settings := (talkFinish_undisturbed before v).port
  have told := writes_talkEvents (s := v) before
  have raised : NewEvents (· ≠ .loopFold) v (talkEvents before v) := newEvents_talkEvents nofun before
  rw [talkFinish_setup ((congrArg (·.part) rest.1).trans setup)] at settings ⊢
  generalize talkEvents before v = u at *
  have engine := told.engine
  have talk := told.talk
  have meter := told.meter
  have alloc' := told.alloc
  refine ⟨told.loop.trans loop, fun k => ?_, events.trans raised, fun k => ?_, fun c => ?_, fun k => ?_, ?_, ?_, fun q => ?_⟩
  · exact (congrArg (fun e : EngineRec => e.units[k]) engine).trans (unit k)
  · obtain ⟨upl, seq⟩ := uplink k
    exact ⟨(congrArg (fun r : TalkTable => r.uplink[k]) talk).trans upl, (congrArg (fun r : TalkTable => r.seq[k]) talk).trans seq⟩
  · have same : u.chan c = v.chan c := congrArg (fun r : TalkTable => r.chans.get c) talk
    have here := chan c
    rw [← same] at here
    exact here
  · have same : u.meters k = v.meters k := congrArg (fun r : MeterRec => r.recs[k]) meter
    have here := meters k
    rw [← same] at here
    exact here
  · obtain ⟨sys, store, play, brk, inc, plant⟩ := rest
    exact ⟨told.sys.trans sys, told.store.trans store, told.play.trans play, told.brk.trans brk, told.inc.trans inc,
      told.plant.trans plant⟩
  · rw [← alloc]
    exact congrArg (fun a : AllocRec => { a with activity := s.alloc.activity }) alloc'
  · exact (settings q).trans (port q)

theorem recounted_seg (n : Nat) (s : State) (k : SegId) : (recounted n s).seg k =
    { s.seg k with link := .unseen, miss := 0, serial := none, acquired := false, observed := none, reach := .none, eff := 0 } := by
  refine (vall_get s.loop.segs k fun r => { r.forget with eff := 0 }).trans ?_
  rfl

theorem modPort_seg (s : State) (p : Port) (f : PortRec → PortRec) (k : SegId) : (s.modPort p f).seg k = s.seg k := rfl

theorem hold_queue (t : State) (p q : Port) (code : Byte) (r : Reply) : ((t.hold p code r).port q).queue = (t.port q).queue := by
  rw [State.hold, modPort_port]
  split
  · next e => rw [e]
  · rfl

theorem shift_queue (s : State) (p q : Port) (bytes : List Byte) :
    ((s.modPort p fun q => q.shift bytes).port q).queue = (s.port q).queue := by
  rw [modPort_port]
  split
  · next e => rw [e]; rfl
  · rfl

theorem exec_setSegmentCount {p : Port} {count : Byte} {s : State} (hr : Ready (.setSegmentCount p count) s)
    (h : 1 ≤ count.toNat ∧ count.toNat ≤ 24) : ∃ bytes t, exec (.setSegmentCount p count) s = .next (t.hold p 0x10 ⟨.ok, []⟩) ∧
      Recounted count.toNat (s.modPort p fun q => q.shift bytes) t := by
  have setup := part_of_ready hr
  have made (bytes : List Byte) := (newCount_recounted count.toNat (s.modPort p fun q => q.shift bytes)).talkFinish
    setup (s.modPort p fun q => q.shift bytes)
  exact ⟨_, _, exec_of_body rfl rfl hr (setSegmentCount_accepted h), made _⟩

/-- Settles O15. -/
theorem segmentCount : Obligations.SegmentCount := by
  unfold Obligations.SegmentCount
  intro p count s hr
  refine ⟨fun bad => ?_, fun low high => ?_⟩
  · exact congrArg Host.Outcome.next (portCommand_served rfl hr (setSegmentCount_refused (s := s.modPort p _) bad))
  · obtain ⟨bytes, t, done, made⟩ := exec_setSegmentCount hr ⟨low, high⟩
    obtain ⟨loop, unit, events, uplink, chan, meters, ⟨sys, store, play, brk, inc, plant⟩, alloc, port⟩ := made
    refine ⟨_, done, hold_holding .., ?_, fun k => ?_, unit, fun q r new old => ?_, uplink, chan, meters, sys, store, play, brk, inc, plant,
      alloc, fun q other => ?_⟩
    · rw [hold_loop, loop]
      rfl
    · have seg : t.seg k = (recounted count.toNat (s.modPort p fun q => q.shift bytes)).seg k :=
        congrArg (fun l : LoopRec => l.segs[k]) loop
      rw [recounted_seg, modPort_seg] at seg
      exact seg
    · rw [hold_queue] at new
      exact events q r new (by rw [shift_queue]; exact old)
    · rw [State.hold, modPort_port, if_neg (Ne.symm other), port, modPort_port, if_neg (Ne.symm other)]

end Sys2Proof.Machine

/-! What an acquisition (R16) writes, segment by segment, and an uplink record (R97) with it. -/

namespace Sys2Proof.Machine

section
variable {s : State} {k j : SegId} {c d : Chan} {u : UplinkRec}

/-! ### An uplink record -/

theorem writes_writeUplink : Writes [.talk] s (writeUplink k c u s) := by
  rw [writeUplink_eq]
  exact (writes_talk _).trans (writes_modChan ..)

theorem writeUplink_upl : (writeUplink k c u s).upl j = if k = j then (s.upl k).set c u else s.upl j := by
  rw [writeUplink_eq]
  exact vupd_get s.talk.uplink k j fun p => p.set c u

theorem writeUplink_seq : (writeUplink k c u s).talk.seq = s.talk.seq := by
  rw [writeUplink_eq]
  rfl

/-- R79: both records of the segment, and no other. -/
theorem clearUplink_upl : (clearUplink k s).upl j = if k = j then .all .cleared else s.upl j := by
  unfold clearUplink
  rw [writeUplink_upl]
  split
  · rw [writeUplink_upl, if_pos rfl]
    rfl
  · next other => rw [writeUplink_upl, if_neg other]

theorem clearUplink_seq : (clearUplink k s).talk.seq = s.talk.seq := by
  rw [clearUplink, writeUplink_seq, writeUplink_seq]

theorem writes_clearUplink : Writes [.talk] s (clearUplink k s) := writes_writeUplink.trans writes_writeUplink

/-! ### An acquisition -/

/-- R16: the unit record of an acquired segment. -/
def UnitRec.acquired (u : UnitRec) : UnitRec := { u with applied := none, marked := false, levelsSlot := .zeroReset }

/-- R16, R36: the metering records of an acquired segment, whose applied levels were these. -/
def acquiredMeters (settle : Nat) (applied : Option (Six Nat)) (v : Six MeterEntry) : Six MeterEntry :=
  (Six.build fun e => (v.get e).appliedChange settle (applied.map fun w => w.get e) none).map MeterEntry.forget

/-- R16: the records of the loop controller and of the directive engine. -/
def acquiredUnit (k : SegId) (s : State) : State :=
  ((s.modSeg k fun r => { r with acquired := true }).setApplied k none).modUnit k fun u => { u with marked := false }.requestZeroReset

/-- R16: no sequence number, and both uplink records cleared. -/
def acquiredTalk (k : SegId) (s : State) : State := setSeq k none (clearUplink k s)

theorem acquireRecords_eq : acquireRecords k s = (acquiredTalk k (acquiredUnit k s)).modMeters k fun v => v.map MeterEntry.forget := rfl

theorem writes_acquiredUnit : Writes [.loop, .engine, .meter] s (acquiredUnit k s) :=
  (((writes_loop _).mono (by decide)).trans (((writes_engine _).mono (by decide)).trans ((writes_meter _).mono (by decide)))).trans
    ((writes_engine _).mono (by decide))

theorem writes_acquiredTalk : Writes [.talk] s (acquiredTalk k s) := writes_clearUplink.trans (writes_talk _)

theorem writes_acquireRecords : Writes [.loop, .engine, .meter, .talk] s (acquireRecords k s) :=
  ((writes_acquiredUnit.mono (by decide)).trans (writes_acquiredTalk.mono (by decide))).trans ((writes_meter _).mono (by decide))

theorem acquireRecords_seg : (acquireRecords k s).seg j = if k = j then { s.seg k with acquired := true } else s.seg j := by
  have talk : (acquiredTalk k (acquiredUnit k s)).loop = (acquiredUnit k s).loop := writes_acquiredTalk.loop
  refine (congrArg (fun l : LoopRec => l.segs[j]) talk).trans ?_
  exact modSeg_seg s k j _

theorem acquireRecords_unit : (acquireRecords k s).unit j = if k = j then (s.unit k).acquired else s.unit j := by
  have talk : (acquiredTalk k (acquiredUnit k s)).engine = (acquiredUnit k s).engine := writes_acquiredTalk.engine
  refine (congrArg (fun l : EngineRec => l.units[j]) talk).trans ?_
  refine (modUnit_unit _ k j _).trans ?_
  have applied (i : SegId) : ((s.modSeg k fun r => { r with acquired := true }).setApplied k none).unit i =
      if k = i then { s.unit k with applied := none } else s.unit i := modUnit_unit s k i _
  rw [applied, applied, if_pos rfl]
  split <;> rfl

theorem acquireRecords_upl : (acquireRecords k s).upl j = if k = j then .all .cleared else s.upl j := by
  refine (clearUplink_upl (s := acquiredUnit k s)).trans ?_
  rfl

theorem acquireRecords_seq : (acquireRecords k s).talk.seq[j] = if k = j then none else s.talk.seq[j] := by
  have before : (clearUplink k (acquiredUnit k s)).talk.seq = s.talk.seq := clearUplink_seq
  refine (vupd_get (clearUplink k (acquiredUnit k s)).talk.seq k j fun _ => none).trans ?_
  rw [before]

theorem acquireRecords_meters : (acquireRecords k s).meters j =
    if k = j then acquiredMeters s.meter.policy.settle (s.unit k).applied (s.meters k) else s.meters j := by
  have talk : (acquiredTalk k (acquiredUnit k s)).meter = (acquiredUnit k s).meter := writes_acquiredTalk.meter
  have old (i : SegId) : (acquiredTalk k (acquiredUnit k s)).meters i = (acquiredUnit k s).meters i :=
    congrArg (fun m : MeterRec => m.recs[i]) talk
  have changed (i : SegId) : (acquiredUnit k s).meters i = if k = i then
      Six.build fun e => ((s.meters k).get e).appliedChange s.meter.policy.settle ((s.unit k).applied.map fun w => w.get e) none
      else s.meters i := modMeters_meters ..
  rw [acquireRecords_eq, modMeters_meters, old, old, changed, changed, if_pos rfl]
  split
  · rfl
  · rfl

theorem acquireRecords_rest : (acquireRecords k s).meter.policy = s.meter.policy ∧
    (acquireRecords k s).meter.energy = s.meter.energy ∧ (acquireRecords k s).meter.airtime = s.meter.airtime := by
  have talk : (acquiredTalk k (acquiredUnit k s)).meter = (acquiredUnit k s).meter := writes_acquiredTalk.meter
  exact ⟨(congrArg MeterRec.policy talk :), (congrArg MeterRec.energy talk :), (congrArg MeterRec.airtime talk :)⟩

theorem acquireRecords_loop : { (acquireRecords k s).loop with segs := s.loop.segs } = s.loop :=
  congrArg (fun l : LoopRec => { l with segs := s.loop.segs }) (writes_acquiredTalk (s := acquiredUnit k s) (k := k)).loop

end

end Sys2Proof.Machine

/-! A pass of acquisitions (R16, R160): what it writes into each segment's records. -/

namespace Sys2Proof.Machine

/-- The records of a segment that an acquisition writes. -/
structure SegRecords where
  seg : SegRec
  unit : UnitRec
  meters : Six MeterEntry
  upl : Pair UplinkRec
  seq : Option Byte

def State.records (s : State) (k : SegId) : SegRecords := ⟨s.seg k, s.unit k, s.meters k, s.upl k, s.talk.seq[k]⟩

/-- R16: the records of an acquired segment. -/
def SegRecords.acquired (settle : Nat) (r : SegRecords) : SegRecords :=
  ⟨{ r.seg with acquired := true }, r.unit.acquired, acquiredMeters settle r.unit.applied r.meters, .all .cleared, none⟩

/-- From `s` to `t` nothing changes but the records of segments, metering records, and the talk channels. -/
structure RecordsOnly (s t : State) : Prop where
  writes : Writes [.loop, .engine, .meter, .talk] s t
  loop : { t.loop with segs := s.loop.segs } = s.loop
  policy : t.meter.policy = s.meter.policy
  energy : t.meter.energy = s.meter.energy
  airtime : t.meter.airtime = s.meter.airtime

namespace RecordsOnly

variable {s t u : State}

theorem refl (s : State) : RecordsOnly s s := ⟨.refl s, rfl, rfl, rfl, rfl⟩

theorem trans (h : RecordsOnly s t) (g : RecordsOnly t u) : RecordsOnly s u where
  writes := h.writes.trans g.writes
  loop := by have a := h.loop; rw [← g.loop] at a; exact a
  policy := g.policy.trans h.policy
  energy := g.energy.trans h.energy
  airtime := g.airtime.trans h.airtime

theorem n (h : RecordsOnly s t) : t.loop.n = s.loop.n := (congrArg LoopRec.n h.loop :)

end RecordsOnly

section
variable {s : State} {k j : SegId}

theorem acquireRecords_records : (acquireRecords k s).records j =
    if k = j then (s.records k).acquired s.meter.policy.settle else s.records j := by
  unfold State.records
  rw [acquireRecords_seg, acquireRecords_unit, acquireRecords_meters, acquireRecords_upl, acquireRecords_seq]
  split <;> rfl

theorem acquireRecords_recordsOnly : RecordsOnly s (acquireRecords k s) := by
  obtain ⟨policy, energy, airtime⟩ := acquireRecords_rest (s := s) (k := k)
  exact ⟨writes_acquireRecords, acquireRecords_loop, policy, energy, airtime⟩

/-- A step that acquires the segments whose record asks for it. -/
structure Acquires (asks : SegRec → Prop) (f : SegId → State → State) : Prop where
  asked : ∀ k s, asks (s.seg k) → f k s = acquireRecords k s
  other : ∀ k s, ¬ asks (s.seg k) → f k s = s

variable {asks : SegRec → Prop} {f : SegId → State → State}

theorem Acquires.recordsOnly (h : Acquires asks f) (k : SegId) (s : State) : RecordsOnly s (f k s) := by
  by_cases asked : asks (s.seg k)
  · rw [h.asked k s asked]
    exact acquireRecords_recordsOnly
  · rw [h.other k s asked]
    exact .refl s

theorem Acquires.pass_recordsOnly (h : Acquires asks f) (s : State) : RecordsOnly s (forSegs f s) :=
  forSegs_rel RecordsOnly.refl (fun _ _ _ => RecordsOnly.trans) h.recordsOnly s

theorem Acquires.records_other (h : Acquires asks f) (e : k ≠ j) (t : State) : (f k t).records j = t.records j := by
  by_cases asked : asks (t.seg k)
  · rw [h.asked k t asked, acquireRecords_records, if_neg e]
  · rw [h.other k t asked]

theorem Acquires.pass_beyond (h : Acquires asks f) (hj : s.loop.n ≤ j.val) : (forSegs f s).records j = s.records j :=
  forSegs_view_beyond (view := State.records) (fun k t => (h.recordsOnly k t).n) (fun _ _ t e => h.records_other e t) hj

theorem Acquires.pass_inside (h : Acquires asks f) (hj : j.val < s.loop.n) :
    (asks (s.seg j) → (forSegs f s).records j = (s.records j).acquired s.meter.policy.settle) ∧
    (¬ asks (s.seg j) → (forSegs f s).records j = s.records j) := by
  obtain ⟨t, before, same, -, result⟩ := forSegs_view (view := State.records) (R := RecordsOnly) RecordsOnly.refl
    (fun _ _ _ => RecordsOnly.trans) h.recordsOnly (fun k t => (h.recordsOnly k t).n) (fun _ _ t e => h.records_other e t) hj
  have seg : t.seg j = s.seg j := congrArg SegRecords.seg same
  refine ⟨fun asked => ?_, fun other => ?_⟩
  · rw [result, h.asked j t (seg ▸ asked), acquireRecords_records, if_pos rfl, same, before.policy]
  · rw [result, h.other j t (seg ▸ other), same]

end

theorem acquireIfPresent_acquires : Acquires (·.link = .present) acquireIfPresent :=
  ⟨fun _ _ h => if_pos h, fun _ _ h => if_neg h⟩

theorem acquiredMeters_forgotten (settle : Nat) (applied : Option (Six Nat)) (v : Six MeterEntry) (e : Entry) :
    ((acquiredMeters settle applied v).get e).raw = none ∧ ((acquiredMeters settle applied v).get e).history = [] := by
  have get (w : Six MeterEntry) : (w.map MeterEntry.forget).get e = (w.get e).forget := by cases e <;> rfl
  rw [acquiredMeters, get]
  exact ⟨rfl, rfl⟩

/-! ### What comes after the acquisitions -/

/-- The applied levels and the mark stay, and, where the applied levels are unknown, the LEVELS slot. -/
structure UnitKept (u v : UnitRec) : Prop where
  applied : v.applied = u.applied
  marked : v.marked = u.marked
  slot : u.applied = none → v.levelsSlot = u.levelsSlot

namespace UnitKept

variable {u v w : UnitRec}

theorem refl (u : UnitRec) : UnitKept u u := ⟨rfl, rfl, fun _ => rfl⟩

theorem trans (h : UnitKept u v) (g : UnitKept v w) : UnitKept u w :=
  ⟨g.applied.trans h.applied, g.marked.trans h.marked, fun none => (g.slot (h.applied.trans none)).trans (h.slot none)⟩

theorem takeGrants (r : SegRec) (g : Six Nat) (u : UnitRec) : UnitKept u (u.takeGrants r g) := by
  by_cases behind : u.behind g = true
  · have settings : (u.takeGrants r g).settings = u.settings := by
      unfold UnitRec.takeGrants
      split
      · exact requestLevels_settings u
      · rfl
    refine ⟨(congrArg UnitRec.applied settings :), (congrArg UnitRec.marked settings :), fun none => ?_⟩
    rw [UnitRec.behind, none] at behind
    exact nomatch behind
  · have same : u.takeGrants r g = u := by
      rw [UnitRec.takeGrants, Bool.eq_false_iff.mpr behind, Bool.and_false, if_neg Bool.false_ne_true]
    rw [same]
    exact refl u

theorem requestDrain (u : UnitRec) : UnitKept u u.requestDrain := by
  have settings := requestDrain_settings u
  refine ⟨(congrArg UnitRec.applied settings :), (congrArg UnitRec.marked settings :), fun none => ?_⟩
  simp only [UnitRec.requestDrain, none]

theorem requestMode (u : UnitRec) (m : TargetMode) : UnitKept u (u.requestMode m) := by
  unfold UnitRec.requestMode
  split
  · exact refl u
  · obtain ⟨applied, marked, slot⟩ := requestDrain { u with modeSlot := some m }
    exact ⟨applied, marked, slot⟩

theorem reconciled (part : PartState) (r : SegRec) (u : UnitRec) : UnitKept u (u.reconciled part r) := by
  unfold UnitRec.reconciled
  split
  · split
    · exact requestMode u _
    · exact refl u
  · exact refl u

end UnitKept

/-- From `s` to `t` limits, grants, floors, owners, queues and slots may change, but not what a Commit writes. -/
structure CommitKept (s t : State) : Prop where
  sys : t.sys = s.sys
  store : t.store = s.store
  inc : t.inc = s.inc
  plant : t.plant = s.plant
  meter : t.meter = s.meter
  loop : { t.loop with segs := s.loop.segs } = s.loop
  seg : ∀ k, (t.seg k).settings = (s.seg k).settings
  upl : ∀ k, t.upl k = s.upl k
  seq : ∀ k : SegId, t.talk.seq[k] = s.talk.seq[k]
  unit : ∀ k, UnitKept (s.unit k) (t.unit k)

namespace CommitKept

variable {s t u : State}

theorem refl (s : State) : CommitKept s s :=
  ⟨rfl, rfl, rfl, rfl, rfl, rfl, fun _ => rfl, fun _ => rfl, fun _ => rfl, fun _ => .refl _⟩

theorem trans (h : CommitKept s t) (g : CommitKept t u) : CommitKept s u where
  sys := g.sys.trans h.sys
  store := g.store.trans h.store
  inc := g.inc.trans h.inc
  plant := g.plant.trans h.plant
  meter := g.meter.trans h.meter
  loop := by have a := h.loop; rw [← g.loop] at a; exact a
  seg k := (g.seg k).trans (h.seg k)
  upl k := (g.upl k).trans (h.upl k)
  seq k := (g.seq k).trans (h.seq k)
  unit k := (h.unit k).trans (g.unit k)

theorem of_undisturbed (h : Undisturbed s t) (hu : ∀ k, UnitKept (s.unit k) (t.unit k)) : CommitKept s t :=
  ⟨h.sys, h.store, h.inc, h.plant, h.meter, h.loop, h.seg, fun k => (congrArg (fun r : TalkTable => r.uplink[k]) h.talk :),
    fun k => (congrArg (fun r : TalkTable => r.seq[k]) h.talk :), hu⟩

theorem forSegs {f : SegId → State → State} (hf : ∀ k t, CommitKept t (f k t)) (s : State) : CommitKept s (forSegs f s) :=
  forSegs_rel refl (fun _ _ _ => trans) hf s

theorem storeLimit (k : SegId) (s : State) : CommitKept s (storeLimit k s) :=
  of_undisturbed (modSeg_undisturbed s k _ fun _ => rfl) fun _ => .refl _

theorem runRound (k : SegId) (s : State) : CommitKept s (runRound k s) := by
  refine of_undisturbed (runRound_undisturbed k s) fun j => ?_
  rw [runRound_unit]
  split
  · next here =>
    rw [← here.2.2]
    exact .takeGrants ..
  · exact .refl _

theorem reconcile (k : SegId) (s : State) : CommitKept s (reconcile k s) := by
  have frame := writes_reconcile (s := s) k
  have loop := frame.loop
  have talk := frame.talk
  refine ⟨frame.sys, frame.store, frame.inc, frame.plant, frame.meter, by rw [loop], fun j => ?_, fun j => ?_, fun j => ?_, fun j => ?_⟩
  · rw [State.seg, loop]
    rfl
  · rw [State.upl, talk]
    rfl
  · rw [talk]
  · rw [reconcile_unit]
    split
    · next here =>
      rw [← here]
      exact .reconciled ..
    · exact .refl _

theorem reactBoth (s : State) : CommitKept s (reactBoth s) := by
  have frame := writes_reactBoth (s := s)
  have loop := frame.loop
  refine ⟨frame.sys, frame.store, frame.inc, frame.plant, frame.meter, by rw [loop], fun j => ?_, fun j => ?_, fun j => ?_, fun j => ?_⟩
  · rw [State.seg, loop]
    rfl
  · rw [Machine.reactBoth, reactFloor_upl, reactFloor_upl]
  · rw [Machine.reactBoth, reactFloor_seq, reactFloor_seq]
  · have same : (Machine.reactBoth s).unit j = s.unit j := congrArg (fun e : EngineRec => e.units[j]) frame.engine
    rw [same]
    exact .refl _

theorem raise (d : Tri Bool) (e : EventKind) (x : Byte) (a b : Half) : CommitKept s (s.raise d e x a b) :=
  of_undisturbed (raise_undisturbed ..) fun _ => .refl _

theorem tellActivity (s : State) : CommitKept s (tellActivity s) := by
  unfold Machine.tellActivity
  split
  · exact refl _
  · refine trans (t := { s with alloc.activity := talkActive s }) ?_ (forSegs runRound _)
    exact ⟨rfl, rfl, rfl, rfl, rfl, rfl, fun _ => rfl, fun _ => rfl, fun _ => rfl, fun _ => .refl _⟩

theorem talkFinish (before s : State) : CommitKept s (talkFinish before s) := by
  have told (c : Chan) (t : State) : CommitKept t (raiseTalkIfChanged before c t) := by
    unfold raiseTalkIfChanged
    split
    · exact refl t
    · exact raise ..
  exact ((told .t1 s).trans (told .t2 _)).trans (tellActivity _)

theorem settle (before s : State) : CommitKept s (settle before s) := by
  refine of_undisturbed (settle_undisturbed before s) fun k => ?_
  have same : (Machine.settle before s).unit k = s.unit k :=
    congrArg (fun e : EngineRec => e.units[k]) (writes_settle (s := s) before).engine
  rw [same]
  exact .refl _

end CommitKept

end Sys2Proof.Machine

/-! COMMIT SETUP (R160, R16, R21, R55). -/

namespace Sys2Proof.Machine

section
variable {s t : State} {k : SegId}

/-! ### The grant rounds of a Commit -/

/-- A round of every segment bounds every grant total by E. -/
theorem rounds_bounded (run : s.sys.part = .run) : GrantsBounded (forSegs runRound s) := by
  have kept : ∀ k t, CommitKept t (runRound k t) := CommitKept.runRound
  have sys : (forSegs runRound s).sys = s.sys := (CommitKept.forSegs kept s).sys
  refine ⟨fun j hj => ?_, fun setup => ?_⟩
  · rw [forSegs_n (f := runRound) fun k t => by rw [runRound_loop]] at hj
    obtain ⟨t, ⟨before, beforeSys⟩, -, ⟨after, -⟩, result⟩ := forSegs_view (view := State.aseg) (f := runRound)
      (R := fun a b => b.loop = a.loop ∧ b.sys = a.sys) (fun _ => ⟨rfl, rfl⟩)
      (fun _ _ _ h g => ⟨g.1.trans h.1, g.2.trans h.2⟩) (fun k t => ⟨runRound_loop k t, (runRound_undisturbed k t).sys⟩)
      (fun k t => by rw [runRound_loop])
      (fun k j t e => by rw [runRound_aseg, if_neg fun h => e h.2.2]) hj
    have eff : (forSegs runRound s).seg j = t.seg j :=
      congrArg (fun l : LoopRec => l.segs[j]) (after.trans (runRound_loop j t))
    rw [result, eff, runRound_aseg, if_pos ⟨by rw [beforeSys]; exact run, by rw [before]; exact hj, rfl⟩]
    exact (congrArg Six.total (withGrants_grants ..)).trans_le (grantRound_total_le ..)
  · rw [sys, run] at setup
    exact nomatch setup

/-! ### What a Commit makes -/

/-- R160: the state that a Commit leaves, as the block sees it. -/
structure Committed (s t : State) : Prop where
  sys : t.sys = { s.sys with part := .run, fresh := false }
  loop : t.loop = { s.loop with segs := t.loop.segs }
  acquired : ∀ k : SegId, k.val < s.loop.n → (s.seg k).link = .present →
    (t.seg k).acquired = true ∧ (t.unit k).applied = none ∧ (t.unit k).marked = false ∧
    (t.unit k).levelsSlot = .zeroReset ∧ t.upl k = .all .cleared ∧ t.talk.seq[k] = none ∧
    ∀ e, ((t.meters k).get e).history = []
  other : ∀ k : SegId, ¬ (k.val < s.loop.n ∧ (s.seg k).link = .present) →
    { t.seg k with eff := (s.seg k).eff } = s.seg k ∧ (t.unit k).applied = (s.unit k).applied ∧
    (t.unit k).marked = (s.unit k).marked ∧ t.upl k = s.upl k
  limits : LimitsRight t
  grants : ∀ k : SegId, k.val < s.loop.n → (t.aseg k).grants.total ≤ (t.seg k).eff
  store : t.store = s.store
  inc : t.inc = s.inc
  plant : t.plant = s.plant
  meter : t.meter.policy = s.meter.policy ∧ t.meter.energy = s.meter.energy ∧ t.meter.airtime = s.meter.airtime

/-- R160 steps 1 to 3: the part has entered RUN, and its segments are acquired. -/
def acquiredAll (s : State) : State := forSegs acquireIfPresent (enterRun s)

theorem acquiredAll_inside (hn : k.val < s.loop.n) (h : (s.seg k).link = .present) :
    (acquiredAll s).records k = (s.records k).acquired s.meter.policy.settle :=
  (acquireIfPresent_acquires.pass_inside (s := enterRun s) hn).1 h

theorem acquiredAll_other (h : ¬ (k.val < s.loop.n ∧ (s.seg k).link = .present)) : (acquiredAll s).records k = s.records k := by
  by_cases hn : k.val < s.loop.n
  · exact (acquireIfPresent_acquires.pass_inside (s := enterRun s) hn).2 fun present => h ⟨hn, present⟩
  · exact acquireIfPresent_acquires.pass_beyond (s := enterRun s) (Nat.le_of_not_lt hn)

/-- R160 step 4 after the acquisitions. -/
def committedFrom (before a : State) : State :=
  settle before (talkFinish before (reactBoth (forSegs reconcile (forSegs runRound (forSegs storeLimit a)))))

theorem commitBlocks_eq (before : State) : commitBlocks before (enterRun s) = committedFrom before (acquiredAll s) := rfl

theorem committedFrom_kept (before a : State) : CommitKept a (committedFrom before a) :=
  (((((CommitKept.forSegs .storeLimit a).trans (.forSegs .runRound _)).trans (.forSegs .reconcile _)).trans (.reactBoth _)).trans
    (.talkFinish before _)).trans (.settle before _)

/-- The laws of limits and of grants hold from the rounds on. -/
theorem committedFrom_law {x : Law} (hx : x = .limits ∨ x = .grants) (before a : State) :
    Kept x (forSegs runRound (forSegs storeLimit a)) (committedFrom before a) := by
  have unsettled : x ≠ .owners := by rcases hx with rfl | rfl <;> exact nofun
  exact (((Kept.forSegs (fun k _ => kept_reconcile k) _).trans kept_reactBoth).trans (kept_talkFinish before)).trans
    (kept_settle unsettled before)

theorem committedFrom_limits (before a : State) : LimitsRight (committedFrom before a) := by
  have rounds : Kept .limits (forSegs storeLimit a) (forSegs runRound (forSegs storeLimit a)) := .forSegs (fun k _ => kept_runRound k) _
  exact committedFrom_law (.inl rfl) before a (rounds (storeLimits_right a))

theorem committedFrom_grants (before : State) {a : State} (run : a.sys.part = .run) : GrantsBounded (committedFrom before a) := by
  have part : (forSegs storeLimit a).sys.part = .run := by
    rw [(CommitKept.forSegs .storeLimit a).sys]
    exact run
  exact committedFrom_law (.inr rfl) before a (rounds_bounded part)

/-- What a Commit leaves of a segment's records. -/
theorem CommitKept.acquired {a : State} (h : CommitKept a t) {r : SegRecords} {settle : Nat} (ha : a.records k = r.acquired settle) :
    (t.seg k).acquired = true ∧ (t.unit k).applied = none ∧ (t.unit k).marked = false ∧
    (t.unit k).levelsSlot = .zeroReset ∧ t.upl k = .all .cleared ∧ t.talk.seq[k] = none ∧
    ∀ e, ((t.meters k).get e).history = [] := by
  have seg : a.seg k = { r.seg with acquired := true } := congrArg SegRecords.seg ha
  have unit : a.unit k = r.unit.acquired := congrArg SegRecords.unit ha
  have upl : a.upl k = .all .cleared := congrArg SegRecords.upl ha
  have seq : a.talk.seq[k] = none := congrArg SegRecords.seq ha
  have meters : a.meters k = acquiredMeters settle r.unit.applied r.meters := congrArg SegRecords.meters ha
  obtain ⟨applied, marked, slot⟩ := h.unit k
  rw [unit] at applied marked slot
  refine ⟨?_, applied, marked, slot rfl, (h.upl k).trans upl, (h.seq k).trans seq, fun e => ?_⟩
  · have same : (t.seg k).acquired = (a.seg k).acquired := (congrArg SegRec.acquired (h.seg k) :)
    rw [same, seg]
  · have same : t.meters k = a.meters k := congrArg (fun m : MeterRec => m.recs[k]) h.meter
    rw [same, meters]
    exact (acquiredMeters_forgotten ..).2

theorem CommitKept.other {a : State} (h : CommitKept a t) (ha : a.records k = s.records k) :
    { t.seg k with eff := (s.seg k).eff } = s.seg k ∧ (t.unit k).applied = (s.unit k).applied ∧
    (t.unit k).marked = (s.unit k).marked ∧ t.upl k = s.upl k := by
  have seg : a.seg k = s.seg k := congrArg SegRecords.seg ha
  have unit : a.unit k = s.unit k := congrArg SegRecords.unit ha
  have upl : a.upl k = s.upl k := congrArg SegRecords.upl ha
  obtain ⟨applied, marked, -⟩ := h.unit k
  rw [unit] at applied marked
  refine ⟨?_, applied, marked, (h.upl k).trans upl⟩
  have settings := h.seg k
  rw [seg] at settings
  exact (congrArg (fun r : SegRec => { r with eff := (s.seg k).eff }) settings :)

theorem loop_of_parts {a b c : LoopRec} (h : { b with segs := a.segs } = a) (g : { c with segs := b.segs } = b) :
    c = { a with segs := c.segs } := by
  rw [← g] at h
  exact (congrArg (fun l : LoopRec => { l with segs := c.segs }) h :)

theorem committed_of {a : State} (pass : RecordsOnly (enterRun s) a) (kept : CommitKept a t)
    (inside : ∀ k : SegId, k.val < s.loop.n → (s.seg k).link = .present →
      a.records k = (s.records k).acquired s.meter.policy.settle)
    (other : ∀ k : SegId, ¬ (k.val < s.loop.n ∧ (s.seg k).link = .present) → a.records k = s.records k)
    (limits : LimitsRight t) (grants : GrantsBounded t) : Committed s t := by
  have n : t.loop.n = s.loop.n := by
    have before : a.loop.n = s.loop.n := pass.n
    exact (congrArg LoopRec.n kept.loop :).trans before
  have writes := pass.writes
  have meter := kept.meter
  exact ⟨kept.sys.trans writes.sys, loop_of_parts (a := s.loop) pass.loop kept.loop,
    fun k hk present => kept.acquired (inside k hk present), fun k out => kept.other (other k out), limits,
    fun k hk => grants.1 k (by rw [n]; exact hk), kept.store.trans writes.store, kept.inc.trans writes.inc,
    kept.plant.trans writes.plant, (congrArg MeterRec.policy meter).trans pass.policy,
    (congrArg MeterRec.energy meter).trans pass.energy, (congrArg MeterRec.airtime meter).trans pass.airtime⟩

theorem commitBlocks_committed (before s : State) : Committed s (commitBlocks before (enterRun s)) := by
  rw [commitBlocks_eq]
  have pass := acquireIfPresent_acquires.pass_recordsOnly (enterRun s)
  have run : (acquiredAll s).sys.part = .run := by
    have sys : (acquiredAll s).sys = (enterRun s).sys := pass.writes.sys
    rw [sys]
    rfl
  exact committed_of pass (committedFrom_kept ..) (fun _ => acquiredAll_inside) (fun _ => acquiredAll_other)
    (committedFrom_limits before (acquiredAll s)) (committedFrom_grants before run)

theorem commitSetup_refused (h : s.loop.n = 0) : commitSetup s = refuse .badArgument s := if_pos h

theorem commitSetup_accepted (h : s.loop.n ≠ 0) : commitSetup s = (commitBlocks s (enterRun s), ⟨.ok, []⟩) := if_neg h

theorem exec_commitSetup {p : Port} (hr : Ready (.commitSetup p) s) (h : s.loop.n ≠ 0) :
    ∃ bytes t, exec (.commitSetup p) s = .next (t.hold p 0x1b ⟨.ok, []⟩) ∧ Committed (s.modPort p fun q => q.shift bytes) t := by
  have made (bytes : List Byte) := commitBlocks_committed (s.modPort p fun q => q.shift bytes) (s.modPort p fun q => q.shift bytes)
  exact ⟨_, _, exec_of_body rfl rfl hr (commitSetup_accepted h), made _⟩

end

/-- Settles O26. -/
theorem commitCommand : Obligations.CommitCommand := by
  unfold Obligations.CommitCommand
  intro p s hr
  refine ⟨fun none => ?_, fun some_ => ?_⟩
  · exact congrArg Host.Outcome.next (portCommand_served rfl hr (commitSetup_refused (s := s.modPort p _) none))
  · obtain ⟨bytes, t, done, ⟨sys, loop, acquired, other, limits, grants, store, inc, plant, policy, energy, airtime⟩⟩ :=
      exec_commitSetup hr some_
    exact ⟨_, done, hold_holding .., sys, loop, acquired, other, limits, grants, store, inc, plant, policy, energy, airtime⟩

end Sys2Proof.Machine

/-! The lapse of a port (R168): what it tears down (R59, R101, R129, R138). -/

namespace Sys2Proof.Machine

section
variable {s t u : State}

/-! ### Playout channels (R129) -/

/-- R129: a repeating channel of the lapsed port. -/
def PlayRec.lapses (owner : PlayOwner) (r : PlayRec) : Prop :=
  r.owner = owner ∧ r.state ≠ .idle ∧ ∃ p, r.program = some p ∧ p.repeats = true

theorem lapseChannel_lapses {owner : PlayOwner} {c : PChan} (h : (s.pchan c).lapses owner) : lapseChannel owner s c =
    if (s.pchan c).state = .held then endChannel c .lapsed (s.modPchan c fun r => { r with finish := true })
    else s.modPchan c fun r => { r with finish := true } := by
  obtain ⟨owned, running, p, program, repeats⟩ := h
  unfold lapseChannel
  dsimp only
  rw [program]
  exact if_pos ⟨owned, running, repeats⟩

theorem lapseChannel_spared {owner : PlayOwner} {c : PChan} (h : ¬ (s.pchan c).lapses owner) : lapseChannel owner s c = s := by
  unfold lapseChannel
  dsimp only
  cases program : (s.pchan c).program with
  | none => exact if_neg fun g => nomatch g.2.2
  | some p => exact if_neg fun ⟨owned, running, repeats⟩ => h ⟨owned, running, p, program, repeats⟩

theorem finish_pchan (c d : PChan) : (s.modPchan c fun r => { r with finish := true }).pchan d =
    if c = d then { s.pchan c with finish := true } else s.pchan d := modPchan_pchan ..

/-- R129: the channel ends where it is HELD, and finishes its message where it is not. -/
theorem lapseChannel_pchan {owner : PlayOwner} {c : PChan} (h : (s.pchan c).lapses owner) :
    ((s.pchan c).state = .held → ((lapseChannel owner s c).pchan c).state = .idle) ∧
    ((s.pchan c).state ≠ .held → (lapseChannel owner s c).pchan c = { s.pchan c with finish := true }) := by
  rw [lapseChannel_lapses h]
  refine ⟨fun held => ?_, fun free => ?_⟩
  · rw [if_pos held, endChannel_pchan, if_pos rfl]
    rfl
  · rw [if_neg free, finish_pchan, if_pos rfl]

theorem lapseChannel_other {owner : PlayOwner} {c d : PChan} (h : c ≠ d) : (lapseChannel owner s c).pchan d = s.pchan d := by
  by_cases lapses : (s.pchan c).lapses owner
  · rw [lapseChannel_lapses lapses]
    split
    · rw [endChannel_pchan, if_neg h, finish_pchan, if_neg h]
    · rw [finish_pchan, if_neg h]
  · rw [lapseChannel_spared lapses]

/-- The channels lapse one by one. -/
theorem foldl_lapseChannel_pchan (owner : PlayOwner) (s : State) (c : PChan) :
    ∃ u, u.pchan c = s.pchan c ∧ (PChan.every.foldl (lapseChannel owner) s).pchan c = (lapseChannel owner u c).pchan c := by
  simp only [PChan.every, List.foldl_cons, List.foldl_nil]
  cases c with
  | p1 =>
    refine ⟨s, rfl, ?_⟩
    rw [lapseChannel_other (by decide), lapseChannel_other (by decide), lapseChannel_other (by decide)]
  | p2 =>
    refine ⟨lapseChannel owner s .p1, lapseChannel_other (by decide), ?_⟩
    rw [lapseChannel_other (by decide), lapseChannel_other (by decide)]
  | p3 =>
    refine ⟨lapseChannel owner (lapseChannel owner s .p1) .p2, ?_, ?_⟩
    · rw [lapseChannel_other (by decide), lapseChannel_other (by decide)]
    · rw [lapseChannel_other (by decide)]
  | p4 =>
    refine ⟨lapseChannel owner (lapseChannel owner (lapseChannel owner s .p1) .p2) .p3, ?_, rfl⟩
    rw [lapseChannel_other (by decide), lapseChannel_other (by decide), lapseChannel_other (by decide)]

theorem playoutLapse_pchan {p : Port} (hp : p ≠ .c) {c : PChan} (h : (s.pchan c).lapses (portOwner p)) :
    ((s.pchan c).state = .held → ((playoutLapse p s).pchan c).state = .idle) ∧
    ((s.pchan c).state ≠ .held → (playoutLapse p s).pchan c = { s.pchan c with finish := true }) := by
  have every : playoutLapse p s = PChan.every.foldl (lapseChannel (portOwner p)) s := by
    cases p with
    | c => exact absurd rfl hp
    | o => rfl
    | e => rfl
  obtain ⟨u, same, result⟩ := foldl_lapseChannel_pchan (portOwner p) s c
  have lapsed := lapseChannel_pchan (s := u) (c := c) (by rw [same]; exact h)
  rw [same, ← result, ← every] at lapsed
  exact lapsed

/-- R126: a channel is HELD only without its finish flag. -/
theorem afterHold_finishing (owners : Vector Source 24) (b : Bool) (c : PChan) (r : PlayRec) :
    (r.state = .idle → (r.afterHold owners b c).state = .idle) ∧
    (r.finish = true → (r.afterHold owners b c).state = .idle ∨ (r.afterHold owners b c).finish = true) := by
  by_cases playing : r.state = .playing
  · refine ⟨fun idle => (nomatch playing.symm.trans idle), fun finish => ?_⟩
    unfold PlayRec.afterHold
    split
    · exact .inl rfl
    · exact .inr finish
  · rw [afterHold_of_not_playing _ _ _ playing]
    exact ⟨id, .inr⟩

/-- R144: at the end of the event a finishing channel has ended, or finishes still. -/
theorem settle_finishing (before : State) {c : PChan} (h : (s.pchan c).state ≠ .held) :
    ((s.pchan c).state = .idle → ((settle before s).pchan c).state = .idle) ∧
    ((s.pchan c).finish = true → ((settle before s).pchan c).state = .idle ∨ ((settle before s).pchan c).finish = true) := by
  unfold settle
  split
  · exact ⟨id, .inr⟩
  · rw [recomputeOwners_pchan none s h]
    exact afterHold_finishing ..

theorem lapseChannel_frame (owner : PlayOwner) (c : PChan) : Undisturbed s (lapseChannel owner s c) ∧
    Writes [.ports, .play] s (lapseChannel owner s c) := by
  by_cases lapses : (s.pchan c).lapses owner
  · have quiet : Undisturbed s (s.modPchan c fun r => { r with finish := true }) := modPchan_undisturbed s c _ fun _ => rfl
    have frame : Writes [.ports, .play] s (s.modPchan c fun r => { r with finish := true }) := (writes_modPchan c _).mono (by decide)
    rw [lapseChannel_lapses lapses]
    split
    · exact ⟨quiet.trans (endChannel_undisturbed ..), frame.trans (writes_endChannel ..)⟩
    · exact ⟨quiet, frame⟩
  · rw [lapseChannel_spared lapses]
    exact ⟨.refl s, .refl s⟩

theorem playoutLapse_frame (p : Port) : Undisturbed s (playoutLapse p s) ∧ Writes [.ports, .play] s (playoutLapse p s) := by
  have every (owner : PlayOwner) : Undisturbed s (PChan.every.foldl (lapseChannel owner) s) ∧
      Writes [.ports, .play] s (PChan.every.foldl (lapseChannel owner) s) :=
    ⟨.foldl _ (fun _ c => (lapseChannel_frame owner c).1) _ s, .foldl (fun _ c => (lapseChannel_frame owner c).2) _ s⟩
  cases p with
  | c => exact ⟨.refl s, .refl s⟩
  | o => exact every _
  | e => exact every _

/-! ### What the lapse of each port tears down -/

/-- The port records are as they were, but for their queues. -/
def PortsKept (s t : State) : Prop := ∀ q, (t.port q).settings = (s.port q).settings

theorem PortsKept.trans (h : PortsKept s t) (g : PortsKept t u) : PortsKept s u := fun q => (g q).trans (h q)

theorem PortsKept.of_ports (h : t.ports = s.ports) : PortsKept s t := fun q => by rw [State.port, h]; rfl

/-- The blocks that a lapse tears down. -/
def lapseFields : List Field := [.ports, .play, .brk, .talk, .alloc, .engine]

theorem writes_talkLapse : Writes lapseFields s (talkLapse s) :=
  (((writes_unkeyFloor .t1).trans (writes_unkeyFloor .t2)).mono (by decide)).trans ((writes_talkFinish s).mono (by decide))

theorem talkLapse_ports : PortsKept s (talkLapse s) := by
  have keys : (unkeyFloor .t2 (unkeyFloor .t1 s)).ports = s.ports := ((writes_unkeyFloor .t1).trans (writes_unkeyFloor .t2)).ports
  exact (PortsKept.of_ports keys).trans (talkFinish_undisturbed s _).port

theorem writes_clearLive (p : Port) : Writes [.brk] s (clearLive p s) := by
  cases p with
  | o => exact writes_brk _
  | e => exact writes_brk _
  | c => exact .refl s

/-- R59: the carrier requests of segments 1 to N. -/
def requestsCut (s : State) : State := forSegs (fun k t => t.modAseg k AllocSeg.requestsToFloors) s

theorem writes_requestsCut : Writes [.alloc] s (requestsCut s) := .forSegs (fun _ _ => writes_alloc _) s

theorem writes_allocLapse : Writes lapseFields s (allocLapse s) :=
  (writes_requestsCut.mono (by decide)).trans ((writes_roundsWhereChanged _).mono (by decide))

theorem allocLapse_ports : PortsKept s (allocLapse s) :=
  (PortsKept.of_ports writes_requestsCut.ports).trans (roundsWhereChanged_undisturbed s.alloc (requestsCut s)).port

theorem writes_tearDown (p : Port) : Writes lapseFields s (tearDown p s) := by
  have channels (p : Port) := (playoutLapse_frame (s := s) p).2
  cases p with
  | o => exact ((channels .o).mono (by decide)).trans ((writes_clearLive .o).mono (by decide))
  | e => exact (((channels .e).mono (by decide)).trans ((writes_clearLive .e).mono (by decide))).trans writes_talkLapse
  | c => exact writes_allocLapse

theorem tearDown_ports (p : Port) : PortsKept s (tearDown p s) := by
  have channels (p : Port) : PortsKept s (playoutLapse p s) := (playoutLapse_frame p).1.port
  cases p with
  | o => exact (channels .o).trans (.of_ports (writes_clearLive .o).ports)
  | e => exact ((channels .e).trans (.of_ports (writes_clearLive .e).ports)).trans talkLapse_ports
  | c => exact allocLapse_ports

theorem tearDown_play {p : Port} (hp : p ≠ .c) : (tearDown p s).play = (playoutLapse p s).play := by
  cases p with
  | c => exact absurd rfl hp
  | o => exact (writes_clearLive .o).play
  | e =>
    have talk : Writes [.ports, .talk, .alloc, .engine] (clearLive .e (playoutLapse .e s)) (talkLapse (clearLive .e (playoutLapse .e s))) :=
      (((writes_unkeyFloor .t1).trans (writes_unkeyFloor .t2)).mono (by decide)).trans ((writes_talkFinish _).mono (by decide))
    exact talk.play.trans (writes_clearLive .e).play

theorem tearDown_pchan {p : Port} (hp : p ≠ .c) (c : PChan) : (tearDown p s).pchan c = (playoutLapse p s).pchan c :=
  congrArg (fun r : PlayTable => r.chans.pget c) (tearDown_play hp)

/-! ### Live records -/

theorem playoutLapse_brk (p : Port) : (playoutLapse p s).brk = s.brk := (playoutLapse_frame p).2.brk

theorem clearLive_o (s : State) : (clearLive .o s).brk = { s.brk with liveO := none } := rfl

theorem clearLive_e (s : State) : (clearLive .e s).brk = { s.brk with liveE := none } := rfl

theorem tearDown_live : ((tearDown .o s).brk.liveO = none ∧ (tearDown .o s).brk.liveE = s.brk.liveE) ∧
    ((tearDown .e s).brk.liveE = none ∧ (tearDown .e s).brk.liveO = s.brk.liveO) ∧ (tearDown .c s).brk = s.brk := by
  have talk : (tearDown .e s).brk = (clearLive .e (playoutLapse .e s)).brk := by
    have writes : Writes [.ports, .talk, .alloc, .engine] (clearLive .e (playoutLapse .e s)) (talkLapse (clearLive .e (playoutLapse .e s))) :=
      (((writes_unkeyFloor .t1).trans (writes_unkeyFloor .t2)).mono (by decide)).trans ((writes_talkFinish _).mono (by decide))
    exact writes.brk
  have alloc : (tearDown .c s).brk = s.brk := by
    have writes : Writes [.ports, .talk, .alloc, .engine] s (allocLapse s) :=
      (writes_requestsCut.mono (by decide)).trans ((writes_roundsWhereChanged _).mono (by decide))
    exact writes.brk
  have o : (tearDown .o s).brk = { (playoutLapse .o s).brk with liveO := none } := clearLive_o _
  rw [clearLive_e, playoutLapse_brk] at talk
  rw [playoutLapse_brk] at o
  rw [o, talk]
  exact ⟨⟨rfl, rfl⟩, ⟨rfl, rfl⟩, alloc⟩

/-! ### Keys (R101) -/

theorem unkeyFloors_chan (c : Chan) : ∃ now hang vote,
    (unkeyFloor .t2 (unkeyFloor .t1 s)).chan c = floorUnkey now hang vote (s.chan c) := by
  rw [unkeyFloor_eq, unkeyFloor_eq]
  cases c with
  | t1 => exact ⟨_, _, _, rfl⟩
  | t2 => exact ⟨_, _, _, rfl⟩

theorem floorEnd_notOutbound (now : Word) (hang : Nat) (vote : Option SegId) (r : TalkRec) :
    (floorEnd now hang vote r).floor ≠ .outbound := by
  unfold floorEnd floorHang
  split
  · exact nofun
  · dsimp only
    split <;> exact nofun

/-- R92: where OUTBOUND means KEYED, an UNKEY leaves no channel OUTBOUND. -/
theorem floorUnkey_notOutbound (now : Word) (hang : Nat) (vote : Option SegId) {r : TalkRec} (h : r.floor = .outbound → r.key = .keyed) :
    (floorUnkey now hang vote r).floor ≠ .outbound := by
  by_cases outbound : r.floor = .outbound
  · simp only [floorUnkey, outbound, h outbound]
    exact floorEnd_notOutbound _ _ _ _
  · unfold floorUnkey
    split
    · next floor => exact absurd floor outbound
    · exact outbound
    · exact outbound
    · exact outbound

theorem lapseFinish_chan (c : Chan) (v : State) :
    ((talkLapse v).chan c).settings = ((unkeyFloor .t2 (unkeyFloor .t1 v)).chan c).settings :=
  (talkFinish_undisturbed v (unkeyFloor .t2 (unkeyFloor .t1 v))).chan c

theorem lapse_chan (c : Chan) : ∃ now hang vote, ((tearDown .e s).chan c).settings = (floorUnkey now hang vote (s.chan c)).settings := by
  have before : (clearLive .e (playoutLapse .e s)).talk = s.talk := (writes_clearLive .e).talk.trans (playoutLapse_talk .e s)
  have same : (clearLive .e (playoutLapse .e s)).chan c = s.chan c := congrArg (fun r : TalkTable => r.chans.get c) before
  obtain ⟨now, hang, vote, made⟩ := unkeyFloors_chan (s := clearLive .e (playoutLapse .e s)) c
  refine ⟨now, hang, vote, ?_⟩
  rw [same] at made
  rw [← made]
  exact lapseFinish_chan c _

/-! ### Carrier requests (R59) -/

theorem carrier_of_settings {a b : AllocSeg} (h : a.settings = b.settings) (e : Carrier) : (a.c.get e).floor = (b.c.get e).floor ∧
    (a.c.get e).suspended = (b.c.get e).suspended ∧ (a.c.get e).request = (b.c.get e).request := by
  have entry : ({ a.c.get e with grant := 0 } : CarrierEntry) = { b.c.get e with grant := 0 } := by
    have four := congrArg (fun x : AllocSeg => x.c.get e) h
    cases e <;> exact four
  exact ⟨(congrArg CarrierEntry.floor entry :), (congrArg CarrierEntry.suspended entry :), (congrArg CarrierEntry.request entry :)⟩

theorem requestsCut_aseg (k : SegId) : (requestsCut s).aseg k =
    if k.val < s.loop.n then (s.aseg k).requestsToFloors else s.aseg k :=
  forSegs_view_of_map (view := State.aseg) (f := fun k t => t.modAseg k AllocSeg.requestsToFloors) (g := fun _ => AllocSeg.requestsToFloors) (fun _ _ => rfl)
    (fun k j t => modAseg_aseg ..) s k

theorem requestsToFloors_get (a : AllocSeg) (e : Carrier) :
    a.requestsToFloors.c.get e = { a.c.get e with request := (a.c.get e).floor } := by cases e <;> rfl

theorem allocLapse_aseg (k : SegId) (e : Carrier) : (((tearDown .c s).aseg k).c.get e).floor = ((s.aseg k).c.get e).floor ∧
    (((tearDown .c s).aseg k).c.get e).suspended = ((s.aseg k).c.get e).suspended ∧
    (((tearDown .c s).aseg k).c.get e).request =
      if k.val < s.loop.n then ((s.aseg k).c.get e).floor else ((s.aseg k).c.get e).request := by
  have rounds := (roundsWhereChanged_undisturbed s.alloc (requestsCut s)).aseg k
  obtain ⟨floor, suspended, request⟩ := carrier_of_settings rounds e
  rw [requestsCut_aseg] at floor suspended request
  by_cases inside : k.val < s.loop.n
  · rw [if_pos inside, requestsToFloors_get] at floor suspended request
    rw [if_pos inside]
    exact ⟨floor, suspended, request⟩
  · rw [if_neg inside] at floor suspended request
    rw [if_neg inside]
    exact ⟨floor, suspended, request⟩

/-! ### The row -/

/-- R168: the port is LAPSED, and this is announced. -/
def lapsed (p : Port) (s : State) : State := raiseLapsed p (s.modPort p fun q => { q with lapsed := true, arm := false, expiry := none })

theorem exec_portLapse {p : Port} (h : .portLapse p ∈ dueRows s) :
    exec (.portLapse p) s = .next (settle s (tearDown p (lapsed p s))) := by
  have due : lapseDue s p = true := (mem_dueRows.mp h).2
  exact congrArg Host.Outcome.next ((if_neg (Bool.eq_false_iff.mp (held_of_due h))).trans (if_pos due))

theorem lapsed_port (p q : Port) : ((lapsed p s).port q).settings =
    if p = q then { (s.port p).settings with lapsed := true, arm := false, expiry := none } else (s.port q).settings := by
  refine (raise_undisturbed ..).port q |>.trans ?_
  rw [modPort_port]
  split <;> rfl

theorem writes_lapsed (p : Port) : Writes [.ports] s (lapsed p s) := (writes_modPort p _).trans (writes_raise ..)

/-- R129: a repeating channel of the lapsed port, at the end of the event. -/
theorem lapse_finishing {p : Port} (hp : p ≠ .c) {c : PChan} (before : State) (h : (s.pchan c).lapses (portOwner p)) :
    ((s.pchan c).state = .held → ((settle before (tearDown p s)).pchan c).state = .idle) ∧
    (((settle before (tearDown p s)).pchan c).state = .idle ∨ ((settle before (tearDown p s)).pchan c).finish = true) := by
  obtain ⟨whenHeld, whenFree⟩ := playoutLapse_pchan hp h
  have same : (tearDown p s).pchan c = (playoutLapse p s).pchan c := tearDown_pchan hp c
  rw [← same] at whenHeld whenFree
  generalize tearDown p s = v at *
  by_cases held : (s.pchan c).state = .held
  · have idle := whenHeld held
    have ends := (settle_finishing (s := v) before (c := c) (by rw [idle]; exact nofun)).1 idle
    exact ⟨fun _ => ends, .inl ends⟩
  · have finish := whenFree held
    have free : (v.pchan c).state ≠ .held := by rw [finish]; exact held
    exact ⟨fun now => absurd now held, (settle_finishing (s := v) before free).2 (by rw [finish])⟩

end

/-- Settles O14. -/
theorem portLapses : Obligations.PortLapses := by
  unfold Obligations.PortLapses
  intro p s due
  have frame := writes_tearDown (s := lapsed p s) p
  have ports := tearDown_ports (s := lapsed p s) p
  have settled := writes_settle (s := tearDown p (lapsed p s)) s
  have ends := settle_undisturbed s (tearDown p (lapsed p s))
  have live := settle_live s (tearDown p (lapsed p s))
  refine ⟨_, exec_portLapse due, ?_, fun q other => ?_, settled.sys.trans frame.sys, settled.inc.trans frame.inc,
    settled.store.trans frame.store, settled.plant.trans frame.plant, settled.meter.trans frame.meter, ?_, ?_, ?_, ?_⟩
  · refine (ends.port p).trans ((ports p).trans ?_)
    rw [lapsed_port, if_pos rfl]
  · refine (ends.port q).trans ((ports q).trans ?_)
    rw [lapsed_port, if_neg (Ne.symm other)]
  · rintro rfl
    obtain ⟨⟨liveO, liveE⟩, -, -⟩ := tearDown_live (s := lapsed .o s)
    exact ⟨live.2.trans liveO, live.1.trans liveE⟩
  · rintro rfl
    obtain ⟨-, ⟨liveE, liveO⟩, -⟩ := tearDown_live (s := lapsed .e s)
    refine ⟨live.1.trans liveE, live.2.trans liveO, fun c => ?_, fun keys c => ?_⟩
    · obtain ⟨now, hang, vote, made⟩ := lapse_chan (s := lapsed .e s) c
      have settings := (ends.chan c).trans made
      exact (congrArg TalkRec.key settings :).trans (floorUnkey_frame now hang vote _).2.2
    · obtain ⟨now, hang, vote, made⟩ := lapse_chan (s := lapsed .e s) c
      have settings := (ends.chan c).trans made
      have floor := (congrArg TalkRec.floor settings :)
      have keyed : ((lapsed .e s).chan c).floor = .outbound → ((lapsed .e s).chan c).key = .keyed :=
        fun outbound => (keys c).1.mpr (.inl outbound)
      exact fun outbound => floorUnkey_notOutbound now hang vote keyed (floor.symm.trans outbound)
  · intro hp c prog owned program repeats
    have same : (lapsed p s).pchan c = s.pchan c := congrArg (fun r : PlayTable => r.chans.pget c) (writes_lapsed p).play
    have ended := lapse_finishing (s := lapsed p s) (c := c) hp s
    rw [same] at ended
    have lapses (running : (s.pchan c).state ≠ .idle) : (s.pchan c).lapses (portOwner p) := ⟨owned, running, prog, program, repeats⟩
    exact ⟨fun held => (ended (lapses (by rw [held]; exact nofun))).1 held, fun running => (ended (lapses running)).2⟩
  · rintro rfl
    obtain ⟨-, -, brk⟩ := tearDown_live (s := lapsed .c s)
    refine ⟨live.1.trans (congrArg BreakRec.liveE brk), live.2.trans (congrArg BreakRec.liveO brk), fun k e => ?_⟩
    have same : (settle s (tearDown .c (lapsed .c s))).aseg k = (tearDown .c (lapsed .c s)).aseg k :=
      congrArg (fun a : AllocRec => a.segs[k]) settled.alloc
    rw [same]
    exact allocLapse_aseg k e

end Sys2Proof.Machine

/-! SURVEY_TIMEOUT (R10) refutes the statement on survey rounds: a directive in flight to a segment that is not acquired. -/

namespace Sys2Proof.Machine

/-- The entry of a unit seen DORMANT, without measured levels. -/
def dormantEntry : SurveyEntry :=
  { serial := 7, mode := .dormant, forced := false, temp := some .normal, supply := .ok, uplink := ⟨none, none⟩, measured := none }

/-- A directive paused with attempt 3 due (R29). -/
def pausedAtThree : Directive :=
  { content := .zeroReset, rouse := false, step := .main, attempt := 2, side := .left, paused := some 3, window := none,
    waitUntil := none, awake := false, reason := .noReply }

/-- A segment MISSING and not acquired, with a paused directive and known applied levels, in a round whose right survey has come
back and whose left survey has not. The segment returns in reach RIGHT alone, so R29 fails the directive after the acquisition and
marks the unit, and R35 makes its applied levels 0 in the same evaluation: each entry starts a holdoff. -/
def unacquiredInFlight : State :=
  { State.reset with
    sys := { State.reset.sys with part := .run, uptime := 40 }
    loop := { State.reset.loop with
      n := 1, surveys := ⟨.inFlight 0, .ended (.returned [dormantEntry])⟩,
      segs := vupd State.reset.loop.segs 0 fun r => { r with link := .missing, miss := 1, serial := some 7 } }
    engine := { State.reset.engine with
      units := vupd State.reset.engine.units 0 fun u => { u with inflight := some pausedAtThree, applied := some (.all 0) } } }

theorem leftTimeout_due : .surveyTimeout .left ∈ dueRows unacquiredInFlight := mem_dueRows.mpr ⟨rfl, by decide⟩

theorem leftTimeout_exec : exec (.surveyTimeout .left) unacquiredInFlight = .next (surveyTimeout .left unacquiredInFlight) :=
  congrArg Host.Outcome.next (if_neg Bool.false_ne_true)

/-- The holdoff of the new applied levels. -/
theorem leftTimeout_settle : (((surveyTimeout .left unacquiredInFlight).meters 0).get .c1).settle = 3 := by decide +kernel

/-- Refutes O40: an acquisition does not leave the holdoff at 0 where a directive paused with attempt 3 due fails at the return of a
DORMANT unit, since the PROBE of R35 then writes the applied levels of the acquired segment. -/
theorem not_surveyRounds : ¬ Obligations.SurveyRounds := by
  unfold Obligations.SurveyRounds
  rintro ⟨-, -, timeouts⟩
  obtain ⟨-, due⟩ := timeouts .left unacquiredInFlight
  obtain ⟨-, evaluated⟩ := due leftTimeout_due
  obtain ⟨t, done, round, -⟩ := evaluated (.returned [dormantEntry]) rfl
  have result : t = surveyTimeout .left unacquiredInFlight := (Host.Outcome.next.inj (leftTimeout_exec.symm.trans done)).symm
  obtain ⟨-, -, known⟩ := ((round rfl).meters 0 (by decide)).acquired (by decide) .c1
  obtain ⟨settled, -⟩ := known (by decide)
  rw [result, leftTimeout_settle] at settled
  exact absurd settled (by decide)

end Sys2Proof.Machine
